-- ==== Sys2Proof/Word.lean ====
section
/-!
DEFINITION. The word and octet types of the spec (R3, R4) and their plainest arithmetic.
-/

namespace Sys2Proof

/-- A 32-bit register or program word (R4). -/
abbrev Word := BitVec 32
/-- An octet (R3). -/
abbrev Byte := BitVec 8

/-- The number below `2^w` that `n` leaves. -/
def low (w n : Nat) : Nat := n % 2 ^ w

/-- Bits `lo + w - 1 : lo` of `n` (R4: bit 0 is the least significant). -/
def bits (n lo w : Nat) : Nat := n / 2 ^ lo % 2 ^ w

/-- Bit `i` of `n`. -/
def bit (n i : Nat) : Bool := n.testBit i

/-- The signed value of a `w`-bit field. -/
def sext (w n : Nat) : Int := if n % 2 ^ w < 2 ^ (w - 1) then (n % 2 ^ w : Nat) else (n % 2 ^ w : Nat) - (2 ^ w : Nat)

/-- A signed value as a `w`-bit field, two's complement. -/
def wrap (w : Nat) (i : Int) : Nat := (i % (2 ^ w : Nat)).toNat

/-- Least significant octet first (R4). -/
def octets : Nat → Nat → List Byte
  | 0, _ => []
  | k + 1, n => BitVec.ofNat 8 n :: octets k (n / 256)

/-- The number that octets, least significant first, spell (R4). -/
def ofOctets : List Byte → Nat
  | [] => 0
  | b :: t => b.toNat + 256 * ofOctets t

end Sys2Proof
end

