-- ==== Sys2Proof/Syntax.lean ====
section
/-!
DEFINITION. The commands of the block (spec/opcode_table.json): one constructor per row of the table,
with the row's operands. Where a command reports something the outside world measures or decides
(a stamp, an energy, a test result), the sender supplies it as an operand.
-/

namespace Sys2Proof

/-- Who executes an Ihlesque instruction (R290): a partition's context (image B of a dual-image
window told apart, R353), SV, RSA, RSB or CE. -/
inductive Ctx where
  | part (p : Fin 32) (imgB : Bool)
  | sv
  | rsa
  | rsb
  | ce
  deriving DecidableEq, Repr

/-- The commands. -/
inductive Instr where
  /-- A write to a register field that has no behaviour of its own sets the field under its access code. (R5) -/
  | registerWrite (tag : Fin 64) (bank : Fin 32) (addr : Nat) (w : Word)
  /-- A write of PKT_CTL.EN stops the packet handler or restores it from the next cycle. (R619) -/
  | pktEnableWrite (en : Bool)
  /-- A write of AIR_CTL.EN stops admission and releases reservations unsent, or restores normal working. (R619) -/
  | airEnableWrite (en : Bool)
  /-- A write of ASC_CTL.EN stops association lookup and holds the wheel, or re-arms every entry. (R619) -/
  | ascEnableWrite (en : Bool)
  /-- A write of KEY_CTL.EN to 0 zeroes every key slot and refuses secured work; 1 restores it. (R619) -/
  | keyEnableWrite (en : Bool)
  /-- The XO leaves START after 1.0 ms and delivers its output to its users, CLKOUT included. (R30) -/
  | xoStartDone
  /-- The clock monitor reports an XO stop or a deviation above 5 %, which is a tamper source. (R31) -/
  | xoClockFault (pre : Bool)
  /-- A declared loss of system-PLL lock switches SYSCLK to the XO and enters FALLBACK. (R49) -/
  | systemPllLoss
  /-- 10 ms after a loss or a failed attempt, the PLL is recalibrated for at most 200 µs. (R53) -/
  | relockAttempt
  /-- At the end of the recalibration the attempt fails if the PLL has not locked, or the 100 µs hold begins. (R53) -/
  | relockRecalibrationEnd (locked : Bool)
  /-- Lock held for 100 µs makes the relock attempt succeed. (R53) -/
  | relockHoldEnd (held : Bool)
  /-- At the tick boundary after a successful relock SYSCLK returns to 64 MHz and suspended slots resume. (R53) -/
  | fallbackExit
  /-- A write of CLK_CTL.FORCEFB runs the FALLBACK sequence as for a real loss, without counting it. (R54) -/
  | forceFallback
  /-- A read of TBS_TICKL returns the low word and latches the high word for the reading tag. (R38) -/
  | ticklRead (tag : Fin 64) (imgB : Bool)
  /-- A write of TBS_SETH commits an absolute timebase set, or is refused with SETREJ while DISCONT is 0. (R43) -/
  | timebaseSetWrite (w : Word)
  /-- A write of TBS_ADJ sets or replaces the signed adjustment pending for the next tick boundary. (R44) -/
  | timebaseAdjustWrite (w : Word)
  /-- A write of TBS_PSTEP starts or replaces a sequence of phase steps, or is refused in FALLBACK. (R45) -/
  | phaseStepWrite (w : Word)
  /-- At a tick boundary a pending set, adjustment, clock switch and phase step are applied in order. (R46) -/
  | tickBoundaryApply
  /-- When INTERVAL ticks have passed, the next phase step of the sequence is applied. (R45) -/
  | phaseStep
  /-- A write of TBS_TMRnH makes the whole 62-bit compare value of the timer current. (R47) -/
  | timerCompareCommit (p : Fin 32) (n : Fin 4) (w : Word)
  /-- A partition timer reaches its compare value, raises EV_TIMERn and, if periodic, advances its compare value. (R47) -/
  | timerExpiry (p : Fin 32) (n : Fin 4)
  /-- The timebase reaches a whole second and the TICK_OUT pin rises. (R48) -/
  | tickOutPulse
  /-- After WIDTH ticks the TICK_OUT pin falls. (R48) -/
  | tickOutPulseEnd
  /-- An accepted write of SYNx_FREQ starts a frequency command; an invalid word is refused. (R57) -/
  | frequencyCommand (x : Fin 3) (w : Word)
  /-- A write of SYNx_CTL.EN starts the stored command or stops the loop without a loss declaration. (R58) -/
  | synthEnableWrite (x : Fin 3) (en : Bool)
  /-- A synthesiser's LOCK rises after 64 good comparisons, unblanking its chain's slots. (R62) -/
  | synthLock (x : Fin 3)
  /-- A synthesiser loses lock without a command, with the effects on receive and transmit of R72 and R73. (R62) -/
  | synthLockLoss (x : Fin 3)
  /-- 60 µs after a loss without relock, the synthesiser takes the table coarse code again. (R71) -/
  | synthReacquireEnd (x : Fin 3)
  /-- 500 µs without lock sets FAIL, holds the synthesiser off, logs the loss and notifies SV. (R71) -/
  | synthLockFail (x : Fin 3)
  /-- SV starts an atomic SYNT calibration step when no fixed-start transmission or acknowledgement is at risk. (R67) -/
  | syntCalStepStart (dur : Nat)
  /-- A SYNT calibration step ends by recommanding the latest target. (R66) -/
  | syntCalStepEnd
  /-- A write of SYNT_PHASE.STEPS rotates the carrier phase by the given steps. (R69) -/
  | carrierPhaseStep (steps : BitVec 12)
  /-- Setting SYNT_CTL.PHTRACK starts a phase track; clearing it discards the track. (R70) -/
  | phaseTrackWrite (on : Bool)
  /-- ADC peak above −HIGH dBFS on two samples raises the chain's gain index by one. (R84) -/
  | agcAttack (x : Fin 2)
  /-- After HOLD µs below −LOW dBFS the gain index falls by one. (R84) -/
  | agcDecay (x : Fin 2)
  /-- A write of AGCMODE or MANGAIN changes the AGC operation within 1 µs, compensated in every slot. (R86) -/
  | agcModeWrite (x : Fin 2) (w : Word)
  /-- Clearing RXx_CTL.EN blanks the chain's slots and loses their frames in split operation. (R107) -/
  | chainEnableWrite (x : Fin 2) (en : Bool)
  /-- A write of RXx_SVC.REQ = 1 removes the chain at once in combined operation or starts draining in split operation. (R96) -/
  | chainRemovalRequest (x : Fin 2)
  /-- A write of RXx_SVC.REQ = 0 powers the chain up and sets it RETURNING. (R101) -/
  | chainReturnRequest (x : Fin 2)
  /-- A dropped branch rejoins a slot's combining once its weight has been re-estimated over 16 symbols. (R92) -/
  | branchRejoin (k : Fin 128) (b : Bool)
  /-- At a beacon boundary the pending profile, operation, plan, chain removal, image switches and beacon contents take effect in order. (R206) -/
  | beaconBoundary
  /-- Clearing CHB_CTL.EN loses every frame, releases cancellers and sets every slot OFF. (R107) -/
  | bankEnableWrite (en : Bool)
  /-- A write of CHB_CTL.CLRCNT clears every CHB counter of every slot. (R143) -/
  | chbClearCounters
  /-- A write of CHB_PLANCTL.LOAD locks the plan image and starts its load and check. (R113) -/
  | planLoad
  /-- The plan check completes and the image becomes the pending plan or is refused with a REASON. (R112) -/
  | planLoadDone
  /-- A write of CHB_PLANCTL.CANCEL discards the pending plan. (R113) -/
  | planCancel
  /-- A write of CHB_PLANCTL.NOW schedules the pending plan for the next tick boundary or is refused with NOWREJ. (R115) -/
  | planNow
  /-- At the next tick boundary after an accepted NOW the pending plan becomes active. (R115) -/
  | planNowActivation
  /-- Each quarter symbol a hypothesis's detector evaluates its statistic and may start or restart a sync search. (R122) -/
  | preambleDetection (k : Fin 128) (h : Fin 3) (lam : Nat) (foff dP : Int)
  /-- A sync search ends without result SYNCTO symbols after its detection. (R124) -/
  | syncSearchTimeout (k : Fin 128) (h : Fin 3)
  /-- A found sync word claims the slot, stamps the frame and moves the slot to FRAME. (R125) -/
  | syncWordFound (k : Fin 128) (h : Fin 3) (stamp : BitVec 62) (rssi : Int) (rssiA rssiB : Option Int) (snr foff : Int) (sfdc : Bool)
  /-- An overlap that outlasts the canceller's recording abandons recovery of the weaker frame. (R132) -/
  | cancellerRecordingEnd (k : Fin 128)
  /-- A frame recovered from a residual reaches PKT with its own stamp and the SIC flag. (R133) -/
  | sicRecoveryDone (k : Fin 128) (stamp : BitVec 62) (rssi : Int) (rssiA rssiB : Option Int) (snr foff : Int)
  /-- At the end of each 40-tick period every enabled slot records an energy sample. (R138) -/
  | energySample (e n0 : List (Nat × Int))
  /-- At a quantum boundary a decoder switches to the waiting context of highest class. (R171) -/
  | decoderQuantumEnd (d : Fin 4) (ready : List Nat) (lat : Nat)
  /-- A write of TRL_SVC.OUT takes a decoder out of service or returns it, or is refused. (R175) -/
  | decoderServiceWrite (out : BitVec 4)
  /-- PKT checks a decoded PHR, ends failing frames and reserves receive-region blocks. (R178) -/
  | phrDecoded (fid : Fin 256) (phr : BitVec 24)
  /-- The decoded MHR is handed to AIR and ASC for partition selection, matching and acknowledgement reservation. (R181) -/
  | mhrDecoded (fid : Fin 256) (o : List Byte)
  /-- SEC finishes the security checks and MIC comparison of a received frame. (R380) -/
  | micVerdict (fid : Nat) (hdr body : List Byte)
  /-- At the end of a frame the FCS and MIC verdicts decide discard or release. (R182) -/
  | frameEnd (fid : Fin 256) (psdu : List Byte) (lqi : Byte)
  /-- A released frame's record has been copied into the receive ring; WR advances and EV_RX_FRAME is raised. (R618) -/
  | rxRecordWritten (q : Nat)
  /-- 100 ticks before an acknowledgement's T0 it is committed if the tag verified, else withdrawn. (R21) -/
  | ackCommitPoint (id : Nat)
  /-- A write of PKT_CTL.CLRCNT clears every PKT counter and PEAK. (R178) -/
  | pktClearCounters
  /-- A write to a transmit profile register is checked against the whole profile and refused on failure. (R185) -/
  | profileWrite (n : Fin 16) (k : Fin 3) (w : Word)
  /-- A write of TXM_TAPCTL.COMMITs makes a custom tap set current or is refused. (R192) -/
  | tapCommit (w : Word)
  /-- A write of RXPAT or OFFPAT drives the front-end pins from the next cycle the pattern applies. (R199) -/
  | femPatternWrite (w : Word)
  /-- A waiting frame's bucket reaches its airtime, which is drawn, and the frame joins the order of R284. (R283) -/
  | airtimeDrawn (id : Nat)
  /-- A frame still waiting at its latest start ends with DEFERRED or its regulatory refusal. (R283) -/
  | latestStartExpiry (id : Nat)
  /-- A frame held by dwell, duty or MINOFF reaches the earliest admissible T0 and is admitted again. (R214) -/
  | regulatoryWaitEnd (id : Nat)
  /-- Listen-before-talk decides clear or busy from the N latest valid energy samples. (R221) -/
  | lbtDecision (id : Nat) (e : List Int)
  /-- A random backoff ends and admission and listening run again. (R220) -/
  | backoffEnd (id : Nat)
  /-- AIR releases a transmission to RSA and raises TXREL. (R341) -/
  | transmissionRelease (id : Nat)
  /-- A bound transmission without a fixed start that can no longer meet R226 is withdrawn from RSA. (R341) -/
  | transmissionWithdrawal
  /-- At T0 − 350 ticks AIR commands SYNT to a fixed-start frame's frequency. (R226) -/
  | syntPretune (id : Nat)
  /-- At T0 − 20 ticks a fixed-start frame requiring LBT is decided and is not sent if busy. (R223) -/
  | fixedStartLbtCheck (id : Nat)
  /-- The lock-wait limit of a bound transmission arrives and TLIM is raised. (R65) -/
  | txLockWaitLimit
  /-- LEAD after T0 the PA ramp-up begins. (R196) -/
  | rampUpStart
  /-- The last symbol ends and ramp-down starts. (R196) -/
  | symbolsEnd
  /-- Ramp-down ends, the PA turns off and a held SYNT command starts. (R196) -/
  | rampDownEnd
  /-- The interval ends, pins return to RXPAT and airtime is charged. (R197) -/
  | transmitIntervalEnd
  /-- 12 ticks after the interval blanking ends and slots detect again. (R93) -/
  | blankingEnd
  /-- A monitor measurement period ends and each bin is compared with the mask. (R201) -/
  | maskPeriodEnd (pw : List (Nat × Int))
  /-- No acknowledgement within ACKWAIT ms of the frame's end raises EV_ACK_TIMEOUT. (R427) -/
  | ackTimeout (id : Nat)
  /-- RETRYDLY ms after a deferral under ONDEFER 1 the frame returns to step 2. (R236) -/
  | deferRetry (id : Nat)
  /-- A write of AIR_BPER, AIR_BCNP.BDIV or COL_TX.BDIV is checked against the BPER bound. (R232) -/
  | beaconPeriodWrite (which : Fin 3) (p : Fin 32) (w : Word)
  /-- A write of AIR_CTL.CLRCNT clears all AIR counters in every bank. (R237) -/
  | airClearCounters
  /-- A write of AIR_REGCTL.LOAD locks the image and starts the regulatory profile load. (R209) -/
  | regulatoryLoadWrite
  /-- The profile load completes and becomes pending or is refused with a REASON. (R209) -/
  | regulatoryLoadDone
  /-- A write of AIR_REGCTL.CANCEL discards the pending profile. (R209) -/
  | regulatoryCancel
  /-- A write of AIR_REGCTL.NOW schedules activation with no profile active, or is refused. (R210) -/
  | regulatoryNow
  /-- At the next tick boundary the pending profile becomes active. (R210) -/
  | regulatoryNowActivation
  /-- At g − 1000 ticks AIR builds and reserves the partition's group acknowledgement. (R230) -/
  | groupAckBuild (p : Fin 32)
  /-- A partition's beacon is built and reserved after its boundary. (R232) -/
  | beaconBuild (p : Fin 32)
  /-- A write of ASC_CTL.CLRCNT clears all ASC counters and MAXLAT. (R252) -/
  | ascClearCounters
  /-- A write of ASC_SARNGp sets the range and CURSOR or is ignored. (R246) -/
  | shortAddressRangeWrite (p : Fin 32) (w : Word)
  /-- At W − h − LEAD the wheel offers a transmit-window frame to AIR. (R254) -/
  | wheelOffer (p : Fin 32) (li : Nat)
  /-- At the verdict tick the receive window's MISS is updated and NEXTWAKE advanced. (R252) -/
  | receiveWindowVerdict (p : Fin 32) (li : Nat)
  /-- At W + h a transmit window closes and NEXTWAKE advances. (R253) -/
  | transmitWindowVerdict (p : Fin 32) (li : Nat)
  /-- Every RPER seconds a resynchronisation frame is queued for an entry in CONTACT LOST. (R258) -/
  | resyncFrameTimer (p : Fin 32) (li : Nat)
  /-- A write of PRT_CRCTL.CREATE starts creation from the descriptor at PRT_CRADDR. (R265) -/
  | partitionCreateWrite
  /-- A creation completes with DONE or with a refusal at its fixed time. (R266) -/
  | partitionCreateDone
  /-- A write of PRT_CRCTL.PURGE starts a PURGE of the named partition. (R273) -/
  | partitionPurgeWrite (p : Fin 32)
  /-- A write of PRT_RSTREQ by the program requests a SOFT or HARD reset of its own partition. (R273) -/
  | partitionResetRequest (p : Fin 32) (w : Word)
  /-- A write of PRT_PCTLp.RST by P0 requests a SOFT or HARD reset of partition p. (R273) -/
  | partitionCtlReset (p : Fin 32) (w : Word)
  /-- A SOFT, HARD or PURGE reset completes with the effects of R275. (R274) -/
  | partitionResetDone (p : Fin 32)
  /-- After a PURGE the partition's images are erased from the eNVM. (R274) -/
  | imageEraseDone (p : Fin 32)
  /-- 10 ms after a fault an automatic SOFT or HARD reset starts, or is refused beyond three per hour. (R272) -/
  | autoReset (p : Fin 32)
  /-- A W1C write of PEC_PEND or PEC_OVF clears latch bits unless a raise falls in the same cycle. (R277) -/
  | eventPendClear (p : Fin 32) (imgB ovf : Bool) (w : Word)
  /-- At every 1 ms refill boundary each airtime bucket is filled by floor and weight. (R282) -/
  | airtimeRefill
  /-- A Saddle floor or weight write is checked and refused if it breaks a sum condition. (R281) -/
  | saddleParamWrite (which : Fin 7) (p : Fin 32) (w : Word)
  /-- A write of PRT_PKTREQ grows or shrinks the partition's packet granules. (R287) -/
  | packetMemoryRequest (p : Fin 32) (w : Word)
  /-- A write of PRT_RXRING sets and empties the receive ring, or is refused. (R618) -/
  | rxRingWrite (p : Fin 32) (w : Word)
  /-- A write of PRT_RXPTR.RD frees records of the receive ring. (R618) -/
  | rxRingFree (p : Fin 32) (w : Word)
  /-- Register ADD writes a + b and sets Z N C V. (R298) -/
  | add (c : Ctx) (d a b : Fin 16)
  /-- Register SUB writes a − b and sets Z N C V. (R298) -/
  | sub (c : Ctx) (d a b : Fin 16)
  /-- Register AND writes a and b. (R298) -/
  | andR (c : Ctx) (d a b : Fin 16)
  /-- Register OR writes a or b. (R298) -/
  | orR (c : Ctx) (d a b : Fin 16)
  /-- Register XOR writes a xor b. (R298) -/
  | xorR (c : Ctx) (d a b : Fin 16)
  /-- Register SHL shifts left by b[7:0]. (R301) -/
  | shl (c : Ctx) (d a b : Fin 16)
  /-- Register SHR shifts right with zero fill. (R301) -/
  | shr (c : Ctx) (d a b : Fin 16)
  /-- Register SAR shifts right with sign fill. (R301) -/
  | sar (c : Ctx) (d a b : Fin 16)
  /-- Register ROT rotates right by b[4:0]. (R301) -/
  | rot (c : Ctx) (d a b : Fin 16)
  /-- MUL writes the low word of the product. (R298) -/
  | mul (c : Ctx) (d a b : Fin 16)
  /-- MULH writes the high word of the signed or unsigned product. (R298) -/
  | mulh (c : Ctx) (d a b : Fin 16) (u : Bool)
  /-- DIV writes the truncated quotient, never faulting. (R302) -/
  | div (c : Ctx) (d a b : Fin 16) (u : Bool)
  /-- REM writes the remainder, never faulting. (R302) -/
  | rem (c : Ctx) (d a b : Fin 16) (u : Bool)
  /-- Register CMP sets flags from a − b. (R300) -/
  | cmp (c : Ctx) (a b : Fin 16)
  /-- Register TST sets flags from a and b. (R298) -/
  | tst (c : Ctx) (a b : Fin 16)
  /-- MOV copies a to d. (R298) -/
  | mov (c : Ctx) (d a : Fin 16)
  /-- CLZ writes the number of leading zero bits. (R298) -/
  | clz (c : Ctx) (d a : Fin 16)
  /-- POPC writes the number of 1 bits. (R298) -/
  | popc (c : Ctx) (d a : Fin 16)
  /-- BREV writes a with its bits reversed. (R298) -/
  | brev (c : Ctx) (d a : Fin 16)
  /-- ADD with a sign-extended immediate. (R299) -/
  | addImmediate (c : Ctx) (d a : Fin 16) (imm : BitVec 18)
  /-- SUB with a sign-extended immediate. (R299) -/
  | subImmediate (c : Ctx) (d a : Fin 16) (imm : BitVec 18)
  /-- AND with a zero-extended immediate. (R299) -/
  | andImmediate (c : Ctx) (d a : Fin 16) (imm : BitVec 18)
  /-- OR with a zero-extended immediate. (R299) -/
  | orImmediate (c : Ctx) (d a : Fin 16) (imm : BitVec 18)
  /-- XOR with a zero-extended immediate. (R299) -/
  | xorImmediate (c : Ctx) (d a : Fin 16) (imm : BitVec 18)
  /-- SHL by an immediate amount. (R299) -/
  | shlImmediate (c : Ctx) (d a : Fin 16) (imm : BitVec 18)
  /-- SHR by an immediate amount. (R299) -/
  | shrImmediate (c : Ctx) (d a : Fin 16) (imm : BitVec 18)
  /-- SAR by an immediate amount. (R299) -/
  | sarImmediate (c : Ctx) (d a : Fin 16) (imm : BitVec 18)
  /-- ROT by an immediate amount. (R299) -/
  | rotImmediate (c : Ctx) (d a : Fin 16) (imm : BitVec 18)
  /-- CMP against a sign-extended immediate. (R299) -/
  | cmpImmediate (c : Ctx) (a : Fin 16) (imm : BitVec 18)
  /-- TST against a zero-extended immediate. (R299) -/
  | tstImmediate (c : Ctx) (a : Fin 16) (imm : BitVec 18)
  /-- MOVI loads a sign-extended 18-bit immediate. (R299) -/
  | movi (c : Ctx) (d : Fin 16) (imm : BitVec 18)
  /-- MOVHI replaces bits 31:16 of d. (R299) -/
  | movhi (c : Ctx) (d : Fin 16) (imm : BitVec 18)
  /-- EXT extracts a bit field, zero- or sign-extended. (R303) -/
  | ext (c : Ctx) (d a : Fin 16) (imm : BitVec 18)
  /-- INS inserts a bit field into d. (R303) -/
  | ins (c : Ctx) (d a : Fin 16) (imm : BitVec 18)
  /-- LDB loads an octet. (R304) -/
  | ldb (c : Ctx) (d a : Fin 16) (imm : BitVec 18)
  /-- LDH loads a half-word. (R304) -/
  | ldh (c : Ctx) (d a : Fin 16) (imm : BitVec 18)
  /-- LDW loads a word. (R304) -/
  | ldw (c : Ctx) (d a : Fin 16) (imm : BitVec 18)
  /-- STB stores an octet. (R304) -/
  | stb (c : Ctx) (d a : Fin 16) (imm : BitVec 18)
  /-- STH stores a half-word. (R304) -/
  | sth (c : Ctx) (d a : Fin 16) (imm : BitVec 18)
  /-- STW stores a word. (R304) -/
  | stw (c : Ctx) (d a : Fin 16) (imm : BitVec 18)
  /-- BR branches when its condition holds. (R306) -/
  | br (c : Ctx) (cond : Fin 16) (off : BitVec 22)
  /-- CALL relative writes g15 and jumps. (R306) -/
  | callRelative (c : Ctx) (off : BitVec 22)
  /-- JMP jumps to the address in a register. (R308) -/
  | jmp (c : Ctx) (a : Fin 16)
  /-- CALL register writes g15 and jumps to a register address. (R308) -/
  | callRegister (c : Ctx) (a : Fin 16)
  /-- RET jumps to g15. (R308) -/
  | ret (c : Ctx)
  /-- NOP does nothing. (R309) -/
  | nop (c : Ctx)
  /-- WAITE continues on an enabled pending event or blocks the context. (R310) -/
  | waite (c : Ctx) (d : Fin 16)
  /-- Register-form WAITT waits for a timebase instant and sets T. (R311) -/
  | waitt (c : Ctx) (a : Fin 16)
  /-- WAITT #n delays the next instruction by n cycles. (R309) -/
  | waittCycles (c : Ctx) (n : BitVec 12)
  /-- SIG raises a signal whose effect depends on the engine. (R313) -/
  | sig (c : Ctx) (n : BitVec 12)
  /-- YIELD gives up the rest of the turn. (R312) -/
  | yield (c : Ctx)
  /-- TRAP blocks the context while SV performs a service. (R314) -/
  | trap (c : Ctx) (n : BitVec 12)
  /-- BKPT halts the context under a covering debug session, else acts as NOP. (R315) -/
  | bkpt (c : Ctx) (n : BitVec 12)
  /-- MFS reads a special register. (R293) -/
  | mfs (c : Ctx) (d : Fin 16) (sp : BitVec 12)
  /-- MTS writes a special register. (R293) -/
  | mts (c : Ctx) (a : Fin 16) (sp : BitVec 12)
  /-- SUBMIT subop 0x00 submits a frame for transmission. (R316) -/
  | submitTransmit (c : Ctx) (d a : Fin 16)
  /-- SUBMIT subop 0x01 cancels a transmit ticket. (R317) -/
  | submitTxCancel (c : Ctx) (d a : Fin 16)
  /-- SUBMIT subop 0x02 requests an association add. (R248) -/
  | submitAssocAdd (c : Ctx) (d a : Fin 16)
  /-- SUBMIT subop 0x03 requests an association drop. (R249) -/
  | submitAssocDrop (c : Ctx) (d a : Fin 16)
  /-- SUBMIT subop 0x04 requests association info. (R317) -/
  | submitAssocInfo (c : Ctx) (d a : Fin 16)
  /-- SUBMIT subop 0x05 requests a general key load. (R392) -/
  | submitKeyLoad (c : Ctx) (d a : Fin 16)
  /-- SUBMIT subop 0x06 requests a key rotation step. (R390) -/
  | submitKeyRotate (c : Ctx) (d a : Fin 16)
  /-- SUBMIT subop 0x07 requests an expert cipher operation. (R393) -/
  | submitCipherOp (c : Ctx) (d a : Fin 16)
  /-- SUBMIT subop 0x08 requests an expert check-value operation. (R409) -/
  | submitCrcOp (c : Ctx) (d a : Fin 16)
  /-- SUBMIT subop 0x09 requests direct trellis decoding. (R320) -/
  | submitDirectDecode (c : Ctx) (d a : Fin 16)
  /-- COLLECT retires a completed ticket, reports none, or blocks. (R321) -/
  | collect (c : Ctx) (d a : Fin 16) (w : Bool)
  /-- MPUSH appends octets to the open outgoing message and commits it at END. (R322) -/
  | mpush (c : Ctx) (d a : Fin 16) (fn : BitVec 3)
  /-- MPOP reads or discards the head incoming message. (R323) -/
  | mpop (c : Ctx) (d : Fin 16) (discard : Bool)
  /-- TUNE issues a frequency command to a synthesiser. (R325) -/
  | tune (c : Ctx) (d a : Fin 16) (sel : BitVec 2)
  /-- RXARM sets the receive state of the engine's chain. (R326) -/
  | rxarm (c : Ctx) (d a : Fin 16) (m : BitVec 4)
  /-- TXARM binds the released transmission and returns its T0. (R327) -/
  | txarm (c : Ctx) (d : Fin 16)
  /-- FIRE starts the bound transmission's interval or releases it unsent. (R328) -/
  | fire (c : Ctx) (d : Fin 16) (f : Bool)
  /-- LBTQ reports the LBT state of a channel without admitting a frame. (R329) -/
  | lbtq (c : Ctx) (d a : Fin 16)
  /-- A context blocked in WAITE, WAITT or COLLECT becomes runnable and resumes at its turn. (R310) -/
  | contextResume (c : Ctx)
  /-- SV completes a TRAP service at its fixed time and the context resumes. (R314) -/
  | trapReturn (p : Fin 32) (imgB : Bool)
  /-- A submitted or messaged service completes, writes its report and raises its completion event. (R318) -/
  | serviceComplete (p : Fin 32) (tk : BitVec 16)
  /-- At the end of a slice the engine switches to another runnable context. (R362) -/
  | sliceEnd (e : Fin 4)
  /-- A partition watchdog reaches LIMIT × 1000 cycles and faults with FAULT_WATCHDOG. (R364) -/
  | engineWatchdogExpiry (p : Fin 32) (imgB : Bool)
  /-- A write of ENG_WDKICK restarts the writing context's watchdog. (R364) -/
  | watchdogKick (p : Fin 32) (imgB : Bool)
  /-- A write of ENG_SVC.OUT drains a MAC engine or returns it, or is refused. (R365) -/
  | engineServiceWrite (out : BitVec 4)
  /-- A write of ENG_SEQCTLx.LOAD copies a verified image into the inactive bank or is refused. (R357) -/
  | sequencerLoad (x : Fin 2)
  /-- The bank load completes with its data initialised. (R357) -/
  | sequencerLoadDone (x : Fin 2)
  /-- A write of ENG_SEQCTLx.SWAP makes a swap pending. (R357) -/
  | sequencerSwapRequest (x : Fin 2)
  /-- When the sequencer is idle in WAITE the banks change roles and the new program starts. (R357) -/
  | sequencerSwap (x : Fin 2)
  /-- A change of BASIC switches to or from the basic sequence as a swap. (R358) -/
  | sequencerBasicWrite (x : Fin 2) (b : Bool)
  /-- SV restarts a faulted sequencer on the other bank or the basic sequence. (R344) -/
  | sequencerRestart (x : Fin 2)
  /-- RSA, RSB or CE runs ENG_SEQWD without blocking and faults with FAULT_WATCHDOG. (R344) -/
  | sequencerWatchdogExpiry (e : Fin 3)
  /-- 40 ms after the LAST chunk an image verification completes with its outcome. (R347) -/
  | imageVerifyDone (p : Fin 32) (kind : Fin 5)
  /-- A STOPPED partition starts its VERIFIED image at the next tick boundary. (R349) -/
  | imageStart (p : Fin 32)
  /-- At its next management checkpoint SV switches to the new supervisor image. (R360) -/
  | supervisorSwitch
  /-- The new supervisor image confirms itself and becomes the boot image. (R361) -/
  | supervisorConfirm
  /-- No confirmation within 1 s causes a WATCHDOG reset. (R361) -/
  | supervisorConfirmTimeout
  /-- A write of SEC_SVC.OUT takes a cipher core out of service or returns it, or is refused. (R371) -/
  | coreServiceWrite (out : BitVec 4)
  /-- A TRNG health test fails, TRNGERR is set and the DRBG continues from its last seed. (R374) -/
  | trngHealthFail (test : Fin 2)
  /-- Every 1 s after a failure SV restarts the TRNG and discards 4096 raw bits. (R374) -/
  | trngRestart
  /-- The DRBG reseeds after INTV output blocks or once per second. (R373) -/
  | drbgReseed
  /-- A write of KEY_CTL.FLUSH zeroes every key slot. (R386) -/
  | keyFlush
  /-- A write of KEY_TQUOTAp sets a key-table share or is refused. (R385) -/
  | keyTableQuotaWrite (p : Fin 32) (w : Word)
  /-- A write of KEY_ULIM applies a new usage limit at once to keys, events and queued frames. (R387) -/
  | keyLimitWrite (p : Fin 32) (w : Word)
  /-- A write of CRC_LCTLl.HOLD = 1 borrows a general unit or is refused. (R400) -/
  | crcHold (p : Fin 32) (l : Fin 8)
  /-- A write of HOLD = 0 returns the unit zeroed. (R400) -/
  | crcReturn (p : Fin 32) (l : Fin 8)
  /-- START latches the parameters and opens a message. (R402) -/
  | crcStart (p : Fin 32) (l : Fin 8)
  /-- FINISH forms the result and takes the compare and alive verdicts. (R402) -/
  | crcFinish (p : Fin 32) (l : Fin 8)
  /-- A write of CRC_LDIN1l feeds one octet. (R402) -/
  | crcFeed1 (p : Fin 32) (l : Fin 8) (w : Word)
  /-- A write of CRC_LDIN2l feeds two octets. (R402) -/
  | crcFeed2 (p : Fin 32) (l : Fin 8) (w : Word)
  /-- A write of CRC_LDIN4l feeds four octets. (R402) -/
  | crcFeed4 (p : Fin 32) (l : Fin 8) (w : Word)
  /-- A write of CRC_LRUNl, LPOSl or LTRAILl restores a message's state. (R404) -/
  | crcStateRestore (p : Fin 32) (l : Fin 8) (which : Fin 3) (w : Word)
  /-- A write of CRC_LCFGl is checked for the alive field bounds. (R407) -/
  | crcConfigWrite (p : Fin 32) (l : Fin 8) (w : Word)
  /-- hello returns the identity, generation and port. (R430) -/
  | hello (p : Fin 32)
  /-- status returns the mode, counters and timebase. (R430) -/
  | status (p : Fin 32)
  /-- resync sets LAST and discards the stored response. (R421) -/
  | resync (p : Fin 32)
  /-- cfg-get reads a word of the partition's I/O view. (R430) -/
  | cfgGet (p : Fin 32)
  /-- cfg-set writes a word of the partition's I/O view. (R430) -/
  | cfgSet (p : Fin 32)
  /-- tx-submit enters a frame into the partition's transmit queue after the checks of step 1. (R426) -/
  | txSubmit (p : Fin 32)
  /-- tx-cancel removes a frame that has not reached T0. (R428) -/
  | txCancel (p : Fin 32)
  /-- assoc-list returns the partition's associations from an index. (R430) -/
  | assocList (p : Fin 32)
  /-- assoc-add adds an association, completing exactly 1 ms after execution starts. (R248) -/
  | assocAdd (p : Fin 32)
  /-- assoc-drop zeroes an association and its queued work. (R249) -/
  | assocDrop (p : Fin 32)
  /-- assoc-info returns an entry as the partition sees it. (R430) -/
  | assocInfo (p : Fin 32)
  /-- key-load places or deletes a general key. (R392) -/
  | keyLoad (p : Fin 32)
  /-- key-rotate loads, commits or cancels an association's next key. (R390) -/
  | keyRotate (p : Fin 32)
  /-- image-load stages a chunk of an image into the inactive slot. (R347) -/
  | imageLoad (p : Fin 32)
  /-- image-activate requests SWITCH, DUAL, COMMIT, REVERT or a supervisor switch. (R349) -/
  | imageActivate (p : Fin 32)
  /-- evt-summary reports pending events and offered messages of the port's partitions. (R430) -/
  | evtSummary (p : Fin 32)
  /-- evt-ack clears bits of the partition's PEC_HPEND. (R277) -/
  | evtAck (p : Fin 32)
  /-- crc-op feeds a buffer into a local check unit. (R409) -/
  | crcOp (p : Fin 32)
  /-- cipher-op performs an expert cipher operation with a general key. (R393) -/
  | cipherOp (p : Fin 32)
  /-- reg-read reads registers for P0's host. (R18) -/
  | regRead (p : Fin 32)
  /-- reg-write writes a register for P0's host. (R18) -/
  | regWrite (p : Fin 32)
  /-- mode-request asks for a sleep mode, CALIBRATE or the clear of LOCKDOWN. (R458) -/
  | modeRequest (p : Fin 32)
  /-- partition-create creates a partition from the descriptor in the payload. (R266) -/
  | partitionCreate (p : Fin 32)
  /-- partition-purge purges a partition. (R273) -/
  | partitionPurge (p : Fin 32)
  /-- regulatory-load copies and loads a regulatory profile image. (R209) -/
  | regulatoryLoad (p : Fin 32)
  /-- A tenant-type request goes into the incoming mailbox and raises EV_MBOX_IN. (R415) -/
  | tenantRequest (p : Fin 32)
  /-- The STATUS command returns the port-status octet. (R432) -/
  | spiStatus
  /-- A WRITE transaction delivers one message, judged at the rise of SPI_CSN. (R434) -/
  | spiWrite (octs : List Byte) (mid : Bool)
  /-- A READ sends the in-flight message, choosing one if none is in flight. (R435) -/
  | spiRead (n : Nat)
  /-- ACK and READ retires a matching in-flight message, then reads. (R435) -/
  | spiAckRead (a : Fin 32) (n : Nat)
  /-- 80 high SDI edges reset the port's transaction state. (R436) -/
  | spiBusReset
  /-- A reserved command octet is ignored and counted as HDRERR. (R432) -/
  | spiReservedCommand (c : Byte)
  /-- A write of HIF_CTL.CLRCNT clears every HIF and UART counter. (R437) -/
  | hifClearCounters
  /-- A received frame beginning 0xE7 is judged as a message. (R446) -/
  | uartMessageFrame (octs : List Byte) (fe pe : Nat)
  /-- A one-octet 0x00 frame returns the port-status octet. (R446) -/
  | uartStatus
  /-- A one-octet 0x80 frame resends the in-flight message. (R447) -/
  | uartResend
  /-- A one-octet ACK frame retires a matching in-flight message. (R446) -/
  | uartAck (a : Fin 32)
  /-- Any other received frame is discarded and counted. (R446) -/
  | uartInvalidFrame (fe pe : Nat)
  /-- A break resets the port in protocol mode or sets BRK in transparent mode. (R448) -/
  | uartBreak
  /-- C bit times without a start bit declare the line idle and raise EV_UART_IDLE in transparent mode. (R445) -/
  | uartLineIdle
  /-- ACKTO ms without a retiring ACK resends the in-flight message. (R447) -/
  | uartAckTimeout
  /-- A device frame's last stop bit ends and SENT is set. (R447) -/
  | uartFrameSent
  /-- A transparent-mode character enters the receive FIFO or is lost with OE. (R449) -/
  | uartCharacterReceived (d : Nat) (fe pe : Bool)
  /-- A write of UART_TDATA queues a character for sending. (R449) -/
  | uartTransmitDataWrite (p : Fin 32) (w : Word)
  /-- A read of UART_TDATA takes the oldest character and may clear error flags. (R450) -/
  | uartReceiveDataRead (p : Fin 32) (imgB : Bool)
  /-- A write of UART_CTL.MODE requests a change of mode. (R449) -/
  | uartModeWrite (w : Word)
  /-- Once the FIFO is empty and no frame arrives the mode changes and the FIFOs clear. (R449) -/
  | uartModeChange
  /-- A write of UART_DIV or UART_SHDIV is accepted or refused with DIVREJ. (R443) -/
  | uartDividerWrite (sh : Bool) (w : Word)
  /-- A write of UART_FMT is checked against both dividers. (R443) -/
  | uartFormatWrite (w : Word)
  /-- TAIL/16 bit times after the last stop bit UART_DE falls. (R451) -/
  | uartDeTailEnd
  /-- A write of PWR_REQ.MODE requests a mode. (R458) -/
  | modeRequestWrite (w : Word)
  /-- After the response retires or RETWAIT ends, entry to a sleep mode proceeds through its steps. (R460) -/
  | modeEntryProceed
  /-- After the entry window MODE becomes the sleep target. (R461) -/
  | modeEntryComplete (pin : Bool)
  /-- A wake source fires and is recorded, starting a wake. (R463) -/
  | wakeEvent (src : Fin 8)
  /-- A wake from SLEEP or COL restores state and reaches STANDBY. (R464) -/
  | wakeComplete (pll imgOk : Bool)
  /-- After 100 µs of idleness the device enters IDLE. (R466) -/
  | idleEntry
  /-- A runnable context, timer or message returns the device to STANDBY. (R466) -/
  | idleExit
  /-- CALIBRATE completes and writes a new record. (R467) -/
  | calibrateEnd (va vb vt : List (List Nat))
  /-- The comparator output changes. (R470) -/
  | comparatorChange (out : Bool)
  /-- OUT at 0 for AUTODLY s requests COL. (R471) -/
  | autoColRequest
  /-- At each sniff instant the Col receiver measures energy. (R473) -/
  | colSniff
  /-- After SWIN the receiver turns off without energy or starts a search. (R473) -/
  | colSniffWindowEnd (e : Int)
  /-- EXT ms of search end without a frame. (R473) -/
  | colSearchEnd
  /-- A received Col frame is checked and stored. (R474) -/
  | colFrame (stamp : BitVec 62) (rssi snr foff : Int) (lqi : Byte) (phr : BitVec 24) (psdu : List Byte)
  /-- The oldest record reaches AGEMAX seconds and wakes the device. (R476) -/
  | colAgeWake
  /-- At a Col beacon boundary beacons and group frames are prepared. (R478) -/
  | colBeacon
  /-- A Col transmission is released to CE at T0 − 100 ticks. (R478) -/
  | colTransmitRelease (id : Nat) (e : List Int)
  /-- The tick count reaches COL_CETMR and TMR is raised. (R480) -/
  | ceTimer
  /-- An access to a powered-down domain starts its power-up. (R486) -/
  | domainWakeOnDemand (n : Fin 16)
  /-- A domain becomes ready and stalled accesses complete. (R486) -/
  | domainReady (n : Fin 16) (us : Nat)
  /-- A domain idle for RET_IDLET µs powers down. (R488) -/
  | domainIdlePowerDown (n : Fin 16)
  /-- A power-down's drain completes or is abandoned after 100 µs. (R489) -/
  | powerDownDrainEnd (n : Fin 16) (drained : Bool)
  /-- The supply falls below the shed threshold and domains are cut. (R490) -/
  | supplyShed (mv : BitVec 16) (pfa pfb : Bool)
  /-- After 10 ms above the threshold SV restores the cut domains. (R490) -/
  | supplyShedRecovery
  /-- VCORE reaches its target. (R493) -/
  | vcoreTargetReached
  /-- A body-bias or retention-assist change completes. (R494) -/
  | biasChangeDone
  /-- A write of PWR_PADREL.REL releases the partition's latched GP pads. (R500) -/
  | padRelease (p : Fin 32)
  /-- SV samples the die temperature and updates the XO trim and due items. (R503) -/
  | temperatureSample (raw : BitVec 12)
  /-- A calibration step starts when R505 allows. (R505) -/
  | calStepStart
  /-- A calibration step ends. (R502) -/
  | calStepEnd (v : List Nat)
  /-- A split-mode item waiting MAXDEFER minutes starts forcibly. (R506) -/
  | calForcedRun
  /-- A write of CAL_ITEMn.RUN makes the item due. (R504) -/
  | calItemRun (n : Fin 4)
  /-- A write of CAL_CTL.SAVE writes a record at once. (R511) -/
  | calSave
  /-- A write of CAL_XOFB refines C0 or is refused. (R509) -/
  | xoFeedbackWrite (w : Word)
  /-- A calibration record write verifies or sets RECERR. (R513) -/
  | calRecordWriteDone (ok : Bool)
  /-- 10 minutes after a failed record write it is repeated. (R513) -/
  | calRecordRetry
  /-- An eNVM write request completes. (R515) -/
  | nvmWriteDone
  /-- The refresh reads and rewrites weak words. (R516) -/
  | nvmRefreshStep (addr : Nat) (k : Fin 4)
  /-- Every CKPER minutes changed checkpoint records are rewritten. (R519) -/
  | checkpointPass
  /-- A write of NVC_LOGIDX selects a Scree entry to read. (R523) -/
  | logIndexWrite (w : Word)
  /-- A device reset of any cause stops every block and starts BOOT. (R538) -/
  | deviceReset (cause : Fin 6)
  /-- 100 ms without a restart of SV's watchdog causes a WATCHDOG reset. (R538) -/
  | svWatchdogExpiry
  /-- BOOT ends, the boot lock is set and the first mode follows. (R534) -/
  | bootEnd (raw : BitVec 12) (pll imgOk : Bool)
  /-- A write of TMP_LCCTL.COMMISSION installs the commissioning package. (R528) -/
  | commission
  /-- Commissioning completes or is refused after 10 ms. (R528) -/
  | commissionDone
  /-- An authorised DECOMMISSION purges the partitions and zeroes keys. (R531) -/
  | decommission (auth : Bool)
  /-- An authorised EXPORT starts writing the handover package. (R549) -/
  | exportPkg (auth : Bool)
  /-- A package chunk is ready in the buffer. (R549) -/
  | exportChunkReady
  /-- A write of IMPORT starts a handover import. (R551) -/
  | importPkg
  /-- A write of NEXT takes or supplies the present chunk. (R549) -/
  | packageNext
  /-- A write of ABORT abandons an export or import. (R549) -/
  | packageAbort (auth : Bool)
  /-- An import completes or fails its checks. (R552) -/
  | importDone
  /-- A tamper source fires and its policy applies. (R540) -/
  | tamperFire (src : Fin 5) (on pre : Bool)
  /-- A periodic check of the active tamper loop runs. (R541) -/
  | tamperLoopCheck (sample : Bool)
  /-- A write of TMP_POLICY raises or, with authority, lowers a policy. (R540) -/
  | tamperPolicyWrite (w : Word) (auth : Bool)
  /-- The debug IDENT command returns identity and state. (R560) -/
  | dbgIdent (o : List Byte)
  /-- The debug CHALLENGE command issues a challenge. (R561) -/
  | dbgChallenge (o : List Byte)
  /-- The debug OPEN command judges a token and opens a session. (R561) -/
  | dbgOpen (o : List Byte)
  /-- The debug CLOSE command closes the session. (R563) -/
  | dbgClose (o : List Byte)
  /-- The debug HALT command halts a context. (R566) -/
  | dbgHalt (o : List Byte)
  /-- The debug RUN command resumes a halted context. (R566) -/
  | dbgRun (o : List Byte)
  /-- The debug STEP command executes one instruction. (R569) -/
  | dbgStep (o : List Byte)
  /-- The debug CSTAT command reports a context's state. (R560) -/
  | dbgCstat (o : List Byte)
  /-- The debug READ command reads words under the session's scope. (R564) -/
  | dbgRead (o : List Byte)
  /-- The debug WRITE command writes words under the session's scope. (R564) -/
  | dbgWrite (o : List Byte)
  /-- The debug CREAD command reads a halted context. (R560) -/
  | dbgCread (o : List Byte)
  /-- The debug CWRITE command writes a context word. (R560) -/
  | dbgCwrite (o : List Byte)
  /-- The debug BREAK command sets a breakpoint. (R570) -/
  | dbgBreak (o : List Byte)
  /-- The debug WATCH command sets a watchpoint. (R570) -/
  | dbgWatch (o : List Byte)
  /-- The debug RESET command requests a DEBUG reset. (R560) -/
  | dbgReset (o : List Byte)
  /-- 64 high edges discard a partial debug request. (R556) -/
  | debugLineReset
  /-- 1 ms of still DBG_CK abandons a response. (R556) -/
  | debugResponseAbandon
  /-- IDLETO seconds without a request close the session. (R563) -/
  | sessionIdleTimeout
  /-- A challenge lapses after 10 s. (R561) -/
  | challengeLapse
  /-- 1 s after a failed token CHALLENGE is allowed again. (R546) -/
  | tokenLockoutEnd
  /-- A context reaches a breakpoint address and halts. (R570) -/
  | breakpointHit (c : Ctx)
  /-- A halt deferred for an air operation takes effect at its end. (R568) -/
  | deferredHalt (x : Fin 2)
  /-- A KIND 0 test runs BIST on a MAC engine. (R573) -/
  | engineTest (e : Fin 4)
  /-- A KIND 1 test runs known answers on a cipher core. (R573) -/
  | coreTest (c : Fin 4)
  /-- A KIND 2 test runs on a trellis decoder. (R573) -/
  | decoderTest (d : Fin 4)
  /-- A KIND 3 test relocates and tests an SRAM segment. (R574) -/
  | sramSegmentTest (g : Fin 25)
  /-- A KIND 4 test runs the chain loopback. (R575) -/
  | chainLoopbackTest (x : Fin 2) (sv : Bool)
  /-- One loopback step runs when R505 allows. (R575) -/
  | chainLoopbackStep (v p : Int)
  /-- A KIND 5 test verifies eNVM areas. (R576) -/
  | nvmVerify (item : Fin 9)
  /-- A write of DBG_TESTCTL.ABORT stops the test. (R577) -/
  | testAbort
  /-- A test ends with its code. (R572) -/
  | testComplete (ok : Bool) (r0 r1 : Word)
  /-- A write of SYS_RSTCTL.NEXTGEN selects the next boot's generation. (R582) -/
  | nextGenerationWrite (w : Word) (auth : Bool)
  /-- A write of GPC_PINn sets a GP pin's function and owner. (R596) -/
  | gpPinWrite (n : Fin 8) (w : Word)
  /-- The power path switches between VMAIN and VBKP. (R600) -/
  | powerPathSwitch (bkp low : Bool)
  /-- VMAIN crosses the transmit tier threshold. (R599) -/
  | transmitTierChange (low : Bool)
  /-- VDDPA over-current forces a ramp-down with ABORTED_POWER. (R601) -/
  | vddpaCurrentLimit
  /-- VDDIO rises above 1.45 V and DIO pads take their states. (R595) -/
  | vddioRise
  /-- A device reset ends and BOOT begins: RESETN returns high, or the supply holds at 2.15 V or more for 1 ms after a POR or BROWNOUT. (R599) -/
  | resetRelease
  /-- VDDIO falls below 1.45 V: every DIO pad becomes high-impedance and reads 0, and the DIO wake sources are lost. (R595) -/
  | vddioFall
  /-- A branch leaves a slot's combining when its SNR falls more than 20 dB below the other branch or its ADC clips. (R92) -/
  | branchDropOut (k : Fin 128) (b : Bool)
  /-- The Col demodulator finds the sync word during a search and raises CE's SYNC latch. (R473) -/
  | colSyncFound
  /-- In transparent mode a character's last stop bit ends, freeing a place in the transmit FIFO and starting the UART_DE tail after the last character. (R449) -/
  | uartCharacterSent
  /-- A debug request whose CRC fails or whose CMD is not listed is answered with CHECK_FAIL or REFUSED_STATE. (R559) -/
  | debugBadRequest (crcOk : Bool) (cmd : Byte)
  /-- An undefined word, or a fetch that faults, is reached at PC and faults the context with FAULT_ILLEGAL or a fetch fault. (R296) -/
  | illegalInstruction (c : Ctx)
  deriving DecidableEq, Repr

end Sys2Proof
end

