-- ==== Sys2Proof/Config.lean ====
section
/-!
DEFINITION. What one device fixes and what the spec leaves open: constants without a body. Nothing
can be proved about their values, so a claim holds whatever they are.
-/

namespace Sys2Proof.Config

/-- A free value (guide: free value): the spec says some value results and not which. Applied to
`State.fresh`, a counter each use advances. -/
opaque freeValue : Nat → Nat
/-- An octet of the DRBG's output (R373), applied to the number of octets drawn before it. -/
opaque drbgOctet : Nat → Byte
/-- Octets of DEVPUB, the device identity key's public half (R526): device-specific. -/
opaque devPub : Nat → Byte
/-- AES in one block: key octets, block octets (the standard R372 names). -/
opaque aesBlock : List Byte → List Byte → List Byte
/-- CMAC of a key over octets (the standard named at R529). -/
opaque cmac : List Byte → List Byte → List Byte
/-- AES key wrap: key, plaintext octets (R378). -/
opaque keyWrap : List Byte → List Byte → List Byte
/-- AES key unwrap: key, wrapped octets; none where the integrity check fails (R378). -/
opaque keyUnwrap : List Byte → List Byte → Option (List Byte)
/-- SHA-256 of octets (R345). -/
opaque sha256 : List Byte → List Byte
/-- ECDSA P-256 verification: public key, message octets, signature (R345, R616). -/
opaque ecdsaVerify : List Byte → List Byte → List Byte → Bool
/-- The ECDH shared secret of the device identity key and a point; none for an invalid point (R528). -/
opaque ecdh : List Byte → Option (List Byte)
/-- CCM* encryption: key, nonce, additional data, payload, MIC length: payload and MIC (R376). -/
opaque ccmSeal : List Byte → List Byte → List Byte → List Byte → Nat → List Byte
/-- CCM* decryption: key, nonce, additional data, ciphertext with MIC, MIC length: the payload where the MIC verifies (R376). -/
opaque ccmOpen : List Byte → List Byte → List Byte → List Byte → Nat → Option (List Byte)
/-- The supervisor key of the boot ROM (R525). -/
opaque supervisorKey : List Byte
/-- The regulatory trust key of the boot ROM (R525). -/
opaque regulatoryKey : List Byte
/-- The debug key of the boot ROM (R525). -/
opaque debugKey : List Byte
/-- The seal key, derived from the device unique key at every boot (R526). -/
opaque sealKey : List Byte
/-- The signature the device identity key makes over octets (R548). -/
opaque identitySign : List Byte → List Byte
/-- The key derived from the DUK that wraps SV's own records (R384). -/
opaque svRecordKey : List Byte

/-- Octet `i` of what a trellis decoder delivers for a direct request (R168, R174): code entry, PUNC, TERM, metrics. -/
opaque trellis : Nat → Nat → Bool → List Byte → Nat → Byte
/-- The code bits of a coded format 3 frame after its SFD, as the standard R165 names has them: PKT_F3CFG, whitening, the
PHR's and the PSDU's bits. -/
opaque sunFskCode : Nat → Bool → List Bool → List Bool
/-- Three times the level of a 4-level symbol of format 3 over DEV: the standard's mapping (R189). -/
opaque sunFskLevel : Nat → Int

end Sys2Proof.Config
end

