-- ==== Sys2Proof/Machine/Field.lean ====
section
/-!
DEFINITION. What a register field is: its place, its width, its access code (R5), its reset value
and the values its table does not reserve (R6); and what a register of the map is (R7, R16).
-/

namespace Sys2Proof.Machine

/-- The access codes of R5. -/
inductive Acc where
  | rw | ro | wo | w1c | rc | rwl
  deriving DecidableEq, Repr

/-- The owner attributes of R16. -/
inductive Owner where
  | sv | p0 | part | anyRo
  deriving DecidableEq, Repr

/-- A register field. `bank` tells the copies of a PART register apart (R16): the partition's number. -/
structure Fld where
  addr : Nat
  lo   : Nat
  w    : Nat
  acc  : Acc
  rst  : Nat
  ok   : List (Nat × Nat)
  part : Bool
  bank : Nat
  deriving DecidableEq, Repr

/-- A field of a register map. -/
def Fld.mk' (addr lo w : Nat) (acc : Acc) (rst : Nat) (ok : List (Nat × Nat)) (part : Bool) : Fld :=
  { addr := addr, lo := lo, w := w, acc := acc, rst := rst, ok := ok, part := part, bank := 0 }

/-- The field's copy in a bank. -/
def Fld.at (F : Fld) (p : Nat) : Fld := { F with bank := p }

/-- The field's key in the register store. -/
def Fld.key (F : Fld) : Nat := (F.bank * 0x100000000 + F.addr) * 32 + F.lo

/-- Whether a write may leave this value in the field: no encoding its table reserves (R6). -/
def Fld.allows (F : Fld) (v : Nat) : Bool :=
  F.ok.isEmpty || F.ok.any fun r => decide (r.1 ≤ v ∧ v ≤ r.2)

/-- Entry `n` of a list of reset values, 0 past its end. -/
def Fld.nth (l : List Nat) (n : Nat) : Nat := l.getD n 0

/-- A register of the map: its first address, its strides and counts, its owner and its fields. -/
structure RegDesc where
  name    : String
  first   : Nat
  stride  : Nat
  count   : Nat
  stride2 : Nat
  count2  : Nat
  owner   : Owner
  flds    : Nat → Nat → List Fld

/-- The register and its two indices, where this description covers the address. -/
def RegDesc.at? (d : RegDesc) (addr : Nat) : Option (RegDesc × Nat × Nat) :=
  if addr < d.first then none
  else
    let off := addr - d.first
    let i := if d.count ≤ 1 then 0 else off / d.stride
    let r := off - i * d.stride
    let i' := if d.count ≤ 1 then 0 else i
    let j := if d.count2 ≤ 1 then 0 else r / d.stride2
    if i' < max d.count 1 ∧ j < max d.count2 1 ∧ i' * d.stride + j * d.stride2 = off then some (d, i', j)
    else none

end Sys2Proof.Machine
end

