-- ==== Sys2Proof/Machine/Regs.lean ====
section
/-!
DEFINITION. Every register field of the register maps of spec/02 to spec/23, by the spec's name
(register, then field): where it stands, its access code (R5), its reset value and the values its
table does not call reserved (R6).
-/

namespace Sys2Proof.Machine.Reg
open Sys2Proof.Machine.Fld (nth)

/-- A field from its table row. -/
def mk (addr lo w : Nat) (acc : Acc) (rst : Nat) (ok : List (Nat × Nat) := []) (part : Bool := false) : Fld :=
  Fld.mk' addr lo w acc rst ok part


/-! CLK_STAT, offset 0x000, owner ANY-RO, reset 0x0000_0000 (spec/02_clocks_and_timebase.md). -/
def CLK_STAT_LOSSCNT : Fld := mk (0x40002000) 16 16 .ro 0
def CLK_STAT_SPILIM : Fld := mk (0x40002000) 4 1 .ro 0
def CLK_STAT_FALLBACK : Fld := mk (0x40002000) 3 1 .ro 0
def CLK_STAT_PLLLOCK : Fld := mk (0x40002000) 2 1 .ro 0
def CLK_STAT_XORUN : Fld := mk (0x40002000) 1 1 .ro 0

/-! CLK_CTL, offset 0x004, owner SV, reset 0x0000_0000 (spec/02_clocks_and_timebase.md). -/
def CLK_CTL_XOMODE : Fld := mk (0x40002004) 8 1 .rwl 0
def CLK_CTL_FORCEFB : Fld := mk (0x40002004) 1 1 .wo 0
def CLK_CTL_PLLEN : Fld := mk (0x40002004) 0 1 .rw 0

/-! CLK_XOTRIM, offset 0x008, owner SV, reset 0x0008_0200 (spec/02_clocks_and_timebase.md). -/
def CLK_XOTRIM_COARSE : Fld := mk (0x40002008) 16 4 .rw 8
def CLK_XOTRIM_FINE : Fld := mk (0x40002008) 0 10 .rw 512

/-! CLK_REFCOND, offset 0x00C, owner P0, reset 0x0000_0000 (spec/02_clocks_and_timebase.md). -/
def CLK_REFCOND_REFT : Fld := mk (0x4000200C) 4 2 .rw 0 (ok := [(0, 2)])
def CLK_REFCOND_REFB : Fld := mk (0x4000200C) 2 2 .rw 0
def CLK_REFCOND_REFA : Fld := mk (0x4000200C) 0 2 .rw 0

/-! CLK_OUT, offset 0x010, owner P0, reset 0x0000_0041 (spec/02_clocks_and_timebase.md). -/
def CLK_OUT_DRIVE : Fld := mk (0x40002010) 6 2 .rw 1
def CLK_OUT_DIV : Fld := mk (0x40002010) 2 3 .rw 0 (ok := [(0, 4)])
def CLK_OUT_EN : Fld := mk (0x40002010) 0 1 .rw 1

/-! TBS_TICKL, offset 0x000, owner ANY-RO, reset 0x0000_0000 (spec/02_clocks_and_timebase.md). -/
def TBS_TICKL_TICK_LO : Fld := mk (0x40003000) 6 26 .ro 0
def TBS_TICKL_FRAC : Fld := mk (0x40003000) 0 6 .ro 0

/-! TBS_TICKH, offset 0x004, owner ANY-RO, reset 0x0000_0000 (spec/02_clocks_and_timebase.md). -/
def TBS_TICKH_TICK_HI : Fld := mk (0x40003004) 0 30 .ro 0

/-! TBS_STAT, offset 0x008, owner ANY-RO, reset 0x0000_0001 (spec/02_clocks_and_timebase.md). -/
def TBS_STAT_SETREJ : Fld := mk (0x40003008) 4 1 .ro 0
def TBS_STAT_PSREJ : Fld := mk (0x40003008) 3 1 .ro 0
def TBS_STAT_PSBUSY : Fld := mk (0x40003008) 2 1 .ro 0
def TBS_STAT_ADJPEND : Fld := mk (0x40003008) 1 1 .ro 0
def TBS_STAT_DISCONT : Fld := mk (0x40003008) 0 1 .ro 1

/-! TBS_SETL, offset 0x010, owner P0, reset 0x0000_0000 (spec/02_clocks_and_timebase.md). -/
def TBS_SETL_TICK_LO : Fld := mk (0x40003010) 6 26 .wo 0
def TBS_SETL_FRAC : Fld := mk (0x40003010) 0 6 .wo 0

/-! TBS_SETH, offset 0x014, owner P0, reset 0x0000_0000 (spec/02_clocks_and_timebase.md). -/
def TBS_SETH_TICK_HI : Fld := mk (0x40003014) 0 30 .wo 0

/-! TBS_ADJ, offset 0x018, owner P0, reset 0x0000_0000 (spec/02_clocks_and_timebase.md). -/
def TBS_ADJ_FRACS : Fld := mk (0x40003018) 0 32 .rw 0

/-! TBS_PSTEP, offset 0x01C, owner P0, reset 0x03E8_0000 (spec/02_clocks_and_timebase.md). -/
def TBS_PSTEP_INTERVAL : Fld := mk (0x4000301C) 16 16 .rw 1000 (ok := [(1, 65535)])
def TBS_PSTEP_COUNT : Fld := mk (0x4000301C) 0 16 .rw 0

/-! TBS_PSACC, offset 0x020, owner ANY-RO, reset 0x0000_0000 (spec/02_clocks_and_timebase.md). -/
def TBS_PSACC_ACC : Fld := mk (0x40003020) 0 32 .ro 0

/-! TBS_TOCTL, offset 0x024, owner P0, reset 0x0000_0064 (spec/02_clocks_and_timebase.md). -/
def TBS_TOCTL_EN : Fld := mk (0x40003024) 31 1 .rw 0
def TBS_TOCTL_WIDTH : Fld := mk (0x40003024) 0 16 .rw 100 (ok := [(1, 65535)])

/-! TBS_TMRnL, offset 0x040 + 0x10 × n, owner PART, reset 0x0000_0000 (spec/02_clocks_and_timebase.md). -/
def TBS_TMRnL_TICK_LO (n : Nat) : Fld := mk (0x40003040 + 0x10 * n) 6 26 .rw 0 (part := true)
def TBS_TMRnL_FRAC (n : Nat) : Fld := mk (0x40003040 + 0x10 * n) 0 6 .rw 0 (part := true)

/-! TBS_TMRnH, offset 0x044 + 0x10 × n, owner PART, reset 0x0000_0000 (spec/02_clocks_and_timebase.md). -/
def TBS_TMRnH_TICK_HI (n : Nat) : Fld := mk (0x40003044 + 0x10 * n) 0 30 .rw 0 (part := true)

/-! TBS_TMRnP, offset 0x048 + 0x10 × n, owner PART, reset 0x0000_0000 (spec/02_clocks_and_timebase.md). -/
def TBS_TMRnP_PERIOD (n : Nat) : Fld := mk (0x40003048 + 0x10 * n) 0 32 .rw 0 (part := true)

/-! TBS_TMRnC, offset 0x04C + 0x10 × n, owner PART, reset 0x0000_0000 (spec/02_clocks_and_timebase.md). -/
def TBS_TMRnC_MISSED (n : Nat) : Fld := mk (0x4000304C + 0x10 * n) 8 8 .rc 0 (part := true)
def TBS_TMRnC_EXP (n : Nat) : Fld := mk (0x4000304C + 0x10 * n) 1 1 .w1c 0 (part := true)
def TBS_TMRnC_ARM (n : Nat) : Fld := mk (0x4000304C + 0x10 * n) 0 1 .rw 0 (part := true)

/-! SYNx_FREQ, offset 0x000, owner P0, reset 0x1B20_0000 (spec/03_rf_synthesisers.md). -/
def SYNx_FREQ_FREQ (x : Nat) : Fld := mk (0x40004000 + 0x1000 * x) 0 29 .rw 455081984

/-! SYNx_CTL, offset 0x004, owner P0, reset 0x0000_0000 (spec/03_rf_synthesisers.md). -/
def SYNx_CTL_PHTRACK (x : Nat) : Fld := mk (0x40004004 + 0x1000 * x) 1 1 .rw 0
def SYNx_CTL_EN (x : Nat) : Fld := mk (0x40004004 + 0x1000 * x) 0 1 .rw 0

/-! SYNx_STAT, offset 0x008, owner ANY-RO, reset 0x0000_0000 (spec/03_rf_synthesisers.md). -/
def SYNx_STAT_LOSSCNT (x : Nat) : Fld := mk (0x40004008 + 0x1000 * x) 24 8 .ro 0
def SYNx_STAT_DEVCLIP (x : Nat) : Fld := mk (0x40004008 + 0x1000 * x) 7 1 .ro 0
def SYNx_STAT_PENDING (x : Nat) : Fld := mk (0x40004008 + 0x1000 * x) 6 1 .ro 0
def SYNx_STAT_FAIL (x : Nat) : Fld := mk (0x40004008 + 0x1000 * x) 5 1 .ro 0
def SYNx_STAT_CALBUSY (x : Nat) : Fld := mk (0x40004008 + 0x1000 * x) 4 1 .ro 0
def SYNx_STAT_FREQREJ (x : Nat) : Fld := mk (0x40004008 + 0x1000 * x) 3 1 .ro 0
def SYNx_STAT_RANGE (x : Nat) : Fld := mk (0x40004008 + 0x1000 * x) 2 1 .ro 0
def SYNx_STAT_SETTLING (x : Nat) : Fld := mk (0x40004008 + 0x1000 * x) 1 1 .ro 0
def SYNx_STAT_LOCK (x : Nat) : Fld := mk (0x40004008 + 0x1000 * x) 0 1 .ro 0

/-! SYNx_COARSE, offset 0x00C, owner P0, reset 0x0000_0000 (spec/03_rf_synthesisers.md). -/
def SYNx_COARSE_OVR (x : Nat) : Fld := mk (0x4000400C + 0x1000 * x) 31 1 .rw 0
def SYNx_COARSE_OVRCODE (x : Nat) : Fld := mk (0x4000400C + 0x1000 * x) 8 7 .rw 0
def SYNx_COARSE_CODE (x : Nat) : Fld := mk (0x4000400C + 0x1000 * x) 0 7 .ro 0

/-! SYNx_KVCO, offset 0x010, owner P0, reset 0x0000_0000 (spec/03_rf_synthesisers.md). -/
def SYNx_KVCO_KVCO (x : Nat) : Fld := mk (0x40004010 + 0x1000 * x) 0 16 .rw 0

/-! SYNT_TPM, offset 0x014, owner P0, reset 0x0000_0800 (SYNT only) (spec/03_rf_synthesisers.md). -/
def SYNT_TPM_TPMGAIN : Fld := mk (0x40006014) 0 12 .rw 2048

/-! SYNT_PHASE, offset 0x018, owner P0, reset 0x0000_0000 (SYNT only) (spec/03_rf_synthesisers.md). -/
def SYNT_PHASE_STEPS : Fld := mk (0x40006018) 0 12 .rw 0

/-! SYNx_LOSST, offset 0x01C, owner ANY-RO, reset 0x0000_0000 (spec/03_rf_synthesisers.md). -/
def SYNx_LOSST_TICK (x : Nat) : Fld := mk (0x4000401C + 0x1000 * x) 0 32 .ro 0

/-! RXx_CTL, offset 0x000, owner P0, reset 0x0000_0000 (spec/04_receive_chains.md). -/
def RXx_CTL_MANGAIN (x : Nat) : Fld := mk (0x40007000 + 0x1000 * x) 16 4 .rw 0 (ok := [(0, 11)])
def RXx_CTL_AGCMODE (x : Nat) : Fld := mk (0x40007000 + 0x1000 * x) 8 2 .rw 0 (ok := [(0, 2)])
def RXx_CTL_COMB (x : Nat) : Fld := mk (0x40007000 + 0x1000 * x) 1 1 .rw 0
def RXx_CTL_EN (x : Nat) : Fld := mk (0x40007000 + 0x1000 * x) 0 1 .rw 0

/-! RXx_STAT, offset 0x004, owner ANY-RO, reset 0x0000_0000 (spec/04_receive_chains.md). -/
def RXx_STAT_GAIN (x : Nat) : Fld := mk (0x40007004 + 0x1000 * x) 28 4 .ro 0
def RXx_STAT_SVCREJ (x : Nat) : Fld := mk (0x40007004 + 0x1000 * x) 12 1 .ro 0
def RXx_STAT_SVC (x : Nat) : Fld := mk (0x40007004 + 0x1000 * x) 10 2 .ro 0
def RXx_STAT_CAUSE (x : Nat) : Fld := mk (0x40007004 + 0x1000 * x) 9 1 .ro 0
def RXx_STAT_COMBACT (x : Nat) : Fld := mk (0x40007004 + 0x1000 * x) 8 1 .ro 0
def RXx_STAT_MON (x : Nat) : Fld := mk (0x40007004 + 0x1000 * x) 3 1 .ro 0
def RXx_STAT_PROT (x : Nat) : Fld := mk (0x40007004 + 0x1000 * x) 2 1 .ro 0
def RXx_STAT_BLANK (x : Nat) : Fld := mk (0x40007004 + 0x1000 * x) 1 1 .ro 0
def RXx_STAT_READY (x : Nat) : Fld := mk (0x40007004 + 0x1000 * x) 0 1 .ro 0

/-! RXx_AGC, offset 0x008, owner P0, reset 0x01F4_0318 (spec/04_receive_chains.md). -/
def RXx_AGC_HOLD (x : Nat) : Fld := mk (0x40007008 + 0x1000 * x) 16 16 .rw 500 (ok := [(1, 65535)])
def RXx_AGC_HIGH (x : Nat) : Fld := mk (0x40007008 + 0x1000 * x) 8 4 .rw 3
def RXx_AGC_LOW (x : Nat) : Fld := mk (0x40007008 + 0x1000 * x) 0 5 .rw 24 (ok := [(6, 31)])

/-! RXx_SVC, offset 0x00C, owner P0, reset 0x0000_0400 (spec/04_receive_chains.md). -/
def RXx_SVC_MAXWAIT (x : Nat) : Fld := mk (0x4000700C + 0x1000 * x) 8 4 .rw 4 (ok := [(1, 15)])
def RXx_SVC_REQ (x : Nat) : Fld := mk (0x4000700C + 0x1000 * x) 0 1 .rw 0

/-! RXx_FBFREQ, offset 0x010, owner P0, reset 0x0000_0000 (spec/04_receive_chains.md). -/
def RXx_FBFREQ_FREQ (x : Nat) : Fld := mk (0x40007010 + 0x1000 * x) 0 29 .rw 0

/-! RXx_PWR, offset 0x014, owner ANY-RO, reset 0x0000_0000 (spec/04_receive_chains.md). -/
def RXx_PWR_ADCLVL (x : Nat) : Fld := mk (0x40007014 + 0x1000 * x) 16 16 .ro 0
def RXx_PWR_INPWR (x : Nat) : Fld := mk (0x40007014 + 0x1000 * x) 0 16 .ro 0

/-! RXx_CLIP, offset 0x018, owner ANY-RO, reset 0x0000_0000 (spec/04_receive_chains.md). -/
def RXx_CLIP_COUNT (x : Nat) : Fld := mk (0x40007018 + 0x1000 * x) 0 16 .rc 0

/-! RXx_IQCORR, offset 0x020, owner P0, reset 0x0000_0000 (spec/04_receive_chains.md). -/
def RXx_IQCORR_PHASE (x : Nat) : Fld := mk (0x40007020 + 0x1000 * x) 16 12 .rw 0
def RXx_IQCORR_GAIN (x : Nat) : Fld := mk (0x40007020 + 0x1000 * x) 0 12 .rw 0

/-! RXx_DCOFF, offset 0x024, owner P0, reset 0x0000_0000 (spec/04_receive_chains.md). -/
def RXx_DCOFF_DCQ (x : Nat) : Fld := mk (0x40007024 + 0x1000 * x) 16 16 .rw 0
def RXx_DCOFF_DCI (x : Nat) : Fld := mk (0x40007024 + 0x1000 * x) 0 16 .rw 0

/-! RXx_ADCGAIN, offset 0x028, owner P0, reset 0x0000_8000 (spec/04_receive_chains.md). -/
def RXx_ADCGAIN_GAIN (x : Nat) : Fld := mk (0x40007028 + 0x1000 * x) 0 16 .rw 32768

/-! RXx_EQn, offset 0x030 + 4 × n, for n = 0–3, owner P0, reset 0x0000_4000 for n = 0, 0x0000_0000 otherwise (spec/04_receive_chains.md). -/
def RXx_EQn_TAPODD (x n : Nat) : Fld := mk (0x40007030 + 0x1000 * x + 0x4 * n) 16 16 .rw 0
def RXx_EQn_TAPEVEN (x n : Nat) : Fld := mk (0x40007030 + 0x1000 * x + 0x4 * n) 0 16 .rw (if n = 0 then 0x4000 else 0)

/-! RXx_RSSIOFS, offset 0x040, owner P0, reset 0x0000_0000 (spec/04_receive_chains.md). -/
def RXx_RSSIOFS_HIGH (x : Nat) : Fld := mk (0x40007040 + 0x1000 * x) 16 16 .rw 0
def RXx_RSSIOFS_LOW (x : Nat) : Fld := mk (0x40007040 + 0x1000 * x) 0 16 .rw 0

/-! RXx_GSTEPn, offset 0x044 + 4 × n, for n = 0–2, owner P0, resets 0x2418_0C00, 0x5448_3C30 and 0x8478_6C60 (spec/04_receive_chains.md). -/
def RXx_GSTEPn_STEP3 (x n : Nat) : Fld := mk (0x40007044 + 0x1000 * x + 0x4 * n) 24 8 .rw (nth [36, 84, 132] n)
def RXx_GSTEPn_STEP2 (x n : Nat) : Fld := mk (0x40007044 + 0x1000 * x + 0x4 * n) 16 8 .rw (nth [24, 72, 120] n)
def RXx_GSTEPn_STEP1 (x n : Nat) : Fld := mk (0x40007044 + 0x1000 * x + 0x4 * n) 8 8 .rw (nth [12, 60, 108] n)
def RXx_GSTEPn_STEP0 (x n : Nat) : Fld := mk (0x40007044 + 0x1000 * x + 0x4 * n) 0 8 .rw (nth [0, 48, 96] n)

/-! RXB_MONCTL, offset 0x080, owner P0, reset 0x0000_0001 (RXB only) (spec/04_receive_chains.md). -/
def RXB_MONCTL_TUNE : Fld := mk (0x40008080) 1 1 .rw 0
def RXB_MONCTL_EN : Fld := mk (0x40008080) 0 1 .rw 1

/-! RXB_MONSTAT, offset 0x084, owner ANY-RO, reset 0x0000_0000 (RXB only) (spec/04_receive_chains.md). -/
def RXB_MONSTAT_MONGAIN : Fld := mk (0x40008084) 8 4 .ro 0
def RXB_MONSTAT_COVER : Fld := mk (0x40008084) 0 2 .ro 0

/-! CHB_CTL, offset 0x000, owner P0, reset 0x0000_0002 (spec/05_channel_bank.md). -/
def CHB_CTL_CLRCNT : Fld := mk (0x40009000) 2 1 .wo 0
def CHB_CTL_SICEN : Fld := mk (0x40009000) 1 1 .rw 1
def CHB_CTL_EN : Fld := mk (0x40009000) 0 1 .rw 0

/-! CHB_STAT, offset 0x004, owner ANY-RO, reset 0x0000_0000 (spec/05_channel_bank.md). -/
def CHB_STAT_PLANID : Fld := mk (0x40009004) 16 16 .ro 0
def CHB_STAT_ACTIVE : Fld := mk (0x40009004) 8 8 .ro 0
def CHB_STAT_FBRANK : Fld := mk (0x40009004) 1 1 .ro 0
def CHB_STAT_RUN : Fld := mk (0x40009004) 0 1 .ro 0

/-! CHB_PLANADDR, offset 0x008, owner P0, reset 0x0000_0000 (spec/05_channel_bank.md). -/
def CHB_PLANADDR_ADDR : Fld := mk (0x40009008) 2 30 .rw 0

/-! CHB_PLANCTL, offset 0x00C, owner P0, reset 0x0000_0000 (spec/05_channel_bank.md). -/
def CHB_PLANCTL_CANCEL : Fld := mk (0x4000900C) 2 1 .wo 0
def CHB_PLANCTL_NOW : Fld := mk (0x4000900C) 1 1 .wo 0
def CHB_PLANCTL_LOAD : Fld := mk (0x4000900C) 0 1 .wo 0

/-! CHB_PLANSTAT, offset 0x010, owner P0, reset 0x0000_0000 (spec/05_channel_bank.md). -/
def CHB_PLANSTAT_PLANID : Fld := mk (0x40009010) 16 16 .ro 0
def CHB_PLANSTAT_ERRSLOT : Fld := mk (0x40009010) 9 7 .ro 0
def CHB_PLANSTAT_REASON : Fld := mk (0x40009010) 5 4 .ro 0
def CHB_PLANSTAT_NOWREJ : Fld := mk (0x40009010) 4 1 .ro 0
def CHB_PLANSTAT_HELD : Fld := mk (0x40009010) 3 1 .ro 0
def CHB_PLANSTAT_ERR : Fld := mk (0x40009010) 2 1 .ro 0
def CHB_PLANSTAT_PEND : Fld := mk (0x40009010) 1 1 .ro 0
def CHB_PLANSTAT_BUSY : Fld := mk (0x40009010) 0 1 .ro 0

/-! CHB_SICSTAT, offset 0x018, owner ANY-RO, reset 0x0000_0000 (spec/05_channel_bank.md). -/
def CHB_SICSTAT_BUSYCNT : Fld := mk (0x40009018) 16 16 .ro 0
def CHB_SICSTAT_INUSE : Fld := mk (0x40009018) 0 5 .ro 0

/-! CHB_SUSPn, offset 0x020 + 4 × n, for n = 0–3, owner P0, reset 0x0000_0000 (spec/05_channel_bank.md). -/
def CHB_SUSPn_SUSP (n : Nat) : Fld := mk (0x40009020 + 0x4 * n) 0 32 .ro 0

/-! CHB_SLOTSEL, offset 0x040, owner PART, reset 0x0000_0000 (spec/05_channel_bank.md). -/
def CHB_SLOTSEL_SLOT : Fld := mk (0x40009040) 0 7 .rw 0 (part := true)

/-! CHB_SLOTSTAT, offset 0x044, owner PART, reset 0x0000_00C0 (spec/05_channel_bank.md). -/
def CHB_SLOTSTAT_VALID : Fld := mk (0x40009044) 23 9 .ro 0 (part := true)
def CHB_SLOTSTAT_CLAIM : Fld := mk (0x40009044) 6 2 .ro 3 (part := true)
def CHB_SLOTSTAT_SICACT : Fld := mk (0x40009044) 5 1 .ro 0 (part := true)
def CHB_SLOTSTAT_FBKEEP : Fld := mk (0x40009044) 4 1 .ro 0 (part := true)
def CHB_SLOTSTAT_STATE : Fld := mk (0x40009044) 0 3 .ro 0 (part := true)

/-! CHB_ENERGY, offset 0x048, owner PART, reset 0x8000_8000 (spec/05_channel_bank.md). -/
def CHB_ENERGY_PEAK : Fld := mk (0x40009048) 16 16 .ro 32768 (part := true)
def CHB_ENERGY_LAST : Fld := mk (0x40009048) 0 16 .ro 32768 (part := true)

/-! CHB_NOISE, offset 0x04C, owner PART, reset 0x0000_8000 (spec/05_channel_bank.md). -/
def CHB_NOISE_N : Fld := mk (0x4000904C) 0 16 .ro 32768 (part := true)

/-! CHB_DETCNT, offset 0x050, owner PART, reset 0x0000_0000 (spec/05_channel_bank.md). -/
def CHB_DETCNT_SYNCS : Fld := mk (0x40009050) 16 16 .ro 0 (part := true)
def CHB_DETCNT_DETS : Fld := mk (0x40009050) 0 16 .ro 0 (part := true)

/-! CHB_LOSTA, offset 0x054, owner PART, reset 0x0000_0000 (spec/05_channel_bank.md). -/
def CHB_LOSTA_OVERLAP : Fld := mk (0x40009054) 16 16 .ro 0 (part := true)
def CHB_LOSTA_BLANK : Fld := mk (0x40009054) 0 16 .ro 0 (part := true)

/-! CHB_LOSTB, offset 0x058, owner PART, reset 0x0000_0000 (spec/05_channel_bank.md). -/
def CHB_LOSTB_OTHER : Fld := mk (0x40009058) 0 16 .ro 0 (part := true)

/-! CHB_DESCn, offset 0x060 + 4 × n, for n = 0–9, owner PART, reset 0x0000_0000 (spec/05_channel_bank.md). -/
def CHB_DESCn_WORD (n : Nat) : Fld := mk (0x40009060 + 0x4 * n) 0 32 .ro 0 (part := true)

/-! TRL_CTL, offset 0x000, owner P0, reset 0x0000_0000 (spec/06_coding_and_frames.md). -/
def TRL_CTL_EN : Fld := mk (0x4000A000) 0 1 .rw 0

/-! TRL_STAT, offset 0x004, owner ANY-RO, reset 0x0000_000F (spec/06_coding_and_frames.md). -/
def TRL_STAT_CTX : Fld := mk (0x4000A004) 24 8 .ro 0
def TRL_STAT_SVCREJ : Fld := mk (0x4000A004) 12 1 .ro 0
def TRL_STAT_BUSY : Fld := mk (0x4000A004) 8 4 .ro 0
def TRL_STAT_INSVC : Fld := mk (0x4000A004) 0 4 .ro 15

/-! TRL_SVC, offset 0x008, owner P0, reset 0x0000_0000 (spec/06_coding_and_frames.md). -/
def TRL_SVC_OUT : Fld := mk (0x4000A008) 0 4 .rw 0

/-! TRL_LATMAX, offset 0x00C, owner ANY-RO, reset 0x0000_0000 (spec/06_coding_and_frames.md). -/
def TRL_LATMAX_CYC : Fld := mk (0x4000A00C) 0 16 .rc 0

/-! TRL_CODEn, offset 0x040 + 4 × n, for n = 0–7. Owner ANY-RO for n = 0–3, P0 for n = 4–7. Reset 0x0007_5B79 for n = 0, 1 and 4–7. For n = 2 and 3 the reset value is the standard's non-recursive and recursive K = 4 code respectively. The access codes shown are those of entries 4–7; in entries 0–3 every field is RO. (spec/06_coding_and_frames.md). -/
def TRL_CODEn_RSC (n : Nat) : Fld := mk (0x4000A040 + 0x4 * n) 31 1 (if n < 4 then .ro else .rw) (nth [0, 0, 0, 1, 0, 0, 0, 0] n)
def TRL_CODEn_K (n : Nat) : Fld := mk (0x4000A040 + 0x4 * n) 16 3 (if n < 4 then .ro else .rw) (nth [7, 7, 4, 4, 7, 7, 7, 7] n) (ok := [(4, 7)])
def TRL_CODEn_G1 (n : Nat) : Fld := mk (0x4000A040 + 0x4 * n) 8 7 (if n < 4 then .ro else .rw) (nth [91, 91, 13, 13, 91, 91, 91, 91] n)
def TRL_CODEn_G0 (n : Nat) : Fld := mk (0x4000A040 + 0x4 * n) 0 7 (if n < 4 then .ro else .rw) (nth [121, 121, 15, 15, 121, 121, 121, 121] n)

/-! PKT_CTL, offset 0x000, owner P0, reset 0x0000_0000 (spec/06_coding_and_frames.md). -/
def PKT_CTL_CLRCNT : Fld := mk (0x4000C000) 1 1 .wo 0
def PKT_CTL_EN : Fld := mk (0x4000C000) 0 1 .rw 0

/-! PKT_F3CFG, offset 0x004, owner P0, reset 0x0000_0000 (spec/06_coding_and_frames.md). -/
def PKT_F3CFG_ILV : Fld := mk (0x4000C004) 1 1 .rw 0
def PKT_F3CFG_RSC : Fld := mk (0x4000C004) 0 1 .rw 0

/-! PKT_RXREG, offset 0x008, owner ANY-RO, reset 0x0000_0000 (spec/06_coding_and_frames.md). -/
def PKT_RXREG_PEAK : Fld := mk (0x4000C008) 16 11 .ro 0
def PKT_RXREG_INUSE : Fld := mk (0x4000C008) 0 11 .ro 0

/-! PKT_PHRERR, offset 0x010, owner ANY-RO, reset 0x0000_0000 (spec/06_coding_and_frames.md). -/
def PKT_PHRERR_LENERR : Fld := mk (0x4000C010) 16 16 .ro 0
def PKT_PHRERR_CRCERR : Fld := mk (0x4000C010) 0 16 .ro 0

/-! PKT_FCSERR, offset 0x014, owner ANY-RO, reset 0x0000_0000 (spec/06_coding_and_frames.md). -/
def PKT_FCSERR_HDRERR : Fld := mk (0x4000C014) 16 16 .ro 0
def PKT_FCSERR_FCS : Fld := mk (0x4000C014) 0 16 .ro 0

/-! PKT_DROP, offset 0x018, owner ANY-RO, reset 0x0000_0000 (spec/06_coding_and_frames.md). -/
def PKT_DROP_MS : Fld := mk (0x4000C018) 16 16 .ro 0
def PKT_DROP_RXBUF : Fld := mk (0x4000C018) 0 16 .ro 0

/-! PKT_RXOK, offset 0x01C, owner ANY-RO, reset 0x0000_0000 (spec/06_coding_and_frames.md). -/
def PKT_RXOK_COUNT : Fld := mk (0x4000C01C) 0 32 .ro 0

/-! TXM_CTL, offset 0x000, owner P0, reset 0x0000_0000 (spec/07_transmit.md). -/
def TXM_CTL_EN : Fld := mk (0x4000B000) 0 1 .rw 0

/-! TXM_STAT, offset 0x004, owner ANY-RO, reset 0x0000_0000 (spec/07_transmit.md). -/
def TXM_STAT_REASON : Fld := mk (0x4000B004) 28 4 .ro 0
def TXM_STAT_TAPREJ : Fld := mk (0x4000B004) 8 1 .ro 0
def TXM_STAT_PROFREJ : Fld := mk (0x4000B004) 7 1 .ro 0
def TXM_STAT_SUPPLY : Fld := mk (0x4000B004) 5 2 .ro 0
def TXM_STAT_PHASE : Fld := mk (0x4000B004) 1 3 .ro 0
def TXM_STAT_ACTIVE : Fld := mk (0x4000B004) 0 1 .ro 0

/-! TXM_FEMPAT, offset 0x008, owner P0, reset 0x0000_0880 (spec/07_transmit.md). -/
def TXM_FEMPAT_OFFPAT : Fld := mk (0x4000B008) 12 4 .rw 0
def TXM_FEMPAT_TXPATB : Fld := mk (0x4000B008) 8 4 .rw 8
def TXM_FEMPAT_TXPATA : Fld := mk (0x4000B008) 4 4 .rw 8
def TXM_FEMPAT_RXPAT : Fld := mk (0x4000B008) 0 4 .rw 0

/-! TXM_FEMTIM, offset 0x00C, owner P0, reset 0x0000_0505 (spec/07_transmit.md). -/
def TXM_FEMTIM_TAIL : Fld := mk (0x4000B00C) 8 6 .rw 5
def TXM_FEMTIM_LEAD : Fld := mk (0x4000B00C) 0 6 .rw 5

/-! TXM_LASTREP, offset 0x010, owner P0, reset 0x0000_0003 (spec/07_transmit.md). -/
def TXM_LASTREP_PROF : Fld := mk (0x4000B010) 20 4 .ro 0
def TXM_LASTREP_PWR : Fld := mk (0x4000B010) 13 7 .ro 0
def TXM_LASTREP_PWRCUT : Fld := mk (0x4000B010) 7 1 .ro 0
def TXM_LASTREP_PWRLIM : Fld := mk (0x4000B010) 6 1 .ro 0
def TXM_LASTREP_COVER : Fld := mk (0x4000B010) 2 2 .ro 0
def TXM_LASTREP_MASKRES : Fld := mk (0x4000B010) 0 2 .ro 3

/-! TXM_TAPCTL, offset 0x014, owner P0, reset 0x0000_0000 (spec/07_transmit.md). -/
def TXM_TAPCTL_INMODE1 : Fld := mk (0x4000B014) 9 1 .rw 0
def TXM_TAPCTL_INMODE0 : Fld := mk (0x4000B014) 8 1 .rw 0
def TXM_TAPCTL_COMMIT1 : Fld := mk (0x4000B014) 1 1 .wo 0
def TXM_TAPCTL_COMMIT0 : Fld := mk (0x4000B014) 0 1 .wo 0

/-! TXM_TAPG, offset 0x018, owner ANY-RO, reset 0x0800_0800 (spec/07_transmit.md). -/
def TXM_TAPG_G1 : Fld := mk (0x4000B018) 16 16 .ro 2048
def TXM_TAPG_G0 : Fld := mk (0x4000B018) 0 16 .ro 2048

/-! TXM_MASKCNT, offset 0x01C, owner ANY-RO, reset 0x0000_0000 (spec/07_transmit.md). -/
def TXM_MASKCNT_MUTED : Fld := mk (0x4000B01C) 16 16 .rc 0
def TXM_MASKCNT_FLAGGED : Fld := mk (0x4000B01C) 0 16 .rc 0

/-! TXM_RAMPn, offset 0x020 + 4 × n, for n = 0–7, owner P0. Resets 0x0A05_0201, 0x251D_150F, 0x4F43_392F, 0x8073_675A, 0xB0A5_988C, 0xDAD0_C6BC, 0xF5F0_EAE2 and 0xFFFE_FDFA. (spec/07_transmit.md). -/
def TXM_RAMPn_A3 (n : Nat) : Fld := mk (0x4000B020 + 0x4 * n) 24 8 .rw (nth [10, 37, 79, 128, 176, 218, 245, 255] n)
def TXM_RAMPn_A2 (n : Nat) : Fld := mk (0x4000B020 + 0x4 * n) 16 8 .rw (nth [5, 29, 67, 115, 165, 208, 240, 254] n)
def TXM_RAMPn_A1 (n : Nat) : Fld := mk (0x4000B020 + 0x4 * n) 8 8 .rw (nth [2, 21, 57, 103, 152, 198, 234, 253] n)
def TXM_RAMPn_A0 (n : Nat) : Fld := mk (0x4000B020 + 0x4 * n) 0 8 .rw (nth [1, 15, 47, 90, 140, 188, 226, 250] n)

/-! TXM_PAGAINn, offset 0x040 + 4 × n, for n = 0–39, owner P0, reset 0x0000_0000 (spec/07_transmit.md). -/
def TXM_PAGAINn_CELLS1 (n : Nat) : Fld := mk (0x4000B040 + 0x4 * n) 29 3 .rw 0
def TXM_PAGAINn_DRV1 (n : Nat) : Fld := mk (0x4000B040 + 0x4 * n) 21 8 .rw 0
def TXM_PAGAINn_BIAS1 (n : Nat) : Fld := mk (0x4000B040 + 0x4 * n) 16 5 .rw 0
def TXM_PAGAINn_CELLS0 (n : Nat) : Fld := mk (0x4000B040 + 0x4 * n) 13 3 .rw 0
def TXM_PAGAINn_DRV0 (n : Nat) : Fld := mk (0x4000B040 + 0x4 * n) 5 8 .rw 0
def TXM_PAGAINn_BIAS0 (n : Nat) : Fld := mk (0x4000B040 + 0x4 * n) 0 5 .rw 0

/-! TXM_PROFnA, offset 0x100 + 0x10 × n, for n = 0–15, owner P0, reset per R188 (spec/07_transmit.md). -/
def TXM_PROFnA_MOD (n : Nat) : Fld := mk (0x4000B100 + 0x10 * n) 29 3 .rw (nth [1, 1, 1, 1, 1, 4] n) (ok := [(0, 4)])
def TXM_PROFnA_SHAPE (n : Nat) : Fld := mk (0x4000B100 + 0x10 * n) 26 3 .rw (nth [1, 1, 1, 1, 1, 3] n) (ok := [(0, 5)])
def TXM_PROFnA_FEMSEL (n : Nat) : Fld := mk (0x4000B100 + 0x10 * n) 25 1 .rw 0
def TXM_PROFnA_MASKSEL (n : Nat) : Fld := mk (0x4000B100 + 0x10 * n) 24 1 .rw 0
def TXM_PROFnA_RATE (n : Nat) : Fld := mk (0x4000B100 + 0x10 * n) 0 20 .rw (nth [3000, 12000, 48000, 192000, 1000000, 1000000] n)

/-! TXM_PROFnB, offset 0x104 + 0x10 × n, owner P0, reset per R188 (spec/07_transmit.md). -/
def TXM_PROFnB_RAMPT (n : Nat) : Fld := mk (0x4000B104 + 0x10 * n) 27 5 .rw (nth [3, 3, 3, 3, 3, 3] n)
def TXM_PROFnB_PWR (n : Nat) : Fld := mk (0x4000B104 + 0x10 * n) 17 7 .rw (nth [68, 68, 68, 68, 68, 68] n)
def TXM_PROFnB_DEV (n : Nat) : Fld := mk (0x4000B104 + 0x10 * n) 0 15 .rw (nth [75, 300, 600, 2400, 6250, 12500] n)

/-! TXM_PROFnC, offset 0x108 + 0x10 × n, owner P0, reset per R188 (spec/07_transmit.md). -/
def TXM_PROFnC_PARTMASK (n : Nat) : Fld := mk (0x4000B108 + 0x10 * n) 0 32 .rw (nth [4294967295, 4294967295, 4294967295, 4294967295, 4294967295, 4294967295] n)

/-! TXM_MSEGnL, offset 0x200 + 8 × n, for n = 0–31, owner P0, reset 0x0000_0000 (spec/07_transmit.md). -/
def TXM_MSEGnL_EN (n : Nat) : Fld := mk (0x4000B200 + 0x8 * n) 31 1 .rw 0
def TXM_MSEGnL_WHEN (n : Nat) : Fld := mk (0x4000B200 + 0x8 * n) 29 2 .rw 0 (ok := [(0, 2)])
def TXM_MSEGnL_REF (n : Nat) : Fld := mk (0x4000B200 + 0x8 * n) 28 1 .rw 0
def TXM_MSEGnL_OFFHI (n : Nat) : Fld := mk (0x4000B200 + 0x8 * n) 12 12 .rw 0
def TXM_MSEGnL_OFFLO (n : Nat) : Fld := mk (0x4000B200 + 0x8 * n) 0 12 .rw 0

/-! TXM_MSEGnH, offset 0x204 + 8 × n, owner P0, reset 0x0000_0000 (spec/07_transmit.md). -/
def TXM_MSEGnH_LIMIT (n : Nat) : Fld := mk (0x4000B204 + 0x8 * n) 0 16 .rw 0

/-! TXM_TAPs,w, offset 0x300 + 4 × (16s + w), for s = 0–1 and w = 0–15, owner P0, reset 0x0000_0000 except for the words holding the SHAPE 1 taps of R191 (spec/07_transmit.md). -/
def TXM_TAPsw_CODD (s w : Nat) : Fld := mk (0x4000B300 + 0x40 * s + 0x4 * w) 16 12 .rw (nth [0, 0, 0, 0, 0, 0, 0, 0, 0, 0, 0, 0, 3, 41, 192, 375] w)
def TXM_TAPsw_CEVEN (s w : Nat) : Fld := mk (0x4000B300 + 0x40 * s + 0x4 * w) 0 12 .rw (nth [0, 0, 0, 0, 0, 0, 0, 0, 0, 0, 0, 0, 1, 13, 99, 300] w)

/-! TXM_MASKCTLm, offset 0x380 + 4 × m, for m = 0–1, owner P0, reset 0x0000_0111 (spec/07_transmit.md). -/
def TXM_MASKCTLm_POLICY (m : Nat) : Fld := mk (0x4000B380 + 0x4 * m) 8 2 .rw 1 (ok := [(0, 2)])
def TXM_MASKCTLm_CONSEC (m : Nat) : Fld := mk (0x4000B380 + 0x4 * m) 4 3 .rw 1
def TXM_MASKCTLm_MPER (m : Nat) : Fld := mk (0x4000B380 + 0x4 * m) 0 4 .rw 1

/-! AIR_CTL, offset 0x000, owner P0, reset 0x0000_0002 (spec/08_air_access.md). -/
def AIR_CTL_CLRCNT : Fld := mk (0x4000D000) 2 1 .wo 0
def AIR_CTL_HOLDRX : Fld := mk (0x4000D000) 1 1 .rw 1
def AIR_CTL_EN : Fld := mk (0x4000D000) 0 1 .rw 0

/-! AIR_STAT, offset 0x004, owner ANY-RO, reset 0x0000_0000 (spec/08_air_access.md). -/
def AIR_STAT_PROFID : Fld := mk (0x4000D004) 16 16 .ro 0
def AIR_STAT_BPREJ : Fld := mk (0x4000D004) 3 1 .ro 0
def AIR_STAT_FBK : Fld := mk (0x4000D004) 2 1 .ro 0
def AIR_STAT_REGPEND : Fld := mk (0x4000D004) 1 1 .ro 0
def AIR_STAT_REGACT : Fld := mk (0x4000D004) 0 1 .ro 0

/-! AIR_TXLOCKWAIT, offset 0x008, owner P0, reset 0x0000_01F4 (spec/08_air_access.md). -/
def AIR_TXLOCKWAIT_WAIT : Fld := mk (0x4000D008) 0 16 .rw 500 (ok := [(50, 10000)])

/-! AIR_BPER, offset 0x00C, owner P0, reset 0x01C9_C380 (spec/08_air_access.md). -/
def AIR_BPER_PER : Fld := mk (0x4000D00C) 0 32 .rw 30000000 (ok := [(1000000, 3600000000)])

/-! AIR_BOFS, offset 0x010, owner P0, reset 0x0000_0000 (spec/08_air_access.md). -/
def AIR_BOFS_OFS : Fld := mk (0x4000D010) 0 32 .rw 0

/-! AIR_NEXTB, offset 0x014, owner ANY-RO, reset 0x0000_0000 (spec/08_air_access.md). -/
def AIR_NEXTB_TICK : Fld := mk (0x4000D014) 0 32 .ro 0

/-! AIR_BCNCTL, offset 0x018, owner P0, reset 0x0000_0000 (spec/08_air_access.md). -/
def AIR_BCNCTL_COLF : Fld := mk (0x4000D018) 0 1 .rw 0

/-! AIR_LBTCFG, offset 0x020, owner P0, reset 0x0055_00A0 (spec/08_air_access.md). -/
def AIR_LBTCFG_EN : Fld := mk (0x4000D020) 31 1 .rw 0
def AIR_LBTCFG_RETUNE : Fld := mk (0x4000D020) 30 1 .rw 0
def AIR_LBTCFG_THR : Fld := mk (0x4000D020) 16 7 .rw 85 (ok := [(60, 100)])
def AIR_LBTCFG_WIN : Fld := mk (0x4000D020) 0 14 .rw 160 (ok := [(5, 10000)])

/-! AIR_BOCFG, offset 0x024, owner P0, reset 0x03E8_0452 (spec/08_air_access.md). -/
def AIR_BOCFG_BU : Fld := mk (0x4000D024) 16 16 .rw 1000 (ok := [(40, 10000)])
def AIR_BOCFG_MAXBO : Fld := mk (0x4000D024) 8 4 .rw 4
def AIR_BOCFG_BEMAX : Fld := mk (0x4000D024) 4 4 .rw 5 (ok := [(0, 8)])
def AIR_BOCFG_BEMIN : Fld := mk (0x4000D024) 0 4 .rw 2 (ok := [(0, 8)])

/-! AIR_REGADDR, offset 0x030, owner P0, reset 0x0000_0000 (spec/08_air_access.md). -/
def AIR_REGADDR_ADDR : Fld := mk (0x4000D030) 2 30 .rw 0

/-! AIR_REGCTL, offset 0x034, owner P0, reset 0x0000_0000 (spec/08_air_access.md). -/
def AIR_REGCTL_CANCEL : Fld := mk (0x4000D034) 2 1 .wo 0
def AIR_REGCTL_NOW : Fld := mk (0x4000D034) 1 1 .wo 0
def AIR_REGCTL_LOAD : Fld := mk (0x4000D034) 0 1 .wo 0

/-! AIR_REGSTAT, offset 0x038, owner P0, reset 0x0000_0000 (spec/08_air_access.md). -/
def AIR_REGSTAT_PROFID : Fld := mk (0x4000D038) 16 16 .ro 0
def AIR_REGSTAT_REASON : Fld := mk (0x4000D038) 4 4 .ro 0
def AIR_REGSTAT_NOWREJ : Fld := mk (0x4000D038) 3 1 .ro 0
def AIR_REGSTAT_ERR : Fld := mk (0x4000D038) 2 1 .ro 0
def AIR_REGSTAT_PEND : Fld := mk (0x4000D038) 1 1 .ro 0
def AIR_REGSTAT_BUSY : Fld := mk (0x4000D038) 0 1 .ro 0

/-! AIR_BLKCNT, offset 0x040, owner ANY-RO, reset 0x0000_0000 (spec/08_air_access.md). -/
def AIR_BLKCNT_LOST : Fld := mk (0x4000D040) 16 16 .ro 0
def AIR_BLKCNT_INTV : Fld := mk (0x4000D040) 0 16 .ro 0

/-! AIR_BLKTIME, offset 0x044, owner ANY-RO, reset 0x0000_0000 (spec/08_air_access.md). -/
def AIR_BLKTIME_MS : Fld := mk (0x4000D044) 0 32 .ro 0

/-! AIR_NONID, offset 0x048, owner ANY-RO, reset 0x0000_0000 (spec/08_air_access.md). -/
def AIR_NONID_COUNT : Fld := mk (0x4000D048) 0 16 .ro 0

/-! AIR_ACKSTAT, offset 0x04C, owner ANY-RO, reset 0x0000_0000 (spec/08_air_access.md). -/
def AIR_ACKSTAT_NOTSENT : Fld := mk (0x4000D04C) 16 16 .ro 0
def AIR_ACKSTAT_SENT : Fld := mk (0x4000D04C) 0 16 .ro 0

/-! AIR_SBUSEn, offset 0x080 + 4 × n, for n = 0–15, owner ANY-RO, reset 0x0000_0000 (spec/08_air_access.md). -/
def AIR_SBUSEn_SUM (n : Nat) : Fld := mk (0x4000D080 + 0x4 * n) 0 32 .ro 0

/-! AIR_ACKCFG, offset 0x200, owner PART, reset 0x83E8_0020 (spec/08_air_access.md). -/
def AIR_ACKCFG_EN : Fld := mk (0x4000D200) 31 1 .rw 1 (part := true)
def AIR_ACKCFG_TURN : Fld := mk (0x4000D200) 16 13 .rw 1000 (part := true) (ok := [(250, 5000)])
def AIR_ACKCFG_PRE : Fld := mk (0x4000D200) 0 9 .rw 32 (part := true) (ok := [(16, 256)])

/-! AIR_ACKGRP, offset 0x204, owner PART, reset 0x0000_0000 (spec/08_air_access.md). -/
def AIR_ACKGRP_GEN : Fld := mk (0x4000D204) 31 1 .rw 0 (part := true)
def AIR_ACKGRP_GRPBELOW : Fld := mk (0x4000D204) 0 20 .rw 0 (part := true)

/-! AIR_GACKCFG, offset 0x208, owner PART, reset 0x0007_D001 (spec/08_air_access.md). -/
def AIR_GACKCFG_GPER : Fld := mk (0x4000D208) 8 24 .rw 2000 (part := true) (ok := [(100, 3600000)])
def AIR_GACKCFG_GCODE : Fld := mk (0x4000D208) 0 3 .rw 1 (part := true) (ok := [(0, 4)])

/-! AIR_GFREQ, offset 0x20C, owner PART, reset 0x0000_0000 (spec/08_air_access.md). -/
def AIR_GFREQ_FREQ : Fld := mk (0x4000D20C) 0 29 .rw 0 (part := true)

/-! AIR_GOFS, offset 0x210, owner PART, reset 0x0000_0000 (spec/08_air_access.md). -/
def AIR_GOFS_OFS : Fld := mk (0x4000D210) 0 32 .rw 0 (part := true)

/-! AIR_BCNP, offset 0x214, owner PART, reset 0x0000_0100 (spec/08_air_access.md). -/
def AIR_BCNP_EN : Fld := mk (0x4000D214) 31 1 .rw 0 (part := true)
def AIR_BCNP_NIDX : Fld := mk (0x4000D214) 29 2 .rw 0 (part := true)
def AIR_BCNP_VERHI : Fld := mk (0x4000D214) 24 3 .rw 0 (part := true)
def AIR_BCNP_VERLO : Fld := mk (0x4000D214) 20 3 .rw 0 (part := true)
def AIR_BCNP_BPROF : Fld := mk (0x4000D214) 16 4 .rw 0 (part := true)
def AIR_BCNP_BDIV : Fld := mk (0x4000D214) 8 8 .rw 1 (part := true) (ok := [(1, 255)])
def AIR_BCNP_XLEN : Fld := mk (0x4000D214) 0 6 .rw 0 (part := true) (ok := [(0, 32)])

/-! AIR_BFREQ, offset 0x218, owner PART, reset 0x0000_0000 (spec/08_air_access.md). -/
def AIR_BFREQ_FREQ : Fld := mk (0x4000D218) 0 29 .rw 0 (part := true)

/-! AIR_BOFF, offset 0x21C, owner PART, reset 0x0000_03E8 (spec/08_air_access.md). -/
def AIR_BOFF_OFF : Fld := mk (0x4000D21C) 0 32 .rw 1000 (part := true)

/-! AIR_BXw, offset 0x220 + 4 × w, for w = 0–7, owner PART, reset 0x0000_0000 (spec/08_air_access.md). -/
def AIR_BXw_OCTETS (w : Nat) : Fld := mk (0x4000D220 + 0x4 * w) 0 32 .rw 0 (part := true)

/-! AIR_TXPOL, offset 0x240, owner PART, reset 0x2710_3203 (spec/08_air_access.md). -/
def AIR_TXPOL_MAXWAIT : Fld := mk (0x4000D240) 16 16 .rw 10000 (part := true) (ok := [(1, 65535)])
def AIR_TXPOL_RETRYDLY : Fld := mk (0x4000D240) 8 8 .rw 50 (part := true)
def AIR_TXPOL_ONDEFER : Fld := mk (0x4000D240) 4 1 .rw 0 (part := true)
def AIR_TXPOL_RETRIES : Fld := mk (0x4000D240) 0 4 .rw 3 (part := true)

/-! AIR_PAIRT, offset 0x244, owner PART, reset 0x0000_0000 (spec/08_air_access.md). -/
def AIR_PAIRT_MS : Fld := mk (0x4000D244) 0 32 .ro 0 (part := true)

/-! AIR_PACK, offset 0x248, owner PART, reset 0x0000_0000 (spec/08_air_access.md). -/
def AIR_PACK_GPEND : Fld := mk (0x4000D248) 16 8 .ro 0 (part := true)
def AIR_PACK_NOTSENT : Fld := mk (0x4000D248) 0 16 .ro 0 (part := true)

/-! AIR_TXSYNCn, offset 0x250 + 4 × n, for n = 0–3, owner PART, reset 0x0000_0000 (spec/08_air_access.md). -/
def AIR_TXSYNCn_SYNC (n : Nat) : Fld := mk (0x4000D250 + 0x4 * n) 0 32 .rw 0 (part := true)

/-! ASC_CTL, offset 0x000, owner P0, reset 0x0000_0000 (spec/09_associations_and_schedules.md). -/
def ASC_CTL_CLRCNT : Fld := mk (0x4000E000) 1 1 .wo 0
def ASC_CTL_EN : Fld := mk (0x4000E000) 0 1 .rw 0

/-! ASC_STAT, offset 0x004, owner ANY-RO, reset 0x0000_0000 (spec/09_associations_and_schedules.md). -/
def ASC_STAT_WHLHOLD : Fld := mk (0x4000E004) 16 1 .ro 0
def ASC_STAT_USED : Fld := mk (0x4000E004) 0 14 .ro 0

/-! ASC_DGW, offset 0x008, owner ANY-RO, reset 0x0000_0014 (spec/09_associations_and_schedules.md). -/
def ASC_DGW_DGW : Fld := mk (0x4000E008) 0 8 .ro 20

/-! ASC_WHL, offset 0x00C, owner P0, reset 0x0000_000A (spec/09_associations_and_schedules.md). -/
def ASC_WHL_MAXLAT : Fld := mk (0x4000E00C) 16 16 .ro 0
def ASC_WHL_LEAD : Fld := mk (0x4000E00C) 0 8 .rw 10 (ok := [(10, 255)])

/-! ASC_SARNGp, offset 0x100 + 4 × p, for p = 0–31, owner P0, reset 0x0000_0000 (spec/09_associations_and_schedules.md). -/
def ASC_SARNGp_LAST (p : Nat) : Fld := mk (0x4000E100 + 0x4 * p) 16 16 .rw 0
def ASC_SARNGp_FIRST (p : Nat) : Fld := mk (0x4000E100 + 0x4 * p) 0 16 .rw 0

/-! ASC_GUARD, offset 0x200, owner PART, reset 0x03E8_07D0 (spec/09_associations_and_schedules.md). -/
def ASC_GUARD_GMAX : Fld := mk (0x4000E200) 16 16 .rw 1000 (part := true) (ok := [(1, 65535)])
def ASC_GUARD_G0 : Fld := mk (0x4000E200) 0 16 .rw 2000 (part := true)

/-! ASC_FRCFG, offset 0x204, owner PART, reset 0x0003_00C8 (spec/09_associations_and_schedules.md). -/
def ASC_FRCFG_MISSMAX : Fld := mk (0x4000E204) 16 4 .rw 3 (part := true) (ok := [(1, 15)])
def ASC_FRCFG_FWIN : Fld := mk (0x4000E204) 0 16 .rw 200 (part := true) (ok := [(1, 65535)])

/-! ASC_LOSTCFG, offset 0x208, owner PART, reset 0x0000_0001 (spec/09_associations_and_schedules.md). -/
def ASC_LOSTCFG_RPER : Fld := mk (0x4000E208) 20 12 .rw 0 (part := true)
def ASC_LOSTCFG_RBURST : Fld := mk (0x4000E208) 8 12 .rw 0 (part := true)
def ASC_LOSTCFG_RPROF : Fld := mk (0x4000E208) 4 4 .rw 0 (part := true)
def ASC_LOSTCFG_RSECLVL : Fld := mk (0x4000E208) 0 3 .rw 1 (part := true) (ok := [(1, 3), (5, 7)])

/-! ASC_RFREQ, offset 0x20C, owner PART, reset 0x0000_0000 (spec/09_associations_and_schedules.md). -/
def ASC_RFREQ_FREQ : Fld := mk (0x4000E20C) 0 29 .rw 0 (part := true)

/-! ASC_WCLSnA, offset 0x210 + 8 × n, for n = 0–6, owner PART, reset 0x0000_0000 (spec/09_associations_and_schedules.md). -/
def ASC_WCLSnA_KIND (n : Nat) : Fld := mk (0x4000E210 + 0x8 * n) 31 1 .rw 0 (part := true)
def ASC_WCLSnA_PERIOD (n : Nat) : Fld := mk (0x4000E210 + 0x8 * n) 0 27 .rw 0 (part := true) (ok := [(0, 86400000)])

/-! ASC_WCLSnB, offset 0x214 + 8 × n, for n = 0–6, owner PART, reset 0x0000_03E8 (spec/09_associations_and_schedules.md). -/
def ASC_WCLSnB_TAIL (n : Nat) : Fld := mk (0x4000E214 + 0x8 * n) 0 16 .rw 1000 (part := true)

/-! ASC_CLADDRL, offset 0x250, owner PART, reset 0x0000_0000 (spec/09_associations_and_schedules.md). -/
def ASC_CLADDRL_LADDR : Fld := mk (0x4000E250) 0 32 .rw 0 (part := true)

/-! ASC_CLADDRH, offset 0x254, owner PART, reset 0x0000_0000 (spec/09_associations_and_schedules.md). -/
def ASC_CLADDRH_LADDR : Fld := mk (0x4000E254) 0 32 .rw 0 (part := true)

/-! ASC_PVMAP, offset 0x258, owner PART, reset 0x0000_0000 (spec/09_associations_and_schedules.md). -/
def ASC_PVMAP_MAP : Fld := mk (0x4000E258) 0 8 .rw 0 (part := true)

/-! ASC_PSTAT, offset 0x25C, owner PART, reset 0x0000_0000 (spec/09_associations_and_schedules.md). -/
def ASC_PSTAT_CURSOR : Fld := mk (0x4000E25C) 16 16 .ro 0 (part := true)
def ASC_PSTAT_USED : Fld := mk (0x4000E25C) 0 14 .ro 0 (part := true)

/-! ASC_PCNT, offset 0x260, owner PART, reset 0x0000_0000 (spec/09_associations_and_schedules.md). -/
def ASC_PCNT_MISSED : Fld := mk (0x4000E260) 16 16 .ro 0 (part := true)
def ASC_PCNT_OUTWIN : Fld := mk (0x4000E260) 0 16 .ro 0 (part := true)

/-! ASC_PCNT2, offset 0x264, owner PART, reset 0x0000_0000 (spec/09_associations_and_schedules.md). -/
def ASC_PCNT2_LOST : Fld := mk (0x4000E264) 16 16 .ro 0 (part := true)
def ASC_PCNT2_VERERR : Fld := mk (0x4000E264) 0 16 .ro 0 (part := true)

/-! PRT_CRADDR, offset 0x000, owner P0, reset 0x0000_0000 (spec/10_partitions_and_qos.md). -/
def PRT_CRADDR_ADDR : Fld := mk (0x40010000) 2 30 .rw 0

/-! PRT_CRCTL, offset 0x004, owner P0, reset 0x0000_0000 (spec/10_partitions_and_qos.md). -/
def PRT_CRCTL_PNUM : Fld := mk (0x40010004) 8 5 .rw 0
def PRT_CRCTL_PURGE : Fld := mk (0x40010004) 1 1 .wo 0
def PRT_CRCTL_CREATE : Fld := mk (0x40010004) 0 1 .wo 0

/-! PRT_CRSTAT, offset 0x008, owner P0, reset 0x0000_0000 (spec/10_partitions_and_qos.md). -/
def PRT_CRSTAT_PNUM : Fld := mk (0x40010008) 16 5 .ro 0
def PRT_CRSTAT_CODE : Fld := mk (0x40010008) 8 8 .ro 0
def PRT_CRSTAT_BUSYREJ : Fld := mk (0x40010008) 1 1 .ro 0
def PRT_CRSTAT_BUSY : Fld := mk (0x40010008) 0 1 .ro 0

/-! PRT_PSTATp, offset 0x100 + 4 × p, for p = 0–31, owner P0, reset 0x0000_0002 for p = 0, 0x0000_0000 otherwise (spec/10_partitions_and_qos.md). -/
def PRT_PSTATp_AUTOCNT (p : Nat) : Fld := mk (0x40010100 + 0x4 * p) 16 8 .ro 0
def PRT_PSTATp_ENGINE (p : Nat) : Fld := mk (0x40010100 + 0x4 * p) 12 2 .ro 0
def PRT_PSTATp_FCAUSE (p : Nat) : Fld := mk (0x40010100 + 0x4 * p) 8 3 .ro 0
def PRT_PSTATp_PORT (p : Nat) : Fld := mk (0x40010100 + 0x4 * p) 7 1 .ro 0
def PRT_PSTATp_LS (p : Nat) : Fld := mk (0x40010100 + 0x4 * p) 6 1 .ro 0
def PRT_PSTATp_LASTRST (p : Nat) : Fld := mk (0x40010100 + 0x4 * p) 4 2 .ro 0
def PRT_PSTATp_STATE (p : Nat) : Fld := mk (0x40010100 + 0x4 * p) 0 3 .ro (if p = 0 then 2 else 0)

/-! PRT_PCTLp, offset 0x180 + 4 × p, for p = 0–31, owner P0, reset 0x0000_0000 (spec/10_partitions_and_qos.md). -/
def PRT_PCTLp_RST (p : Nat) : Fld := mk (0x40010180 + 0x4 * p) 4 2 .wo 0
def PRT_PCTLp_AUTORST (p : Nat) : Fld := mk (0x40010180 + 0x4 * p) 0 2 .rw 0 (ok := [(0, 2)])

/-! PRT_RSTREQ, offset 0x200, owner PART, reset 0x0000_0000 (spec/10_partitions_and_qos.md). -/
def PRT_RSTREQ_KIND : Fld := mk (0x40010200) 0 2 .wo 0 (part := true)

/-! PRT_PINFO, offset 0x204, owner PART, reset 0x0000_0000 (spec/10_partitions_and_qos.md). -/
def PRT_PINFO_NIDCNT : Fld := mk (0x40010204) 8 3 .ro 0 (part := true)
def PRT_PINFO_TRANSP : Fld := mk (0x40010204) 7 1 .ro 0 (part := true)
def PRT_PINFO_PORT : Fld := mk (0x40010204) 6 1 .ro 0 (part := true)
def PRT_PINFO_LS : Fld := mk (0x40010204) 5 1 .ro 0 (part := true)
def PRT_PINFO_PNUM : Fld := mk (0x40010204) 0 5 .ro 0 (part := true)

/-! PRT_FAULT, offset 0x208, owner PART, reset 0x0000_0000 (spec/10_partitions_and_qos.md). -/
def PRT_FAULT_FCAUSE : Fld := mk (0x40010208) 0 3 .ro 0 (part := true)

/-! PRT_FADDR, offset 0x20C, owner PART, reset 0x0000_0000 (spec/10_partitions_and_qos.md). -/
def PRT_FADDR_ADDR : Fld := mk (0x4001020C) 0 32 .ro 0 (part := true)

/-! PRT_QUOTA, offset 0x210, owner PART, reset 0x0000_0000 (spec/10_partitions_and_qos.md). -/
def PRT_QUOTA_ASSOCQ : Fld := mk (0x40010210) 16 14 .ro 0 (part := true)
def PRT_QUOTA_DATAG : Fld := mk (0x40010210) 8 8 .ro 0 (part := true)
def PRT_QUOTA_CODEG : Fld := mk (0x40010210) 0 8 .ro 0 (part := true)

/-! PRT_PKT, offset 0x214, owner PART, reset 0x0000_0000 (spec/10_partitions_and_qos.md). -/
def PRT_PKT_REQREJ : Fld := mk (0x40010214) 24 1 .ro 0 (part := true)
def PRT_PKT_CAP : Fld := mk (0x40010214) 16 8 .ro 0 (part := true)
def PRT_PKT_HELD : Fld := mk (0x40010214) 8 8 .ro 0 (part := true)
def PRT_PKT_FLOOR : Fld := mk (0x40010214) 0 8 .ro 0 (part := true)

/-! PRT_PKTREQ, offset 0x218, owner PART, reset 0x0000_0000 (spec/10_partitions_and_qos.md). -/
def PRT_PKTREQ_DIR : Fld := mk (0x40010218) 31 1 .wo 0 (part := true)
def PRT_PKTREQ_COUNT : Fld := mk (0x40010218) 0 8 .wo 0 (part := true)

/-! PRT_RXRING, offset 0x21C, owner PART, reset 0x0000_0000 (spec/10_partitions_and_qos.md). -/
def PRT_RXRING_SIZE : Fld := mk (0x4001021C) 16 12 .rw 0 (part := true) (ok := [(0, 0), (2, 3072)])
def PRT_RXRING_BASE : Fld := mk (0x4001021C) 0 12 .rw 0 (part := true)

/-! PRT_RXPTR, offset 0x220, owner PART, reset 0x0000_0000 (spec/10_partitions_and_qos.md). -/
def PRT_RXPTR_RINGREJ : Fld := mk (0x40010220) 31 1 .ro 0 (part := true)
def PRT_RXPTR_WR : Fld := mk (0x40010220) 16 12 .ro 0 (part := true)
def PRT_RXPTR_RD : Fld := mk (0x40010220) 0 12 .rw 0 (part := true)

/-! PRT_RXCNT, offset 0x224, owner PART, reset 0x0000_0000 (spec/10_partitions_and_qos.md). -/
def PRT_RXCNT_NOREC : Fld := mk (0x40010224) 16 16 .ro 0 (part := true)
def PRT_RXCNT_FULL : Fld := mk (0x40010224) 0 16 .ro 0 (part := true)

/-! PEC_PEND, offset 0x000, owner PART, reset 0x0000_0000 (spec/10_partitions_and_qos.md). -/
def PEC_PEND_PEND : Fld := mk (0x40011000) 0 32 .w1c 0 (part := true)

/-! PEC_EEN, offset 0x004, owner PART, reset 0x0000_0000 (spec/10_partitions_and_qos.md). -/
def PEC_EEN_EEN : Fld := mk (0x40011004) 0 32 .rw 0 (part := true)

/-! PEC_HPEND, offset 0x008, owner PART, reset 0x0000_0000 (spec/10_partitions_and_qos.md). -/
def PEC_HPEND_HPEND : Fld := mk (0x40011008) 0 32 .ro 0 (part := true)

/-! PEC_HEN, offset 0x00C, owner PART, reset 0x0000_0000 (spec/10_partitions_and_qos.md). -/
def PEC_HEN_HEN : Fld := mk (0x4001100C) 0 32 .rw 0 (part := true)

/-! PEC_OVF, offset 0x010, owner PART, reset 0x0000_0000 (spec/10_partitions_and_qos.md). -/
def PEC_OVF_OVF : Fld := mk (0x40011010) 0 32 .w1c 0 (part := true)

/-! PEC_HCTL, offset 0x014, owner PART, reset 0x0000_0001 (spec/10_partitions_and_qos.md). -/
def PEC_HCTL_OUTQ : Fld := mk (0x40011014) 0 1 .rw 1 (part := true)

/-! PEC_PIN, offset 0x100, owner P0, reset 0x0000_0011 (spec/10_partitions_and_qos.md). -/
def PEC_PIN_ODB : Fld := mk (0x40011100) 5 1 .rw 0
def PEC_PIN_ENB : Fld := mk (0x40011100) 4 1 .rw 1
def PEC_PIN_ODA : Fld := mk (0x40011100) 1 1 .rw 0
def PEC_PIN_ENA : Fld := mk (0x40011100) 0 1 .rw 1

/-! PEC_PINSTAT, offset 0x104, owner ANY-RO, reset 0x0000_0000 (spec/10_partitions_and_qos.md). -/
def PEC_PINSTAT_HIRQB : Fld := mk (0x40011104) 1 1 .ro 0
def PEC_PINSTAT_HIRQA : Fld := mk (0x40011104) 0 1 .ro 0

/-! SAD_AIRTOT, offset 0x000, owner P0, reset 0x0000_8CA0 (spec/10_partitions_and_qos.md). -/
def SAD_AIRTOT_TOT : Fld := mk (0x40012000) 0 20 .rw 36000

/-! SAD_STAT, offset 0x004, owner P0, reset 0x0000_0000 (spec/10_partitions_and_qos.md). -/
def SAD_STAT_RES : Fld := mk (0x40012004) 1 3 .ro 0
def SAD_STAT_REJ : Fld := mk (0x40012004) 0 1 .ro 0

/-! SAD_AFLRp, offset 0x100 + 0x20 × p, owner P0, reset 0x0100_0000 (spec/10_partitions_and_qos.md). -/
def SAD_AFLRp_WEIGHT (p : Nat) : Fld := mk (0x40012100 + 0x20 * p) 24 8 .rw 1
def SAD_AFLRp_FLOOR (p : Nat) : Fld := mk (0x40012100 + 0x20 * p) 0 20 .rw 0

/-! SAD_ACAPp, offset 0x104 + 0x20 × p, owner P0, reset 0x000F_4240 (spec/10_partitions_and_qos.md). -/
def SAD_ACAPp_CAP (p : Nat) : Fld := mk (0x40012104 + 0x20 * p) 0 32 .rw 1000000

/-! SAD_ENGp, offset 0x108 + 0x20 × p, owner P0, reset 0x0100_0000 (spec/10_partitions_and_qos.md). -/
def SAD_ENGp_WSLICE (p : Nat) : Fld := mk (0x40012108 + 0x20 * p) 24 4 .rw 1 (ok := [(1, 8)])
def SAD_ENGp_FLOOR (p : Nat) : Fld := mk (0x40012108 + 0x20 * p) 0 7 .rw 0 (ok := [(0, 100)])

/-! SAD_SECp, offset 0x10C + 0x20 × p, owner P0, reset 0x0100_0000 (spec/10_partitions_and_qos.md). -/
def SAD_SECp_WEIGHT (p : Nat) : Fld := mk (0x4001210C + 0x20 * p) 24 8 .rw 1 (ok := [(1, 255)])
def SAD_SECp_FLOOR (p : Nat) : Fld := mk (0x4001210C + 0x20 * p) 0 7 .rw 0 (ok := [(0, 100)])

/-! SAD_HIFp, offset 0x110 + 0x20 × p, owner P0, reset 0x0100_0000 (spec/10_partitions_and_qos.md). -/
def SAD_HIFp_WEIGHT (p : Nat) : Fld := mk (0x40012110 + 0x20 * p) 24 8 .rw 1 (ok := [(1, 255)])
def SAD_HIFp_FLOOR (p : Nat) : Fld := mk (0x40012110 + 0x20 * p) 0 7 .rw 0 (ok := [(0, 100)])

/-! SAD_MEMp, offset 0x114 + 0x20 × p, owner P0, reset 0x0100_0000 (spec/10_partitions_and_qos.md). -/
def SAD_MEMp_WEIGHT (p : Nat) : Fld := mk (0x40012114 + 0x20 * p) 24 8 .rw 1
def SAD_MEMp_FLOOR (p : Nat) : Fld := mk (0x40012114 + 0x20 * p) 0 7 .ro 0

/-! SAD_ALEVEL, offset 0x800, owner PART, reset 0x0000_0000 (spec/10_partitions_and_qos.md). -/
def SAD_ALEVEL_LEVEL : Fld := mk (0x40012800) 0 32 .ro 0 (part := true)

/-! SAD_AFILL, offset 0x804, owner PART, reset 0x0000_0000 (spec/10_partitions_and_qos.md). -/
def SAD_AFILL_FILL : Fld := mk (0x40012804) 0 20 .ro 0 (part := true)

/-! ENG_STAT, offset 0x000, owner ANY-RO, reset 0x0000_000F (spec/12_engines_and_programs.md). -/
def ENG_STAT_SVPEND : Fld := mk (0x40013000) 13 1 .ro 0
def ENG_STAT_SVSLOT : Fld := mk (0x40013000) 12 1 .ro 0
def ENG_STAT_SVCREJ : Fld := mk (0x40013000) 8 1 .ro 0
def ENG_STAT_DRAIN : Fld := mk (0x40013000) 4 4 .ro 0
def ENG_STAT_INSVC : Fld := mk (0x40013000) 0 4 .ro 15

/-! ENG_SVC, offset 0x004, owner P0, reset 0x0000_0000 (spec/12_engines_and_programs.md). -/
def ENG_SVC_OUT : Fld := mk (0x40013004) 0 4 .rw 0

/-! ENG_SLICE, offset 0x008, owner P0, reset 0x0000_03E8 (spec/12_engines_and_programs.md). -/
def ENG_SLICE_CYC : Fld := mk (0x40013008) 0 16 .rw 1000 (ok := [(200, 65535)])

/-! ENG_SEQWD, offset 0x00C, owner P0, reset 0x0064_6464 (spec/12_engines_and_programs.md). -/
def ENG_SEQWD_CEWD : Fld := mk (0x4001300C) 16 8 .rw 100 (ok := [(1, 255)])
def ENG_SEQWD_RSBWD : Fld := mk (0x4001300C) 8 8 .rw 100 (ok := [(1, 255)])
def ENG_SEQWD_RSAWD : Fld := mk (0x4001300C) 0 8 .rw 100 (ok := [(1, 255)])

/-! ENG_SVMARK, offset 0x010, owner ANY-RO, reset 0x0000_0000 (spec/12_engines_and_programs.md). -/
def ENG_SVMARK_COUNT : Fld := mk (0x40013010) 16 16 .ro 0
def ENG_SVMARK_MARK : Fld := mk (0x40013010) 0 6 .ro 0

/-! ENG_SEQCTLx, offset 0x020 + 4 × x, for x = 0 (RSA) and 1 (RSB), owner P0, reset 0x0000_0009 (spec/12_engines_and_programs.md). -/
def ENG_SEQCTLx_SRC (x : Nat) : Fld := mk (0x40013020 + 0x4 * x) 8 1 .rw 0
def ENG_SEQCTLx_BASIC (x : Nat) : Fld := mk (0x40013020 + 0x4 * x) 3 1 .rw 1
def ENG_SEQCTLx_SWAP (x : Nat) : Fld := mk (0x40013020 + 0x4 * x) 2 1 .wo 0
def ENG_SEQCTLx_LOAD (x : Nat) : Fld := mk (0x40013020 + 0x4 * x) 1 1 .wo 0
def ENG_SEQCTLx_EN (x : Nat) : Fld := mk (0x40013020 + 0x4 * x) 0 1 .rw 1

/-! ENG_SEQSTATx, offset 0x028 + 4 × x, for x = 0 (RSA) and 1 (RSB), owner ANY-RO, reset 0x0000_0020 (spec/12_engines_and_programs.md). -/
def ENG_SEQSTATx_SIGLOG (x : Nat) : Fld := mk (0x40013028 + 0x4 * x) 8 8 .rc 0
def ENG_SEQSTATx_BASICACT (x : Nat) : Fld := mk (0x40013028 + 0x4 * x) 5 1 .ro 1
def ENG_SEQSTATx_FAULTED (x : Nat) : Fld := mk (0x40013028 + 0x4 * x) 4 1 .ro 0
def ENG_SEQSTATx_DOWNACC (x : Nat) : Fld := mk (0x40013028 + 0x4 * x) 3 1 .rc 0
def ENG_SEQSTATx_LOADREJ (x : Nat) : Fld := mk (0x40013028 + 0x4 * x) 2 1 .ro 0
def ENG_SEQSTATx_SWPEND (x : Nat) : Fld := mk (0x40013028 + 0x4 * x) 1 1 .ro 0
def ENG_SEQSTATx_BANK (x : Nat) : Fld := mk (0x40013028 + 0x4 * x) 0 1 .ro 0

/-! ENG_SFAULT, offset 0x030, owner ANY-RO, reset 0x0000_0000 (spec/12_engines_and_programs.md). -/
def ENG_SFAULT_COUNT : Fld := mk (0x40013030) 24 8 .ro 0
def ENG_SFAULT_FCAUSE : Fld := mk (0x40013030) 4 3 .ro 0
def ENG_SFAULT_ENGID : Fld := mk (0x40013030) 0 3 .ro 0

/-! ENG_SFADDR, offset 0x034, owner ANY-RO, reset 0x0000_0000 (spec/12_engines_and_programs.md). -/
def ENG_SFADDR_ADDR : Fld := mk (0x40013034) 0 32 .ro 0

/-! ENG_TXBIND, offset 0x040, owner ANY-RO, reset 0x0000_0000 (spec/12_engines_and_programs.md). -/
def ENG_TXBIND_BOUND : Fld := mk (0x40013040) 1 1 .ro 0
def ENG_TXBIND_FIXED : Fld := mk (0x40013040) 0 1 .ro 0

/-! ENG_TXLIM, offset 0x044, owner ANY-RO, reset 0x0000_0000 (spec/12_engines_and_programs.md). -/
def ENG_TXLIM_LIM : Fld := mk (0x40013044) 0 32 .ro 0

/-! ENG_COLCTL, offset 0x048, owner P0, reset 0x0000_0001 (spec/12_engines_and_programs.md). -/
def ENG_COLCTL_SLOT : Fld := mk (0x40013048) 4 1 .rw 0
def ENG_COLCTL_BASIC : Fld := mk (0x40013048) 0 1 .rw 1

/-! ENG_WDOGp, offset 0x100 + 4 × p, for p = 0–31, owner P0, reset 0x0000_0064 (spec/12_engines_and_programs.md). -/
def ENG_WDOGp_LIMIT (p : Nat) : Fld := mk (0x40013100 + 0x4 * p) 0 16 .rw 100

/-! ENG_IMG, offset 0x200, owner PART, reset 0x0000_0000 (spec/12_engines_and_programs.md). -/
def ENG_IMG_DUAL : Fld := mk (0x40013200) 24 3 .ro 0 (part := true)
def ENG_IMG_SWPEND : Fld := mk (0x40013200) 20 1 .ro 0 (part := true)
def ENG_IMG_ACTSLOT : Fld := mk (0x40013200) 16 1 .ro 0 (part := true)
def ENG_IMG_S1 : Fld := mk (0x40013200) 8 4 .ro 0 (part := true)
def ENG_IMG_S0 : Fld := mk (0x40013200) 0 4 .ro 0 (part := true)

/-! ENG_IMGVs, offset 0x204 + 4 × s, for s = 0–1, owner PART, reset 0x0000_0000 (spec/12_engines_and_programs.md). -/
def ENG_IMGVs_VERSION (s : Nat) : Fld := mk (0x40013204 + 0x4 * s) 0 32 .ro 0 (part := true)

/-! ENG_DUAL, offset 0x20C, owner PART, reset 0x0000_0000 (spec/12_engines_and_programs.md). -/
def ENG_DUAL_ENDLEFT : Fld := mk (0x4001320C) 16 16 .ro 0 (part := true)
def ENG_DUAL_CTX : Fld := mk (0x4001320C) 8 1 .ro 0 (part := true)
def ENG_DUAL_MBOXIMG : Fld := mk (0x4001320C) 0 1 .rw 0 (part := true)

/-! ENG_WDKICK, offset 0x210, owner PART, reset 0x0000_0000 (spec/12_engines_and_programs.md). -/
def ENG_WDKICK_KICK : Fld := mk (0x40013210) 0 32 .wo 0 (part := true)

/-! SEC_CTL, offset 0x000, owner P0, reset 0x0000_0000 (spec/13_cipher_and_keys.md). -/
def SEC_CTL_EN : Fld := mk (0x40014000) 0 1 .rw 0

/-! SEC_STAT, offset 0x004, owner ANY-RO, reset 0x0000_000F (spec/13_cipher_and_keys.md). -/
def SEC_STAT_SEEDED : Fld := mk (0x40014004) 10 1 .ro 0
def SEC_STAT_TRNGERR : Fld := mk (0x40014004) 9 1 .ro 0
def SEC_STAT_SVCREJ : Fld := mk (0x40014004) 8 1 .ro 0
def SEC_STAT_BUSY : Fld := mk (0x40014004) 4 4 .ro 0
def SEC_STAT_INSVC : Fld := mk (0x40014004) 0 4 .ro 15

/-! SEC_SVC, offset 0x008, owner P0, reset 0x0000_0000 (spec/13_cipher_and_keys.md). -/
def SEC_SVC_OUT : Fld := mk (0x40014008) 0 4 .rw 0

/-! SEC_RESEED, offset 0x00C, owner P0, reset 0x0001_0000 (spec/13_cipher_and_keys.md). -/
def SEC_RESEED_INTV : Fld := mk (0x4001400C) 0 21 .rw 65536 (ok := [(4096, 1048576)])

/-! SEC_TRNGSTAT, offset 0x010, owner ANY-RO, reset 0x0000_0000 (spec/13_cipher_and_keys.md). -/
def SEC_TRNGSTAT_RCTFAIL : Fld := mk (0x40014010) 16 16 .ro 0
def SEC_TRNGSTAT_APTFAIL : Fld := mk (0x40014010) 0 16 .ro 0

/-! SEC_BLKCNT, offset 0x014, owner ANY-RO, reset 0x0000_0000 (spec/13_cipher_and_keys.md). -/
def SEC_BLKCNT_COUNT : Fld := mk (0x40014014) 0 32 .ro 0

/-! SEC_PQUEUE, offset 0x200, owner PART, reset 0x0000_0000 (spec/13_cipher_and_keys.md). -/
def SEC_PQUEUE_WAIT : Fld := mk (0x40014200) 8 8 .ro 0 (part := true)
def SEC_PQUEUE_RUN : Fld := mk (0x40014200) 0 3 .ro 0 (part := true)

/-! SEC_PAUTH, offset 0x204, owner PART, reset 0x0000_0000 (spec/13_cipher_and_keys.md). -/
def SEC_PAUTH_STALE : Fld := mk (0x40014204) 16 16 .ro 0 (part := true)
def SEC_PAUTH_MIC : Fld := mk (0x40014204) 0 16 .ro 0 (part := true)

/-! KEY_CTL, offset 0x000, owner P0, reset 0x0000_0000 (spec/13_cipher_and_keys.md). -/
def KEY_CTL_FLUSH : Fld := mk (0x40015000) 1 1 .wo 0
def KEY_CTL_EN : Fld := mk (0x40015000) 0 1 .rw 0

/-! KEY_STAT, offset 0x004, owner ANY-RO, reset 0x03D0_0000 (spec/13_cipher_and_keys.md). -/
def KEY_STAT_RECFREE : Fld := mk (0x40015004) 16 10 .ro 976
def KEY_STAT_SLOTS : Fld := mk (0x40015004) 0 7 .ro 0

/-! KEY_TQUOTAp, offset 0x100 + 4 × p, for p = 0–31, owner P0, reset 0x0000_0000 (spec/13_cipher_and_keys.md). -/
def KEY_TQUOTAp_QUOTA (p : Nat) : Fld := mk (0x40015100 + 0x4 * p) 0 10 .rw 0

/-! KEY_ULIM, offset 0x200, owner PART, reset 0x1000_0000 (spec/13_cipher_and_keys.md). -/
def KEY_ULIM_LIMIT : Fld := mk (0x40015200) 0 29 .rw 0x10000000 (part := true) (ok := [(65536, 268435456)])

/-! KEY_PSTAT, offset 0x204, owner PART, reset 0x0000_0000 (spec/13_cipher_and_keys.md). -/
def KEY_PSTAT_RECHELD : Fld := mk (0x40015204) 16 10 .ro 0 (part := true)
def KEY_PSTAT_SLOTS : Fld := mk (0x40015204) 0 7 .ro 0 (part := true)

/-! KEY_LIMSTAT, offset 0x208, owner PART, reset 0x0000_0000 (spec/13_cipher_and_keys.md). -/
def KEY_LIMSTAT_NEAR : Fld := mk (0x40015208) 16 16 .ro 0 (part := true)
def KEY_LIMSTAT_ATLIM : Fld := mk (0x40015208) 0 16 .ro 0 (part := true)

/-! CRC_PPSTAT, offset 0x000, owner ANY-RO, reset 0x0000_0000 (spec/14_check_value_units.md). -/
def CRC_PPSTAT_FREE : Fld := mk (0x40016000) 16 4 .ro 0
def CRC_PPSTAT_BUSY : Fld := mk (0x40016000) 0 4 .ro 0

/-! CRC_GOWNL, offset 0x010, owner P0, reset 0x0000_0000 (spec/14_check_value_units.md). -/
def CRC_GOWNL_U3 : Fld := mk (0x40016010) 24 8 .ro 0
def CRC_GOWNL_U2 : Fld := mk (0x40016010) 16 8 .ro 0
def CRC_GOWNL_U1 : Fld := mk (0x40016010) 8 8 .ro 0
def CRC_GOWNL_U0 : Fld := mk (0x40016010) 0 8 .ro 0

/-! CRC_GOWNH, offset 0x014, owner P0, reset 0x0000_0000 (spec/14_check_value_units.md). -/
def CRC_GOWNH_UHI : Fld := mk (0x40016014) 0 32 .ro 0

/-! CRC_LCTLl, offset 0x200 + 0x40 × l, owner PART, reset 0x0000_0000 (spec/14_check_value_units.md). -/
def CRC_LCTLl_FINISH (l : Nat) : Fld := mk (0x40016200 + 0x40 * l) 2 1 .wo 0 (part := true)
def CRC_LCTLl_START (l : Nat) : Fld := mk (0x40016200 + 0x40 * l) 1 1 .wo 0 (part := true)
def CRC_LCTLl_HOLD (l : Nat) : Fld := mk (0x40016200 + 0x40 * l) 0 1 .rw 0 (part := true)

/-! CRC_LCFGl, offset 0x204 + 0x40 × l, owner PART, reset 0x0000_0000 (spec/14_check_value_units.md). -/
def CRC_LCFGl_ALVPOS (l : Nat) : Fld := mk (0x40016204 + 0x40 * l) 20 11 .rw 0 (part := true)
def CRC_LCFGl_ALVBIT (l : Nat) : Fld := mk (0x40016204 + 0x40 * l) 16 3 .rw 0 (part := true)
def CRC_LCFGl_AWM1 (l : Nat) : Fld := mk (0x40016204 + 0x40 * l) 12 3 .rw 0 (part := true)
def CRC_LCFGl_ALVEN (l : Nat) : Fld := mk (0x40016204 + 0x40 * l) 10 1 .rw 0 (part := true)
def CRC_LCFGl_CMPSRC (l : Nat) : Fld := mk (0x40016204 + 0x40 * l) 9 1 .rw 0 (part := true)
def CRC_LCFGl_CMPEN (l : Nat) : Fld := mk (0x40016204 + 0x40 * l) 8 1 .rw 0 (part := true)
def CRC_LCFGl_REFOUT (l : Nat) : Fld := mk (0x40016204 + 0x40 * l) 6 1 .rw 0 (part := true)
def CRC_LCFGl_REFIN (l : Nat) : Fld := mk (0x40016204 + 0x40 * l) 5 1 .rw 0 (part := true)
def CRC_LCFGl_WM1 (l : Nat) : Fld := mk (0x40016204 + 0x40 * l) 0 5 .rw 0 (part := true)

/-! CRC_LPOLYl, CRC_LINITl, CRC_LXORl and CRC_LEXPl, offsets 0x208, 0x20C, 0x210 and 0x214 + 0x40 × l, owner PART, reset 0x0000_0000 (spec/14_check_value_units.md). -/
def CRC_LPOLYl_VALUE (l : Nat) : Fld := mk (0x40016208 + 0x40 * l) 0 32 .rw 0 (part := true)

/-! CRC_LPOLYl, CRC_LINITl, CRC_LXORl and CRC_LEXPl, offsets 0x208, 0x20C, 0x210 and 0x214 + 0x40 × l, owner PART, reset 0x0000_0000 (spec/14_check_value_units.md). -/
def CRC_LINITl_VALUE (l : Nat) : Fld := mk (0x4001620C + 0x40 * l) 0 32 .rw 0 (part := true)

/-! CRC_LPOLYl, CRC_LINITl, CRC_LXORl and CRC_LEXPl, offsets 0x208, 0x20C, 0x210 and 0x214 + 0x40 × l, owner PART, reset 0x0000_0000 (spec/14_check_value_units.md). -/
def CRC_LXORl_VALUE (l : Nat) : Fld := mk (0x40016210 + 0x40 * l) 0 32 .rw 0 (part := true)

/-! CRC_LPOLYl, CRC_LINITl, CRC_LXORl and CRC_LEXPl, offsets 0x208, 0x20C, 0x210 and 0x214 + 0x40 × l, owner PART, reset 0x0000_0000 (spec/14_check_value_units.md). -/
def CRC_LEXPl_VALUE (l : Nat) : Fld := mk (0x40016214 + 0x40 * l) 0 32 .rw 0 (part := true)

/-! CRC_LDIN1l, CRC_LDIN2l and CRC_LDIN4l, offsets 0x218, 0x21C and 0x220 + 0x40 × l, owner PART, reset 0x0000_0000 (spec/14_check_value_units.md). -/
def CRC_LDIN1l_DATA (l : Nat) : Fld := mk (0x40016218 + 0x40 * l) 0 32 .wo 0 (part := true)

/-! CRC_LDIN1l, CRC_LDIN2l and CRC_LDIN4l, offsets 0x218, 0x21C and 0x220 + 0x40 × l, owner PART, reset 0x0000_0000 (spec/14_check_value_units.md). -/
def CRC_LDIN2l_DATA (l : Nat) : Fld := mk (0x4001621C + 0x40 * l) 0 32 .wo 0 (part := true)

/-! CRC_LDIN1l, CRC_LDIN2l and CRC_LDIN4l, offsets 0x218, 0x21C and 0x220 + 0x40 × l, owner PART, reset 0x0000_0000 (spec/14_check_value_units.md). -/
def CRC_LDIN4l_DATA (l : Nat) : Fld := mk (0x40016220 + 0x40 * l) 0 32 .wo 0 (part := true)

/-! CRC_LRUNl, offset 0x224 + 0x40 × l, owner PART, reset 0x0000_0000 (spec/14_check_value_units.md). -/
def CRC_LRUNl_REG (l : Nat) : Fld := mk (0x40016224 + 0x40 * l) 0 32 .rw 0 (part := true)

/-! CRC_LPOSl, offset 0x228 + 0x40 × l, owner PART, reset 0x0000_0000 (spec/14_check_value_units.md). -/
def CRC_LPOSl_POS (l : Nat) : Fld := mk (0x40016228 + 0x40 * l) 0 16 .rw 0 (part := true)

/-! CRC_LRESl, offset 0x22C + 0x40 × l, owner PART, reset 0x0000_0000 (spec/14_check_value_units.md). -/
def CRC_LRESl_RES (l : Nat) : Fld := mk (0x4001622C + 0x40 * l) 0 32 .ro 0 (part := true)

/-! CRC_LALVl, offset 0x230 + 0x40 × l, owner PART, reset 0x0000_0000 (spec/14_check_value_units.md). -/
def CRC_LALVl_CAPV (l : Nat) : Fld := mk (0x40016230 + 0x40 * l) 17 1 .rw 0 (part := true)
def CRC_LALVl_VALID (l : Nat) : Fld := mk (0x40016230 + 0x40 * l) 16 1 .rw 0 (part := true)
def CRC_LALVl_CAPT (l : Nat) : Fld := mk (0x40016230 + 0x40 * l) 8 8 .rw 0 (part := true)
def CRC_LALVl_LAST (l : Nat) : Fld := mk (0x40016230 + 0x40 * l) 0 8 .rw 0 (part := true)

/-! CRC_LSTATl, offset 0x234 + 0x40 × l, owner PART, reset 0x0000_0000 (spec/14_check_value_units.md). -/
def CRC_LSTATl_ALVRES (l : Nat) : Fld := mk (0x40016234 + 0x40 * l) 14 2 .ro 0 (part := true)
def CRC_LSTATl_CMPRES (l : Nat) : Fld := mk (0x40016234 + 0x40 * l) 12 2 .ro 0 (part := true)
def CRC_LSTATl_LOANREJ (l : Nat) : Fld := mk (0x40016234 + 0x40 * l) 5 1 .ro 0 (part := true)
def CRC_LSTATl_CFGREJ (l : Nat) : Fld := mk (0x40016234 + 0x40 * l) 4 1 .ro 0 (part := true)
def CRC_LSTATl_WREJ (l : Nat) : Fld := mk (0x40016234 + 0x40 * l) 3 1 .ro 0 (part := true)
def CRC_LSTATl_OPBUSY (l : Nat) : Fld := mk (0x40016234 + 0x40 * l) 2 1 .ro 0 (part := true)
def CRC_LSTATl_OPEN (l : Nat) : Fld := mk (0x40016234 + 0x40 * l) 1 1 .ro 0 (part := true)
def CRC_LSTATl_HELD (l : Nat) : Fld := mk (0x40016234 + 0x40 * l) 0 1 .ro 0 (part := true)

/-! CRC_LTRAILl, offset 0x238 + 0x40 × l, owner PART, reset 0x0000_0000 (spec/14_check_value_units.md). -/
def CRC_LTRAILl_HELDBACK (l : Nat) : Fld := mk (0x40016238 + 0x40 * l) 0 32 .rw 0 (part := true)

/-! HIF_CTL, offset 0x000, owner P0, reset 0x0000_0003 (spec/15_host_messages_and_spi.md). -/
def HIF_CTL_P0PORT : Fld := mk (0x40017000) 8 1 .rw 0
def HIF_CTL_CLRCNT : Fld := mk (0x40017000) 2 1 .wo 0
def HIF_CTL_ERRNOTE : Fld := mk (0x40017000) 1 1 .rw 1
def HIF_CTL_SPIEN : Fld := mk (0x40017000) 0 1 .rw 1

/-! HIF_STAT, offset 0x004, owner ANY-RO, reset 0x0000_0000 (spec/15_host_messages_and_spi.md). -/
def HIF_STAT_INPART : Fld := mk (0x40017004) 11 5 .ro 0
def HIF_STAT_INFLIGHT : Fld := mk (0x40017004) 10 1 .ro 0
def HIF_STAT_SENT : Fld := mk (0x40017004) 9 1 .ro 0
def HIF_STAT_SPILIM : Fld := mk (0x40017004) 8 1 .ro 0
def HIF_STAT_CSN : Fld := mk (0x40017004) 0 1 .ro 0

/-! HIF_ERRCNT, offset 0x008, owner P0, reset 0x0000_0000 (spec/15_host_messages_and_spi.md). -/
def HIF_ERRCNT_PARTIAL : Fld := mk (0x40017008) 24 8 .ro 0
def HIF_ERRCNT_CRCERR : Fld := mk (0x40017008) 16 8 .ro 0
def HIF_ERRCNT_HDRERR : Fld := mk (0x40017008) 8 8 .ro 0
def HIF_ERRCNT_NOPART : Fld := mk (0x40017008) 0 8 .ro 0

/-! HIF_ERRSTAT, offset 0x00C, owner P0, reset 0x0000_0000 (spec/15_host_messages_and_spi.md). -/
def HIF_ERRSTAT_PNUM : Fld := mk (0x4001700C) 8 5 .ro 0
def HIF_ERRSTAT_PORT : Fld := mk (0x4001700C) 4 1 .ro 0
def HIF_ERRSTAT_KIND : Fld := mk (0x4001700C) 0 4 .ro 0

/-! HIF_XCNT, offset 0x010, owner P0, reset 0x0000_0000 (spec/15_host_messages_and_spi.md). -/
def HIF_XCNT_BUSRST : Fld := mk (0x40017010) 24 8 .ro 0
def HIF_XCNT_ACKERR : Fld := mk (0x40017010) 16 8 .ro 0
def HIF_XCNT_EXCESS : Fld := mk (0x40017010) 0 16 .ro 0

/-! HIF_PALIVE, offset 0x200, owner PART, reset 0x00FF_00FF (spec/15_host_messages_and_spi.md). -/
def HIF_PALIVE_INLAST : Fld := mk (0x40017200) 16 8 .ro 255 (part := true)
def HIF_PALIVE_OUTNEXT : Fld := mk (0x40017200) 8 8 .ro 0 (part := true)
def HIF_PALIVE_OUTRET : Fld := mk (0x40017200) 0 8 .ro 255 (part := true)

/-! HIF_PMBOX, offset 0x204, owner PART, reset 0x0000_0000 (spec/15_host_messages_and_spi.md). -/
def HIF_PMBOX_OUTMSG : Fld := mk (0x40017204) 24 5 .ro 0 (part := true)
def HIF_PMBOX_INMSG : Fld := mk (0x40017204) 16 3 .ro 0 (part := true)
def HIF_PMBOX_OUTOCT : Fld := mk (0x40017204) 0 13 .ro 0 (part := true)

/-! HIF_PSEQ, offset 0x208, owner PART, reset 0x0000_0000 (spec/15_host_messages_and_spi.md). -/
def HIF_PSEQ_REPEATS : Fld := mk (0x40017208) 16 16 .ro 0 (part := true)
def HIF_PSEQ_SEQERR : Fld := mk (0x40017208) 0 16 .ro 0 (part := true)

/-! UART_CTL, offset 0x000, owner P0, reset 0x0000_0021 (spec/16_uart.md). -/
def UART_CTL_TPART : Fld := mk (0x40018000) 8 5 .rw 0
def UART_CTL_WAKEEN : Fld := mk (0x40018000) 5 1 .rw 1
def UART_CTL_DEEN : Fld := mk (0x40018000) 3 1 .rw 0
def UART_CTL_HDX : Fld := mk (0x40018000) 2 1 .rw 0
def UART_CTL_MODE : Fld := mk (0x40018000) 1 1 .rw 0
def UART_CTL_EN : Fld := mk (0x40018000) 0 1 .rw 1

/-! UART_FMT, offset 0x004, owner P0, reset 0x0000_0030 (spec/16_uart.md). -/
def UART_FMT_STOP : Fld := mk (0x40018004) 12 2 .rw 0 (ok := [(0, 2)])
def UART_FMT_PAR : Fld := mk (0x40018004) 8 3 .rw 0 (ok := [(0, 4)])
def UART_FMT_DBITS : Fld := mk (0x40018004) 4 3 .rw 3 (ok := [(0, 4)])
def UART_FMT_OS : Fld := mk (0x40018004) 0 1 .rw 0

/-! UART_DIV, offset 0x008, owner P0, reset 0x0009_022B (spec/16_uart.md). -/
def UART_DIV_FRAC : Fld := mk (0x40018008) 16 4 .rw 9
def UART_DIV_INT : Fld := mk (0x40018008) 0 16 .rw 555

/-! UART_SHDIV, offset 0x00C, owner P0, reset 0x000C_0115 (spec/16_uart.md). -/
def UART_SHDIV_FRAC : Fld := mk (0x4001800C) 16 4 .rw 12
def UART_SHDIV_INT : Fld := mk (0x4001800C) 0 16 .rw 277

/-! UART_DE, offset 0x010, owner P0, reset 0x0000_0000 (spec/16_uart.md). -/
def UART_DE_TAIL : Fld := mk (0x40018010) 16 9 .rw 0 (ok := [(0, 496)])
def UART_DE_LEAD : Fld := mk (0x40018010) 0 9 .rw 0 (ok := [(0, 496)])

/-! UART_MSGCFG, offset 0x014, owner P0, reset 0x0000_0014 (spec/16_uart.md). -/
def UART_MSGCFG_ACKTO : Fld := mk (0x40018014) 0 8 .rw 20

/-! UART_STAT, offset 0x018, owner ANY-RO, reset 0x0000_0000 (spec/16_uart.md). -/
def UART_STAT_INFRAME : Fld := mk (0x40018018) 5 1 .ro 0
def UART_STAT_WAKELOST : Fld := mk (0x40018018) 4 1 .ro 0
def UART_STAT_DIVREJ : Fld := mk (0x40018018) 3 1 .ro 0
def UART_STAT_SHADOW : Fld := mk (0x40018018) 2 1 .ro 0
def UART_STAT_DEACT : Fld := mk (0x40018018) 1 1 .ro 0
def UART_STAT_TXBUSY : Fld := mk (0x40018018) 0 1 .ro 0

/-! UART_ERRCNT, offset 0x01C, owner P0, reset 0x0000_0000 (spec/16_uart.md). -/
def UART_ERRCNT_BREAK : Fld := mk (0x4001801C) 24 8 .ro 0
def UART_ERRCNT_OVERRUN : Fld := mk (0x4001801C) 16 8 .ro 0
def UART_ERRCNT_PARITY : Fld := mk (0x4001801C) 8 8 .ro 0
def UART_ERRCNT_FRAME : Fld := mk (0x4001801C) 0 8 .ro 0

/-! UART_TSTAT, offset 0x200, owner PART, reset 0x0020_0010 (spec/16_uart.md). -/
def UART_TSTAT_TXFREE : Fld := mk (0x40018200) 16 6 .ro 32 (part := true)
def UART_TSTAT_RXCNT : Fld := mk (0x40018200) 8 6 .ro 0 (part := true)
def UART_TSTAT_TXOV : Fld := mk (0x40018200) 5 1 .ro 0 (part := true)
def UART_TSTAT_IDLE : Fld := mk (0x40018200) 4 1 .ro 1 (part := true)
def UART_TSTAT_BRK : Fld := mk (0x40018200) 3 1 .ro 0 (part := true)
def UART_TSTAT_OE : Fld := mk (0x40018200) 2 1 .ro 0 (part := true)
def UART_TSTAT_PE : Fld := mk (0x40018200) 1 1 .ro 0 (part := true)
def UART_TSTAT_FE : Fld := mk (0x40018200) 0 1 .ro 0 (part := true)

/-! UART_TDATA, offset 0x204, owner PART, reset 0x0000_0000 (spec/16_uart.md). -/
def UART_TDATA_VALID : Fld := mk (0x40018204) 31 1 .ro 0 (part := true)
def UART_TDATA_CFE : Fld := mk (0x40018204) 10 1 .ro 0 (part := true)
def UART_TDATA_CPE : Fld := mk (0x40018204) 9 1 .ro 0 (part := true)
def UART_TDATA_DATA : Fld := mk (0x40018204) 0 9 .rw 0 (part := true)

/-! PWR_MODE, offset 0x000, owner ANY-RO, reset 0x0000_0000 (spec/17_operating_modes.md). -/
def PWR_MODE_TARGET : Fld := mk (0x40001000) 12 4 .ro 0
def PWR_MODE_BASE : Fld := mk (0x40001000) 8 4 .ro 0
def PWR_MODE_ENTERING : Fld := mk (0x40001000) 4 1 .ro 0
def PWR_MODE_MODE : Fld := mk (0x40001000) 0 4 .ro 0

/-! PWR_REQ, offset 0x004, owner P0, reset 0x0000_0000 (spec/17_operating_modes.md). -/
def PWR_REQ_MODE : Fld := mk (0x40001004) 0 4 .wo 0

/-! PWR_REQPAR, offset 0x008, owner P0, reset 0x0000_0000 (spec/17_operating_modes.md). -/
def PWR_REQPAR_PARAM : Fld := mk (0x40001008) 0 32 .rw 0

/-! PWR_REQSTAT, offset 0x00C, owner P0, reset 0x0000_0000 (spec/17_operating_modes.md). -/
def PWR_REQSTAT_CODE : Fld := mk (0x4000100C) 8 8 .ro 0
def PWR_REQSTAT_MODE : Fld := mk (0x4000100C) 4 4 .ro 0
def PWR_REQSTAT_BUSY : Fld := mk (0x4000100C) 0 1 .ro 0

/-! PWR_CTL, offset 0x010, owner P0, reset 0x0000_3201 (spec/17_operating_modes.md). -/
def PWR_CTL_RETWAIT : Fld := mk (0x40001010) 8 8 .rw 50
def PWR_CTL_AUTOIDLE : Fld := mk (0x40001010) 0 1 .rw 1

/-! PWR_WAKEEN, offset 0x014, owner P0, reset 0x0000_0003 (spec/17_operating_modes.md). -/
def PWR_WAKEEN_TIMER : Fld := mk (0x40001014) 1 1 .rw 1
def PWR_WAKEEN_CMP : Fld := mk (0x40001014) 0 1 .rw 1

/-! PWR_WAKESRC, offset 0x018, owner ANY-RO, reset 0x0000_0000 (spec/17_operating_modes.md). -/
def PWR_WAKESRC_FROM : Fld := mk (0x40001018) 28 4 .ro 0
def PWR_WAKESRC_FIRST : Fld := mk (0x40001018) 24 4 .ro 0
def PWR_WAKESRC_LVLENT : Fld := mk (0x40001018) 8 1 .ro 0
def PWR_WAKESRC_SRC : Fld := mk (0x40001018) 0 8 .ro 0

/-! PWR_WAKET, offset 0x01C, owner ANY-RO, reset 0x0000_0000 (spec/17_operating_modes.md). -/
def PWR_WAKET_TICK : Fld := mk (0x4000101C) 0 32 .ro 0

/-! PWR_CMPCFG, offset 0x020, owner P0, reset 0x0A00_0000 (spec/17_operating_modes.md). -/
def PWR_CMPCFG_AUTODLY : Fld := mk (0x40001020) 24 8 .rw 10 (ok := [(1, 255)])
def PWR_CMPCFG_AUTOCOL : Fld := mk (0x40001020) 16 1 .rw 0
def PWR_CMPCFG_MODE : Fld := mk (0x40001020) 8 3 .rw 0 (ok := [(0, 5)])
def PWR_CMPCFG_HYST : Fld := mk (0x40001020) 4 2 .rw 0
def PWR_CMPCFG_THR : Fld := mk (0x40001020) 0 4 .rw 0

/-! PWR_CMPSTAT, offset 0x024, owner ANY-RO, reset 0x0000_0000 (spec/17_operating_modes.md). -/
def PWR_CMPSTAT_LOWSEC : Fld := mk (0x40001024) 16 16 .ro 0
def PWR_CMPSTAT_CROSS : Fld := mk (0x40001024) 1 1 .rc 0
def PWR_CMPSTAT_OUT : Fld := mk (0x40001024) 0 1 .ro 0

/-! PWR_PADREL, offset 0x200, owner PART, reset 0x0000_0000 (spec/17_operating_modes.md). -/
def PWR_PADREL_HELD : Fld := mk (0x40001200) 8 1 .ro 0 (part := true)
def PWR_PADREL_REL : Fld := mk (0x40001200) 0 1 .wo 0 (part := true)

/-! PWR_TMRWAKE, offset 0x204, owner PART, reset 0x0000_0000 (spec/17_operating_modes.md). -/
def PWR_TMRWAKE_TMR : Fld := mk (0x40001204) 0 4 .rw 0 (part := true)

/-! COL_CTL, offset 0x000, owner P0, reset 0x0000_0000 (spec/17_operating_modes.md). -/
def COL_CTL_RATE : Fld := mk (0x4000F000) 4 1 .rw 0
def COL_CTL_WIDTH : Fld := mk (0x4000F000) 3 1 .rw 0
def COL_CTL_EN : Fld := mk (0x4000F000) 0 1 .rw 0

/-! COL_FREQ, offset 0x004, owner P0, reset 0x0000_0000 (spec/17_operating_modes.md). -/
def COL_FREQ_FREQ : Fld := mk (0x4000F004) 0 29 .rw 0

/-! COL_SYNC, offset 0x008, owner P0, reset 0x0000_0000 (spec/17_operating_modes.md). -/
def COL_SYNC_SYNC : Fld := mk (0x4000F008) 0 32 .rw 0

/-! COL_SNIFF, offset 0x00C, owner P0, reset 0x0F00_0028 (spec/17_operating_modes.md). -/
def COL_SNIFF_SWIN : Fld := mk (0x4000F00C) 24 8 .rw 15 (ok := [(5, 255)])
def COL_SNIFF_SPER : Fld := mk (0x4000F00C) 0 16 .rw 40 (ok := [(10, 10000)])

/-! COL_RXCFG, offset 0x010, owner P0, reset 0x003C_0076 (spec/17_operating_modes.md). -/
def COL_RXCFG_EXT : Fld := mk (0x4000F010) 16 8 .rw 60 (ok := [(10, 255)])
def COL_RXCFG_ETHR : Fld := mk (0x4000F010) 0 7 .rw 118 (ok := [(90, 127)])

/-! COL_TX, offset 0x014, owner P0, reset 0x0001_0002 (spec/17_operating_modes.md). -/
def COL_TX_BDIV : Fld := mk (0x4000F014) 16 8 .rw 1
def COL_TX_TXPROF : Fld := mk (0x4000F014) 0 4 .rw 2

/-! COL_PARTS, offset 0x018, owner P0, reset 0x0000_0000 (spec/17_operating_modes.md). -/
def COL_PARTS_PARTS : Fld := mk (0x4000F018) 0 32 .rw 0

/-! COL_WAKECRIT, offset 0x01C, owner P0, reset 0x0000_2016 (spec/17_operating_modes.md). -/
def COL_WAKECRIT_AGEMAX : Fld := mk (0x4000F01C) 16 16 .rw 0
def COL_WAKECRIT_NFULL : Fld := mk (0x4000F01C) 8 8 .rw 32 (ok := [(1, 32)])
def COL_WAKECRIT_PROG : Fld := mk (0x4000F01C) 4 1 .rw 1
def COL_WAKECRIT_PART : Fld := mk (0x4000F01C) 3 1 .rw 0
def COL_WAKECRIT_FULL : Fld := mk (0x4000F01C) 2 1 .rw 1
def COL_WAKECRIT_LS : Fld := mk (0x4000F01C) 1 1 .rw 1
def COL_WAKECRIT_ANY : Fld := mk (0x4000F01C) 0 1 .rw 0

/-! COL_WAKEPART, offset 0x020, owner P0, reset 0x0000_0000 (spec/17_operating_modes.md). -/
def COL_WAKEPART_PARTS : Fld := mk (0x4000F020) 0 32 .rw 0

/-! COL_STAT, offset 0x024, owner ANY-RO, reset 0x0000_0000 (spec/17_operating_modes.md). -/
def COL_STAT_OCTETS : Fld := mk (0x4000F024) 16 16 .ro 0
def COL_STAT_FRAMES : Fld := mk (0x4000F024) 4 6 .ro 0
def COL_STAT_ENERGY : Fld := mk (0x4000F024) 3 1 .ro 0
def COL_STAT_RXON : Fld := mk (0x4000F024) 2 1 .ro 0
def COL_STAT_TXON : Fld := mk (0x4000F024) 1 1 .ro 0
def COL_STAT_ACTIVE : Fld := mk (0x4000F024) 0 1 .ro 0

/-! COL_CNTA, offset 0x028, owner ANY-RO, reset 0x0000_0000 (spec/17_operating_modes.md). -/
def COL_CNTA_STORED : Fld := mk (0x4000F028) 16 16 .ro 0
def COL_CNTA_SNIFFHIT : Fld := mk (0x4000F028) 0 16 .ro 0

/-! COL_CNTB, offset 0x02C, owner ANY-RO, reset 0x0000_0000 (spec/17_operating_modes.md). -/
def COL_CNTB_DROPFULL : Fld := mk (0x4000F02C) 16 16 .ro 0
def COL_CNTB_REJECT : Fld := mk (0x4000F02C) 0 16 .ro 0

/-! COL_AIRUSE, offset 0x030, owner ANY-RO, reset 0x0000_0000 (spec/17_operating_modes.md). -/
def COL_AIRUSE_TICKS : Fld := mk (0x4000F030) 0 32 .ro 0

/-! COL_CETMR, offset 0x034, owner P0, reset 0x0000_0000 (spec/17_operating_modes.md). -/
def COL_CETMR_TICK : Fld := mk (0x4000F034) 0 32 .rw 0

/-! COL_SIGLOG, offset 0x038, owner ANY-RO, reset 0x0000_0000 (spec/17_operating_modes.md). -/
def COL_SIGLOG_LOG : Fld := mk (0x4000F038) 0 14 .rc 0

/-! RET_DOMSTAT, offset 0x000, owner ANY-RO, reset 0x0000_0B03 (spec/18_domains_voltage_retention.md). -/
def RET_DOMSTAT_BUSY : Fld := mk (0x4001E000) 16 16 .ro 0
def RET_DOMSTAT_ON : Fld := mk (0x4001E000) 0 16 .ro 2819

/-! RET_DOMAUTO, offset 0x004, owner P0, reset 0x0000_82FC (spec/18_domains_voltage_retention.md). -/
def RET_DOMAUTO_SPARE : Fld := mk (0x4001E004) 15 1 .rw 1
def RET_DOMAUTO_NVM : Fld := mk (0x4001E004) 9 1 .rw 1
def RET_DOMAUTO_SEC : Fld := mk (0x4001E004) 7 1 .rw 1
def RET_DOMAUTO_TRL : Fld := mk (0x4001E004) 6 1 .rw 1
def RET_DOMAUTO_CHB : Fld := mk (0x4001E004) 5 1 .rw 1
def RET_DOMAUTO_TXD : Fld := mk (0x4001E004) 4 1 .rw 1
def RET_DOMAUTO_RFB : Fld := mk (0x4001E004) 3 1 .rw 1
def RET_DOMAUTO_RFA : Fld := mk (0x4001E004) 2 1 .rw 1

/-! RET_IDLET, offset 0x008, owner P0, reset 0x0000_03E8 (spec/18_domains_voltage_retention.md). -/
def RET_IDLET_IDLE : Fld := mk (0x4001E008) 0 16 .rw 1000 (ok := [(100, 65535)])

/-! RET_PDSTAT, offset 0x00C, owner ANY-RO, reset 0x0000_0000 (spec/18_domains_voltage_retention.md). -/
def RET_PDSTAT_ABANDON : Fld := mk (0x4001E00C) 16 16 .ro 0
def RET_PDSTAT_FORCED : Fld := mk (0x4001E00C) 8 8 .ro 0
def RET_PDSTAT_LASTDOM : Fld := mk (0x4001E00C) 0 4 .ro 0

/-! RET_VCORE, offset 0x010, owner ANY-RO, reset 0x03B6_03B6 (spec/18_domains_voltage_retention.md). -/
def RET_VCORE_SLEW : Fld := mk (0x4001E010) 31 1 .ro 0
def RET_VCORE_TARGET : Fld := mk (0x4001E010) 16 11 .ro 950
def RET_VCORE_PRESENT : Fld := mk (0x4001E010) 0 11 .ro 950

/-! RET_BIAS, offset 0x014, owner ANY-RO, reset 0x0000_0000 (spec/18_domains_voltage_retention.md). -/
def RET_BIAS_ASSIST : Fld := mk (0x4001E014) 8 1 .ro 0
def RET_BIAS_CHANGING : Fld := mk (0x4001E014) 4 1 .ro 0
def RET_BIAS_RBB : Fld := mk (0x4001E014) 0 4 .ro 0

/-! RET_IMG, offset 0x018, owner ANY-RO, reset 0x0770_0000 (spec/18_domains_voltage_retention.md). -/
def RET_IMG_WORDS : Fld := mk (0x4001E018) 16 11 .ro 1904
def RET_IMG_CHKERR : Fld := mk (0x4001E018) 8 8 .ro 0
def RET_IMG_SRC : Fld := mk (0x4001E018) 1 1 .ro 0
def RET_IMG_VALID : Fld := mk (0x4001E018) 0 1 .ro 0

/-! RET_SAVET, offset 0x01C, owner ANY-RO, reset 0x0000_0000 (spec/18_domains_voltage_retention.md). -/
def RET_SAVET_RESTORE : Fld := mk (0x4001E01C) 16 16 .ro 0
def RET_SAVET_SAVE : Fld := mk (0x4001E01C) 0 16 .ro 0

/-! RET_ODSTAT, offset 0x020, owner ANY-RO, reset 0x0000_0000 (spec/18_domains_voltage_retention.md). -/
def RET_ODSTAT_COUNT : Fld := mk (0x4001E020) 16 16 .ro 0
def RET_ODSTAT_MAXSTALL : Fld := mk (0x4001E020) 4 12 .ro 0
def RET_ODSTAT_LASTDOM : Fld := mk (0x4001E020) 0 4 .ro 0

/-! RET_FPD, offset 0x024, owner ANY-RO, reset 0x0000_0000 (spec/18_domains_voltage_retention.md). -/
def RET_FPD_TICK : Fld := mk (0x4001E024) 0 32 .ro 0

/-! CAL_CTL, offset 0x000, owner P0, reset 0x0000_0001 (spec/19_calibration_and_nvm.md). -/
def CAL_CTL_SAVE : Fld := mk (0x4001A000) 1 1 .wo 0
def CAL_CTL_EN : Fld := mk (0x4001A000) 0 1 .rw 1

/-! CAL_STAT, offset 0x004, owner ANY-RO, reset 0x0000_0000 (spec/19_calibration_and_nvm.md). -/
def CAL_STAT_FORCED : Fld := mk (0x4001A004) 16 16 .ro 0
def CAL_STAT_STEP : Fld := mk (0x4001A004) 8 8 .ro 0
def CAL_STAT_XOFBREJ : Fld := mk (0x4001A004) 7 1 .ro 0
def CAL_STAT_RECERR : Fld := mk (0x4001A004) 6 1 .ro 0
def CAL_STAT_RECCOPY : Fld := mk (0x4001A004) 5 1 .ro 0
def CAL_STAT_NOREC : Fld := mk (0x4001A004) 4 1 .ro 0
def CAL_STAT_RUN : Fld := mk (0x4001A004) 3 1 .ro 0
def CAL_STAT_ITEM : Fld := mk (0x4001A004) 0 2 .ro 0

/-! CAL_TEMP, offset 0x008, owner ANY-RO, reset 0x0000_0000 (spec/19_calibration_and_nvm.md). -/
def CAL_TEMP_TJ : Fld := mk (0x4001A008) 0 16 .ro 0

/-! CAL_TRIG_DELTA, offset 0x00C, owner P0, reset 0x0002_94A5 (spec/19_calibration_and_nvm.md). -/
def CAL_TRIG_DELTA_D3 : Fld := mk (0x4001A00C) 15 5 .rw 5 (ok := [(1, 30)])
def CAL_TRIG_DELTA_D2 : Fld := mk (0x4001A00C) 10 5 .rw 5 (ok := [(1, 30)])
def CAL_TRIG_DELTA_D1 : Fld := mk (0x4001A00C) 5 5 .rw 5 (ok := [(1, 30)])
def CAL_TRIG_DELTA_D0 : Fld := mk (0x4001A00C) 0 5 .rw 5 (ok := [(1, 30)])

/-! CAL_DEFER, offset 0x010, owner P0, reset 0x0000_000A (spec/19_calibration_and_nvm.md). -/
def CAL_DEFER_MAXDEFER : Fld := mk (0x4001A010) 0 6 .rw 10 (ok := [(1, 60)])

/-! CAL_XOC0, offset 0x014, owner P0, reset 0x0000_0000 (spec/19_calibration_and_nvm.md). -/
def CAL_XOC0_C0 : Fld := mk (0x4001A014) 0 32 .rw 0

/-! CAL_XOC1, offset 0x018, owner P0, reset 0x0000_0000 (spec/19_calibration_and_nvm.md). -/
def CAL_XOC1_C2 : Fld := mk (0x4001A018) 16 16 .rw 0
def CAL_XOC1_C1 : Fld := mk (0x4001A018) 0 16 .rw 0

/-! CAL_XOGAIN, offset 0x01C, owner P0, reset 0x0140_0FA0 (spec/19_calibration_and_nvm.md). -/
def CAL_XOGAIN_GF : Fld := mk (0x4001A01C) 16 16 .rw 320
def CAL_XOGAIN_GC : Fld := mk (0x4001A01C) 0 16 .rw 4000

/-! CAL_XOFB, offset 0x020, owner P0, reset 0x0000_0000 (spec/19_calibration_and_nvm.md). -/
def CAL_XOFB_ERR : Fld := mk (0x4001A020) 0 16 .wo 0

/-! CAL_TSENS, offset 0x024, owner P0, reset 0x0000_0000 (spec/19_calibration_and_nvm.md). -/
def CAL_TSENS_TSSLOPE : Fld := mk (0x4001A024) 16 16 .rw 0
def CAL_TSENS_TSOFS : Fld := mk (0x4001A024) 0 16 .rw 0

/-! CAL_PA, offset 0x028, owner P0, reset 0x0000_0000 (spec/19_calibration_and_nvm.md). -/
def CAL_PA_TPA : Fld := mk (0x4001A028) 16 16 .rw 0
def CAL_PA_PASLOPE : Fld := mk (0x4001A028) 0 16 .rw 0

/-! CAL_ITEMn, offset 0x040 + 4 × n, for n = 0–3, owner P0, reset 0x8000_0000 (spec/19_calibration_and_nvm.md). -/
def CAL_ITEMn_AUTO (n : Nat) : Fld := mk (0x4001A040 + 0x4 * n) 31 1 .rw 1
def CAL_ITEMn_RUN (n : Nat) : Fld := mk (0x4001A040 + 0x4 * n) 30 1 .wo 0
def CAL_ITEMn_PEND (n : Nat) : Fld := mk (0x4001A040 + 0x4 * n) 29 1 .ro 0
def CAL_ITEMn_DEFER (n : Nat) : Fld := mk (0x4001A040 + 0x4 * n) 28 1 .ro 0
def CAL_ITEMn_LASTT (n : Nat) : Fld := mk (0x4001A040 + 0x4 * n) 0 16 .ro 0

/-! NVC_STAT, offset 0x000, owner ANY-RO, reset 0x0000_0000 (spec/19_calibration_and_nvm.md). -/
def NVC_STAT_SECCNT : Fld := mk (0x4001B000) 16 16 .ro 0
def NVC_STAT_DEDCNT : Fld := mk (0x4001B000) 8 8 .ro 0
def NVC_STAT_REFR : Fld := mk (0x4001B000) 1 1 .ro 0
def NVC_STAT_WRBUSY : Fld := mk (0x4001B000) 0 1 .ro 0

/-! NVC_REFR, offset 0x004, owner P0, reset 0x0000_0007 (spec/19_calibration_and_nvm.md). -/
def NVC_REFR_DAYS : Fld := mk (0x4001B004) 0 5 .rw 7 (ok := [(1, 30)])

/-! NVC_CKCFG, offset 0x008, owner P0, reset 0x0000_003C (spec/19_calibration_and_nvm.md). -/
def NVC_CKCFG_CKPER : Fld := mk (0x4001B008) 0 11 .rw 60 (ok := [(1, 1440)])

/-! NVC_CKSTAT, offset 0x00C, owner ANY-RO, reset 0x0000_0000 (spec/19_calibration_and_nvm.md). -/
def NVC_CKSTAT_VOLATILE : Fld := mk (0x4001B00C) 16 11 .ro 0
def NVC_CKSTAT_USED : Fld := mk (0x4001B00C) 0 11 .ro 0

/-! NVC_LOGHEAD, offset 0x010, owner P0, reset 0x0000_0000 (spec/19_calibration_and_nvm.md). -/
def NVC_LOGHEAD_SEQ : Fld := mk (0x4001B010) 0 32 .ro 0

/-! NVC_LOGIDX, offset 0x014, owner P0, reset 0x0000_0000 (spec/19_calibration_and_nvm.md). -/
def NVC_LOGIDX_SEQ : Fld := mk (0x4001B014) 0 32 .rw 0

/-! NVC_LOGSTAT, offset 0x018, owner P0, reset 0x0000_0000 (spec/19_calibration_and_nvm.md). -/
def NVC_LOGSTAT_NOTYET : Fld := mk (0x4001B018) 1 1 .ro 0
def NVC_LOGSTAT_GONE : Fld := mk (0x4001B018) 0 1 .ro 0

/-! NVC_LOGDATAw, offset 0x040 + 4 × w, for w = 0–7, owner P0, reset 0x0000_0000 (spec/19_calibration_and_nvm.md). -/
def NVC_LOGDATAw_DATA (w : Nat) : Fld := mk (0x4001B040 + 0x4 * w) 0 32 .ro 0

/-! NVC_CKQp, offset 0x100 + 4 × p, for p = 0–31, owner P0, reset 0x0000_0600 (spec/19_calibration_and_nvm.md). -/
def NVC_CKQp_QUOTA (p : Nat) : Fld := mk (0x4001B100 + 0x4 * p) 0 11 .rw 1536 (ok := [(0, 1536)])

/-! NVC_CKPSTAT, offset 0x200, owner PART, reset 0x0000_0000 (spec/19_calibration_and_nvm.md). -/
def NVC_CKPSTAT_VOLATILE : Fld := mk (0x4001B200) 16 14 .ro 0 (part := true)
def NVC_CKPSTAT_HELD : Fld := mk (0x4001B200) 0 11 .ro 0 (part := true)

/-! TMP_LCSTAT, offset 0x000, owner ANY-RO, reset 0x0000_0000 (spec/20_security_boot_tamper.md). -/
def TMP_LCSTAT_LDCAUSE : Fld := mk (0x4001C000) 12 4 .ro 0
def TMP_LCSTAT_AUTHREJ : Fld := mk (0x4001C000) 11 1 .ro 0
def TMP_LCSTAT_STICKYLD : Fld := mk (0x4001C000) 8 1 .ro 0
def TMP_LCSTAT_LD : Fld := mk (0x4001C000) 4 1 .ro 0
def TMP_LCSTAT_EXPORT : Fld := mk (0x4001C000) 3 1 .ro 0
def TMP_LCSTAT_RECOVERY : Fld := mk (0x4001C000) 2 1 .ro 0
def TMP_LCSTAT_LC : Fld := mk (0x4001C000) 0 2 .ro 0

/-! TMP_CTL, offset 0x004, owner P0, reset 0x0000_0001 (spec/20_security_boot_tamper.md). -/
def TMP_CTL_AUTHMSG : Fld := mk (0x4001C004) 1 1 .rw 0
def TMP_CTL_STICKY : Fld := mk (0x4001C004) 0 1 .rw 1

/-! TMP_POLICY, offset 0x008, owner P0, reset 0x0000_0155 (spec/20_security_boot_tamper.md). -/
def TMP_POLICY_AUTHF : Fld := mk (0x4001C008) 8 2 .rw 1
def TMP_POLICY_TEMP : Fld := mk (0x4001C008) 6 2 .rw 1
def TMP_POLICY_CLOCK : Fld := mk (0x4001C008) 4 2 .rw 1
def TMP_POLICY_GLITCH : Fld := mk (0x4001C008) 2 2 .rw 1
def TMP_POLICY_LOOP : Fld := mk (0x4001C008) 0 2 .rw 1

/-! TMP_LOOPCFG, offset 0x00C, owner P0, reset 0x0000_0002 (spec/20_security_boot_tamper.md). -/
def TMP_LOOPCFG_LOOPN : Fld := mk (0x4001C00C) 0 3 .rw 2 (ok := [(1, 4)])

/-! TMP_SRC, offset 0x010, owner P0, reset 0x0000_0000 (spec/20_security_boot_tamper.md). -/
def TMP_SRC_ACTIVE : Fld := mk (0x4001C010) 16 5 .ro 0
def TMP_SRC_FIRED : Fld := mk (0x4001C010) 0 5 .w1c 0

/-! TMP_RSTCAUSE, offset 0x014, owner ANY-RO, reset 0x0000_0000 (spec/20_security_boot_tamper.md). -/
def TMP_RSTCAUSE_COUNT : Fld := mk (0x4001C014) 16 16 .ro 0
def TMP_RSTCAUSE_CAUSE : Fld := mk (0x4001C014) 0 3 .ro 0

/-! TMP_AUTHCTR, offset 0x018, owner ANY-RO, reset 0x0000_0000 (spec/20_security_boot_tamper.md). -/
def TMP_AUTHCTR_CTR : Fld := mk (0x4001C018) 0 32 .ro 0

/-! TMP_AUTHFAIL, offset 0x01C, owner P0, reset 0x0000_0000 (spec/20_security_boot_tamper.md). -/
def TMP_AUTHFAIL_MSG : Fld := mk (0x4001C01C) 16 16 .ro 0
def TMP_AUTHFAIL_TOKEN : Fld := mk (0x4001C01C) 0 16 .ro 0

/-! TMP_PKGADDR, offset 0x020, owner P0, reset 0x0000_0000 (spec/20_security_boot_tamper.md). -/
def TMP_PKGADDR_ADDR : Fld := mk (0x4001C020) 12 20 .rw 0

/-! TMP_LCCTL, offset 0x024, owner P0, reset 0x0000_0000 (spec/20_security_boot_tamper.md). -/
def TMP_LCCTL_ABORT : Fld := mk (0x4001C024) 5 1 .wo 0
def TMP_LCCTL_NEXT : Fld := mk (0x4001C024) 4 1 .wo 0
def TMP_LCCTL_IMPORT : Fld := mk (0x4001C024) 3 1 .wo 0
def TMP_LCCTL_EXPORT : Fld := mk (0x4001C024) 2 1 .wo 0
def TMP_LCCTL_DECOMMISSION : Fld := mk (0x4001C024) 1 1 .wo 0
def TMP_LCCTL_COMMISSION : Fld := mk (0x4001C024) 0 1 .wo 0

/-! TMP_PKGSTAT, offset 0x028, owner P0, reset 0x0000_0000 (spec/20_security_boot_tamper.md). -/
def TMP_PKGSTAT_CODE : Fld := mk (0x4001C028) 24 8 .ro 0
def TMP_PKGSTAT_CHUNK : Fld := mk (0x4001C028) 12 12 .ro 0
def TMP_PKGSTAT_LAST : Fld := mk (0x4001C028) 3 1 .ro 0
def TMP_PKGSTAT_READY : Fld := mk (0x4001C028) 2 1 .ro 0
def TMP_PKGSTAT_DONE : Fld := mk (0x4001C028) 1 1 .ro 0
def TMP_PKGSTAT_BUSY : Fld := mk (0x4001C028) 0 1 .ro 0

/-! TMP_PKGLEN, offset 0x02C, owner P0, reset 0x0000_0000 (spec/20_security_boot_tamper.md). -/
def TMP_PKGLEN_LEN : Fld := mk (0x4001C02C) 0 13 .rw 0

/-! TMP_DEVPUBn, offset 0x040 + 4 × n, for n = 0–15, owner ANY-RO, reset device-specific (spec/20_security_boot_tamper.md). -/
def TMP_DEVPUBn_OCTETS (n : Nat) : Fld := mk (0x4001C040 + 0x4 * n) 0 32 .ro 0

/-! DBG_CTL, offset 0x000, owner P0, reset 0x0000_3C03 (spec/21_debug_and_in_service_test.md). -/
def DBG_CTL_IDLETO : Fld := mk (0x40019000) 8 8 .rw 60 (ok := [(1, 255)])
def DBG_CTL_PUEN : Fld := mk (0x40019000) 1 1 .rw 1
def DBG_CTL_EN : Fld := mk (0x40019000) 0 1 .rw 1

/-! DBG_STAT, offset 0x004, owner P0, reset 0x0000_00FF (spec/21_debug_and_in_service_test.md). -/
def DBG_STAT_LOCKOUT : Fld := mk (0x40019004) 9 1 .ro 0
def DBG_STAT_CHAL : Fld := mk (0x40019004) 8 1 .ro 0
def DBG_STAT_SCOPE : Fld := mk (0x40019004) 0 8 .ro 255

/-! DBG_HALTS, offset 0x008, owner P0, reset 0x0000_0000 (spec/21_debug_and_in_service_test.md). -/
def DBG_HALTS_RSBPEND : Fld := mk (0x40019008) 9 1 .ro 0
def DBG_HALTS_RSAPEND : Fld := mk (0x40019008) 8 1 .ro 0
def DBG_HALTS_RSB : Fld := mk (0x40019008) 4 1 .ro 0
def DBG_HALTS_RSA : Fld := mk (0x40019008) 3 1 .ro 0
def DBG_HALTS_SV : Fld := mk (0x40019008) 2 1 .ro 0
def DBG_HALTS_P0B : Fld := mk (0x40019008) 1 1 .ro 0
def DBG_HALTS_P0A : Fld := mk (0x40019008) 0 1 .ro 0

/-! DBG_TESTCTL, offset 0x040, owner P0, reset 0x0000_0000 (spec/21_debug_and_in_service_test.md). -/
def DBG_TESTCTL_INDEX : Fld := mk (0x40019040) 8 5 .rw 0
def DBG_TESTCTL_KIND : Fld := mk (0x40019040) 4 3 .rw 0 (ok := [(0, 5)])
def DBG_TESTCTL_ABORT : Fld := mk (0x40019040) 1 1 .wo 0
def DBG_TESTCTL_START : Fld := mk (0x40019040) 0 1 .wo 0

/-! DBG_TESTSTAT, offset 0x044, owner ANY-RO, reset 0x0000_0000 (spec/21_debug_and_in_service_test.md). -/
def DBG_TESTSTAT_CODE : Fld := mk (0x40019044) 24 8 .ro 0
def DBG_TESTSTAT_INDEX : Fld := mk (0x40019044) 16 5 .ro 0
def DBG_TESTSTAT_KIND : Fld := mk (0x40019044) 12 3 .ro 0
def DBG_TESTSTAT_TESTREJ : Fld := mk (0x40019044) 3 1 .ro 0
def DBG_TESTSTAT_DONE : Fld := mk (0x40019044) 1 1 .ro 0
def DBG_TESTSTAT_BUSY : Fld := mk (0x40019044) 0 1 .ro 0

/-! DBG_TESTRES0 and DBG_TESTRES1, offsets 0x048 and 0x04C, owner ANY-RO, reset 0x0000_0000 (spec/21_debug_and_in_service_test.md). -/
def DBG_TESTRES0_RES : Fld := mk (0x40019048) 0 32 .ro 0

/-! DBG_TESTRES0 and DBG_TESTRES1, offsets 0x048 and 0x04C, owner ANY-RO, reset 0x0000_0000 (spec/21_debug_and_in_service_test.md). -/
def DBG_TESTRES1_RES : Fld := mk (0x4001904C) 0 32 .ro 0

/-! DBG_TESTCNT, offset 0x050, owner ANY-RO, reset 0x0000_0000 (spec/21_debug_and_in_service_test.md). -/
def DBG_TESTCNT_FAIL : Fld := mk (0x40019050) 16 16 .ro 0
def DBG_TESTCNT_PASS : Fld := mk (0x40019050) 0 16 .ro 0

/-! DBG_FAILMAP, offset 0x054, owner ANY-RO, reset 0x0000_0000 (spec/21_debug_and_in_service_test.md). -/
def DBG_FAILMAP_CHAIN : Fld := mk (0x40019054) 12 2 .ro 0
def DBG_FAILMAP_TRL : Fld := mk (0x40019054) 8 4 .ro 0
def DBG_FAILMAP_CORE : Fld := mk (0x40019054) 4 4 .ro 0
def DBG_FAILMAP_ENG : Fld := mk (0x40019054) 0 4 .ro 0

/-! DBG_REPAIR, offset 0x058, owner ANY-RO, reset 0x0000_0000 (spec/21_debug_and_in_service_test.md). -/
def DBG_REPAIR_PERM : Fld := mk (0x40019058) 31 1 .ro 0
def DBG_REPAIR_RELOC : Fld := mk (0x40019058) 30 1 .ro 0
def DBG_REPAIR_SEG : Fld := mk (0x40019058) 0 5 .ro 0

/-! DBG_PHALT, offset 0x200, owner PART, reset 0x0000_0000 (spec/21_debug_and_in_service_test.md). -/
def DBG_PHALT_SESS : Fld := mk (0x40019200) 2 1 .ro 0 (part := true)
def DBG_PHALT_IMGB : Fld := mk (0x40019200) 1 1 .ro 0 (part := true)
def DBG_PHALT_IMGA : Fld := mk (0x40019200) 0 1 .ro 0 (part := true)

/-! SYS_ID, offset 0x000, owner ANY-RO, reset 0x9640_0001 on revision A0 (spec/22_generations_and_compatibility.md). -/
def SYS_ID_PART : Fld := mk (0x40000000) 16 16 .ro 38464
def SYS_ID_REVL : Fld := mk (0x40000000) 12 4 .ro 0
def SYS_ID_REVN : Fld := mk (0x40000000) 8 4 .ro 0
def SYS_ID_MAXGEN : Fld := mk (0x40000000) 0 8 .ro 1

/-! SYS_GEN, offset 0x004, owner ANY-RO, reset 0x0000_0001 (spec/22_generations_and_compatibility.md). -/
def SYS_GEN_GEN : Fld := mk (0x40000004) 0 8 .rwl 1

/-! SYS_RSTCTL, offset 0x008, owner P0, reset 0x0000_00gg, where gg is SYS_GEN (spec/22_generations_and_compatibility.md). -/
def SYS_RSTCTL_GENREJ : Fld := mk (0x40000008) 16 1 .ro 0
def SYS_RSTCTL_NEXTGEN : Fld := mk (0x40000008) 0 8 .rw 1

/-! SYS_FRPARTS, offset 0x00C, owner P0, reset 0x0000_0000 (spec/22_generations_and_compatibility.md). -/
def SYS_FRPARTS_PARTS : Fld := mk (0x4000000C) 0 32 .rw 0

/-! SYS_FRCFG, offset 0x010, owner P0, reset 0x0000_0028 (spec/22_generations_and_compatibility.md). -/
def SYS_FRCFG_ACKPRE : Fld := mk (0x40000010) 0 8 .rw 40 (ok := [(32, 255)])

/-! GPC_PINn, offset 0x000 + 4 × n, for n = 0–7, owner P0, reset 0x0000_1000 (spec/23_pins_package_electrical.md). -/
def GPC_PINn_OWNED (n : Nat) : Fld := mk (0x4001D000 + 0x4 * n) 23 1 .rw 0
def GPC_PINn_OWNER (n : Nat) : Fld := mk (0x4001D000 + 0x4 * n) 16 5 .rw 0
def GPC_PINn_DRIVE (n : Nat) : Fld := mk (0x4001D000 + 0x4 * n) 14 2 .rw 0
def GPC_PINn_PULL (n : Nat) : Fld := mk (0x4001D000 + 0x4 * n) 12 2 .rw 1 (ok := [(0, 2)])
def GPC_PINn_OD (n : Nat) : Fld := mk (0x4001D000 + 0x4 * n) 11 1 .rw 0
def GPC_PINn_INV (n : Nat) : Fld := mk (0x4001D000 + 0x4 * n) 10 1 .rw 0
def GPC_PINn_SEL (n : Nat) : Fld := mk (0x4001D000 + 0x4 * n) 4 3 .rw 0
def GPC_PINn_SEQ (n : Nat) : Fld := mk (0x4001D000 + 0x4 * n) 3 1 .rw 0
def GPC_PINn_FUNC (n : Nat) : Fld := mk (0x4001D000 + 0x4 * n) 0 3 .rw 0 (ok := [(0, 4)])

/-! GPC_STAT, offset 0x020, owner P0, reset 0x0000_0000 (spec/23_pins_package_electrical.md). -/
def GPC_STAT_REJ : Fld := mk (0x4001D020) 0 1 .ro 0

/-! GPC_LEVEL, offset 0x024, owner P0, reset 0x0000_0000 (spec/23_pins_package_electrical.md). -/
def GPC_LEVEL_LEVEL : Fld := mk (0x4001D024) 0 8 .ro 0

/-! GPC_PDIR, offset 0x200, owner PART, reset 0x0000_0000 (spec/23_pins_package_electrical.md). -/
def GPC_PDIR_DIR : Fld := mk (0x4001D200) 0 8 .rw 0 (part := true)

/-! GPC_POUT, offset 0x204, owner PART, reset 0x0000_0000 (spec/23_pins_package_electrical.md). -/
def GPC_POUT_OUT : Fld := mk (0x4001D204) 0 8 .rw 0 (part := true)

/-! GPC_PIN, offset 0x208, owner PART, reset 0x0000_0000 (spec/23_pins_package_electrical.md). -/
def GPC_PIN_LEVEL : Fld := mk (0x4001D208) 0 8 .ro 0 (part := true)

end Sys2Proof.Machine.Reg
end

