-- ==== Sys2Proof/Machine/Codes.lean ====
section
/-!
DEFINITION. The shared names of the spec with their numbers: status codes (R26), events (R276),
fault causes (PRT_FAULT), operating modes and the small enumerations of the chapters.
-/

namespace Sys2Proof.Machine

/-- The shared status codes (R26). -/
inductive Code where
  | done | accepted | deferred
  | refusedAccess | refusedDwell | refusedDuty | refusedShare | refusedKeyLimit
  | refusedCounterExhausted | refusedLength | refusedState | refusedQuota
  | authFail | checkFail | sequence
  | abortedTamper | abortedLockLoss | abortedPower | abortedReset | internal
  deriving DecidableEq, Repr

/-- The octet of a status code (R26). -/
def Code.num : Code → Nat
  | .done => 0x00 | .accepted => 0x01 | .deferred => 0x02
  | .refusedAccess => 0x10 | .refusedDwell => 0x11 | .refusedDuty => 0x12 | .refusedShare => 0x13
  | .refusedKeyLimit => 0x14 | .refusedCounterExhausted => 0x15 | .refusedLength => 0x16
  | .refusedState => 0x17 | .refusedQuota => 0x18
  | .authFail => 0x20 | .checkFail => 0x21 | .sequence => 0x22
  | .abortedTamper => 0x30 | .abortedLockLoss => 0x31 | .abortedPower => 0x32
  | .abortedReset => 0x33 | .internal => 0x3F

/-- The event positions of a partition (R276). -/
inductive Ev where
  | rxFrame | txDone | txRefused | ackTimeout | assoc | contactLost | mboxIn | mboxSpace
  | aliveMismatch | crcMismatch | keyLimit | counterEnd
  | timer0 | timer1 | timer2 | timer3
  | fault | imageSwitch | mode | cal | lockLoss | slotSuspended | uartIdle | debug
  | tamper | regulatory
  deriving DecidableEq, Repr

/-- The bit of an event (R276). -/
def Ev.bit : Ev → Nat
  | .rxFrame => 0 | .txDone => 1 | .txRefused => 2 | .ackTimeout => 3 | .assoc => 4
  | .contactLost => 5 | .mboxIn => 6 | .mboxSpace => 7 | .aliveMismatch => 8 | .crcMismatch => 9
  | .keyLimit => 10 | .counterEnd => 11
  | .timer0 => 12 | .timer1 => 13 | .timer2 => 14 | .timer3 => 15
  | .fault => 16 | .imageSwitch => 17 | .mode => 18 | .cal => 19 | .lockLoss => 20
  | .slotSuspended => 21 | .uartIdle => 22 | .debug => 23 | .tamper => 24 | .regulatory => 25

/-- EV_TIMERn (R47). -/
def Ev.timer : Nat → Ev
  | 0 => .timer0 | 1 => .timer1 | 2 => .timer2 | _ => .timer3

/-- Fault causes, coded as PRT_FAULT.FCAUSE. -/
inductive FCause where
  | access | illegal | align | quota | watchdog
  deriving DecidableEq, Repr

/-- PRT_FAULT.FCAUSE. -/
def FCause.num : FCause → Nat
  | .access => 1 | .illegal => 2 | .align => 3 | .quota => 4 | .watchdog => 5

/-- A partition's states (PRT_PSTATp.STATE). -/
inductive PState where
  | absent | stopped | running | faulted | resetting | purging
  deriving DecidableEq, Repr

/-- PRT_PSTATp.STATE. -/
def PState.num : PState → Nat
  | .absent => 0 | .stopped => 1 | .running => 2 | .faulted => 3 | .resetting => 4 | .purging => 5

/-- The kinds of partition reset, weakest first (R274). -/
inductive RstKind where
  | soft | hard | purge
  deriving DecidableEq, Repr

/-- The order of strength of R274. -/
def RstKind.rank : RstKind → Nat
  | .soft => 0 | .hard => 1 | .purge => 2

/-- The states of an image slot (R348). -/
inductive ImgState where
  | empty | staging | verified | active | rejected | imageB
  deriving DecidableEq, Repr

/-- ENG_IMG.S0 and S1 (R348). -/
def ImgState.num : ImgState → Nat
  | .empty => 0 | .staging => 1 | .verified => 2 | .active => 3 | .rejected => 4 | .imageB => 5

/-- The causes of a device reset (R538). -/
inductive RstCause where
  | por | resetn | brownout | watchdog | tamper | debug
  deriving DecidableEq, Repr

/-- TMP_RSTCAUSE.CAUSE (R538). -/
def RstCause.num : RstCause → Nat
  | .por => 0 | .resetn => 1 | .brownout => 2 | .watchdog => 3 | .tamper => 4 | .debug => 5

end Sys2Proof.Machine
end

