-- ==== Sys2Proof/Machine/Tab.lean ====
section
/-!
DEFINITION. A sparse table: a list of (key, value) pairs, keys strictly rising, no entry equal to
what an unlisted key reads as. Registers, memory and every numbered array of the block (slots,
partitions, entries, ...) are held so; equal tables are equal lists.
-/

namespace Sys2Proof.Machine

/-- A sparse table from numbers to values. -/
abbrev Tab (α : Type) := List (Nat × α)

/-- What a table holds at a key; `d` where it lists nothing. -/
def Tab.get {α : Type} (d : α) : List (Nat × α) → Nat → α
  | [], _ => d
  | (j, v) :: t, k => if j = k then v else Tab.get d t k

/-- A table without a key. -/
def Tab.del {α : Type} : List (Nat × α) → Nat → List (Nat × α)
  | [], _ => []
  | (j, v) :: t, k => if j = k then Tab.del t k else (j, v) :: Tab.del t k

/-- A table with one entry more, at its place. -/
def Tab.ins {α : Type} : List (Nat × α) → Nat → α → List (Nat × α)
  | [], k, v => [(k, v)]
  | (j, w) :: t, k, v => if k < j then (k, v) :: (j, w) :: t else (j, w) :: Tab.ins t k v

/-- Writing a value: the entry is removed where it equals what an unlisted key reads as. -/
def Tab.set {α : Type} [DecidableEq α] (d : α) (t : List (Nat × α)) (k : Nat) (v : α) : List (Nat × α) :=
  if v = d then Tab.del t k else Tab.ins (Tab.del t k) k v

/-- Every key of the table lies above `k`. -/
def Tab.above {α : Type} (k : Nat) (t : List (Nat × α)) : Bool := t.all fun e => decide (k < e.1)

/-- Keys strictly rising. -/
def Tab.rising {α : Type} : List (Nat × α) → Bool
  | [] => true
  | (j, _) :: t => Tab.above j t && Tab.rising t

/-- The canonical form: keys strictly rising, no entry equal to the default. -/
def Tab.wf {α : Type} [DecidableEq α] (d : α) (t : List (Nat × α)) : Bool :=
  Tab.rising t && t.all fun e => decide (e.2 ≠ d)

/-- A table's entries put into canonical form: a later entry of a key stands. -/
def Tab.norm {α : Type} [DecidableEq α] (d : α) (l : List (Nat × α)) : List (Nat × α) :=
  l.foldl (fun t e => Tab.set d t e.1 e.2) []

/-- Changing one entry by a function. -/
def Tab.upd {α : Type} [DecidableEq α] (d : α) (t : List (Nat × α)) (k : Nat) (f : α → α) : List (Nat × α) :=
  Tab.set d t k (f (Tab.get d t k))

end Sys2Proof.Machine
end

