-- ==== Sys2Proof/Machine/StateCore.lean ====
section
/-!
DEFINITION. The parts of State that the clock, synthesiser, partition and engine chapters name
(spec/02, 03, 10, 11, 12), as plain data.
-/

namespace Sys2Proof.Machine

/-! ## Reference, clock and timebase (spec/02) -/

/-- The XO's states (R30). -/
inductive XoSt where
  | stopped | start | run | sustain
  deriving DecidableEq, Repr

/-- Where the relock of R53 stands. -/
inductive Relock where
  | idle | waiting | recal | hold | switchDue
  deriving DecidableEq, Repr

/-- The reference and the relock of the system PLL (R30, R53). -/
structure ClkSt where
  xo        : XoSt := .stopped
  relock    : Relock := .idle
  since     : Nat := 0          -- tick of the loss or of the failed attempt
  trim      : Option (Nat × Nat) := none   -- COARSE and FINE to write at the next tick boundary (R508)
  deriving DecidableEq, Repr

/-- The timebase (R37) and what waits for its next tick boundary (R43 to R46). -/
structure TbsSt where
  now      : Nat := 0            -- the 62-bit count, in fractions
  latch    : Tab Nat := []       -- TICKH as latched, by reading tag (R38)
  setPend  : Option Nat := none  -- an absolute set (R43)
  psFirst  : Bool := false       -- a sequence waits for its first boundary (R45)
  adjPend  : Bool := false       -- an adjustment, of any amount (R44)
  psFrac   : Int := 0            -- steps of 1/256 cycle short of a fraction (R33)
  cmp      : Tab Nat := []       -- the current compare value of timer 4p + n (R47)
  psNext   : Nat := 0            -- tick of the next phase step (R45)
  tickOut  : Bool := false       -- the TICK_OUT level (R48)
  tickEnd  : Nat := 0            -- the tick at which it falls
  refill   : Nat := 0            -- ticks counted towards the next refill boundary (R282)
  deriving DecidableEq, Repr

/-! ## Synthesisers (spec/03) -/

/-- What a synthesiser's loop is doing (R57, R62, R66, R71). -/
inductive SynPh where
  | off | settling | locked | reacquire | recoarse | failed | calStep
  deriving DecidableEq, Repr

/-- One synthesiser: SYNA 0, SYNB 1, SYNT 2. -/
structure SynSt where
  ph       : SynPh := .off
  target   : Nat := 0x1B200000      -- the word of the command in force
  stored   : Bool := false          -- a command waits for EN (R58)
  own      : Nat := 0x1B200000      -- SYNB's own word, kept while it follows SYNA (R89, R90)
  ref      : Nat := 0               -- the reference in use (R34)
  heldWord : Option Nat := none     -- a word held while the PA is driven (R63)
  heldOff  : Bool := false          -- EN = 0 held while the PA is driven (R58)
  track    : Bool := false          -- a phase track is kept (R70)
  phase    : Int := 0               -- carrier phase rotation in 1/4096 turn (R69)
  failed   : Bool := false          -- failed and recalibrated by SV since its last lock (R100)
  coarse   : Tab Nat := []          -- the coarse codes of its 32 regions (R60)
  deriving DecidableEq, Repr

/-! ## Partitions and Saddle (spec/10) -/

/-- A partition's descriptor (R265). -/
structure Desc where
  pnum    : Nat := 0
  ls      : Bool := false
  port    : Nat := 0
  transp  : Bool := false
  nids    : List Nat := []
  codeG   : Nat := 0
  dataG   : Nat := 0
  pktFlr  : Nat := 0
  assocQ  : Nat := 0
  kslotQ  : Nat := 0
  crcQ    : Nat := 0
  txQ     : Nat := 0
  ownKey  : List Byte := []
  signId  : List Byte := []
  deriving DecidableEq, Repr

/-- An image header as R345 lays it out. -/
structure ImgHdr where
  kind     : Nat := 0
  keepData : Bool := false
  minGen   : Nat := 0
  version  : Nat := 0
  codeLen  : Nat := 0
  dataLen  : Nat := 0
  dataOfs  : Nat := 0
  dataSize : Nat := 0
  entry    : Nat := 0
  deriving DecidableEq, Repr

/-- One image slot of an owner (R346 to R348). -/
structure ImgSlot where
  st       : ImgState := .empty
  base     : Nat := 0                -- eNVM address of the slot
  size     : Nat := 0                -- its size in octets
  chunks   : List (Nat × Nat) := []  -- offsets and lengths staged
  len      : Nat := 0                -- octets of the image staged
  hdr      : ImgHdr := {}
  lastBy   : Nat := 0                -- requester of the LAST chunk
  byHost   : Bool := false           -- it came through image-load; otherwise through TRAP service 2
  byImgB   : Bool := false           -- the requesting context is image B
  lastAt   : Nat := 0                -- its tick
  verify   : Bool := false           -- a verification is in progress (R347)
  sealD    : Option (List Byte) := none   -- the digest its seal holds (R536)
  deriving DecidableEq, Repr

/-- An activation asked for and waiting for the boundary (R349). -/
inductive ActReq where
  | switch (slot : Nat)
  | dual (slot endBnd : Nat) (endAct : Bool)
  | commit
  | revert
  | start (slot : Nat)
  deriving DecidableEq, Repr

/-- An open dual-image window (R352). -/
structure Dual where
  ob     : Nat := 0
  slotA  : Nat := 0
  slotB  : Nat := 0
  endAct : Bool := false
  deriving DecidableEq, Repr

/-- A ticket of SUBMIT (R316 to R321). -/
structure Ticket where
  num     : Nat
  imgB    : Bool := false
  service : Nat := 0
  buf     : Nat := 0          -- partition address of the descriptor buffer
  len     : Nat := 0          -- buffer length in octets
  reqLen  : Nat := 0
  status  : Option Nat := none
  deriving DecidableEq, Repr

/-- A partition's services: a completed service writes its report here when it ends. -/
structure Part where
  desc     : Desc := {}
  codeBase : Nat := 0
  dataBase : Nat := 0
  gran     : List Nat := []            -- physical granules of the packet window, in window order
  assocLo  : Nat := 0                  -- first physical entry of its node-table run
  rst      : Option RstKind := none    -- a reset in progress (R274)
  autoTicks : List Nat := []           -- ticks of the automatic resets of the last hour (R272)
  faultAt  : Option Nat := none        -- tick of a fault an automatic reset may follow (R272)
  erase    : Bool := false             -- image erasure after a PURGE outstanding (R274)
  level    : Rat := 0                  -- airtime bucket level (R282)
  fill     : Rat := 0                  -- ticks added over the present second
  fillN    : Nat := 0                  -- refill boundaries counted in it
  vSec     : Rat := 0                  -- virtual time at the cipher (R286)
  vHif     : Rat := 0                  -- virtual time at the port (R286)
  usedSec  : Nat := 0                  -- service over the last 1 ms (R286)
  usedHif  : Nat := 0
  tickets  : List Ticket := []
  nextTk   : Nat := 1
  done     : List Nat := []            -- completed tickets, oldest first
  slot0    : ImgSlot := {}
  slot1    : ImgSlot := {}
  act      : Option ActReq := none
  dual     : Option Dual := none
  seq      : Nat := 0                  -- sequence of its resynchronisation frames (R258)
  seqG     : Nat := 0                  -- of its group frames (R231)
  seqB     : Nat := 0                  -- of its beacons (R233)
  deriving DecidableEq, Repr

/-- A creation or PURGE in progress (R266, R273). -/
structure Creation where
  desc   : Desc := {}
  purge  : Option Nat := none     -- a PURGE of this partition in place of a creation
  code   : Code := .done
  byReg  : Bool := true
  deriving DecidableEq, Repr

/-! ## Contexts and engines (spec/11, 12) -/

/-- What a context waits for. -/
inductive RunSt where
  | idle
  | ready
  | waitE (d : Nat)
  | waitT (v : Nat)
  | yielded
  | collect (d tk : Nat)
  | trap (n : Nat)
  deriving DecidableEq, Repr

/-- A context (R290) with what its engine keeps for it. -/
structure Prog where
  g       : Tab Word := []
  pc      : Word := 0
  z       : Bool := false
  n       : Bool := false
  c       : Bool := false
  v       : Bool := false
  t       : Bool := false
  cyc     : Word := 0
  run     : RunSt := .idle
  halted  : Bool := false
  haltPend : Bool := false
  cause   : Nat := 0            -- CSTAT's cause bits (R570)
  stepping : Bool := false      -- one instruction, then halt (R569)
  wdog    : Nat := 0            -- cycles since the watchdog's restart (R364); of RSA, RSB and CE the tick of it (R344), while halted the ticks it had run
  blkAt   : Nat := 0            -- the instant it blocked, in fractions
  fcause  : Nat := 0            -- special register 6 (R293)
  codeOfs : Nat := 0            -- OB where its code lies: of image B, and of one that a COMMIT left alone (R353, R354)
  slot    : Nat := 0            -- the image slot it runs
  out     : List Byte := []     -- the open outgoing message (R322)
  outOpen : Bool := false
  evp     : Nat := 0            -- event latches of SV, RSA, RSB and CE (R340, R343)
  evm     : Nat := 0
  deriving DecidableEq, Repr

/-- A MAC engine's turn (R362). -/
structure EngSt where
  cur    : Option Nat := none   -- the context it holds
  slices : Nat := 0             -- slices of the present turn
  back   : Bool := false        -- returned to service: partitions move onto it (R366)
  deriving DecidableEq, Repr

/-- The supervisor (R360, R361). -/
structure SvSt where
  askedAt   : Nat := 0            -- tick of the activation request
  confirmBy : Option Nat := none  -- the new image has not confirmed itself: the tick by which it must
  deriving DecidableEq, Repr

/-- One bank of a sequencer store (R338). -/
structure Bank where
  code    : Tab Byte := []
  data    : Tab Byte := []
  entry   : Nat := 0
  loaded  : Bool := false
  faulted : Bool := false
  version : Nat := 0
  minGen  : Nat := 0
  deriving DecidableEq, Repr

/-- A sequencer, RSA 0 or RSB 1 (R357). -/
structure SeqSt where
  bank0   : Bank := {}
  bank1   : Bank := {}
  loading : Bool := false
  loadSlot : Nat := 0
  toBasic : Option Bool := none   -- a pending change of BASIC (R358)
  swap    : Bool := false         -- a pending swap of the banks (R357)
  stopped : Bool := false         -- stopped by a fault, restart due (R344)
  outs    : Nat := 0              -- the sequencer outputs (R342)
  deriving DecidableEq, Repr

end Sys2Proof.Machine
end

