-- ==== Sys2Proof/Machine/StateMore.lean ====
section
/-!
DEFINITION. The parts of State that the other chapters name, as plain data.
-/

namespace Sys2Proof.Machine

/-! ## eNVM (spec/19) -/

/-- A write request waiting at NVC (R515), in the order R515 serves the kinds. -/
inductive NvReq where
  | counter (p i : Nat) (clean : Bool)
  | save
  | calRecord
  | config
  | gen (v : Nat)
  | scree (stamp : Nat) (discont : Bool) (code src part cls : Nat) (data : List Byte)
  | checkpoint (p i : Nat)
  | refresh (addr : Nat)
  deriving DecidableEq, Repr

/-! ## Receive chains and the channel bank (spec/04, 05) -/

/-- One receive chain, A 0 or B 1: the causes that keep its slots from receiving (R107), and its removal (R98). -/
structure Chain where
  blRet   : Bool := true      -- retune, or enabled and not locked yet (R59, R107)
  blCal   : Bool := false     -- a calibration step blanks it
  blArm   : Bool := false     -- RXARM BLANK (R326)
  unrel   : Bool := false     -- its synthesiser lost lock (R73)
  lockAt  : Nat := 0          -- stamp of the last rise of LOCK (R73)
  upAt    : Nat := 0          -- stamp from which its bins have been served without a break (R138)
  waited  : Nat := 0          -- beacon boundaries waited while DRAINING (R98)
  moved   : Bool := false     -- retuned to its fallback frequency (R98)
  coupler : Bool := false     -- input on the coupler (R94)
  follow  : Bool := false     -- blanked after a FOLLOW or LBT retune until 12 ticks after lock (R95, R222)
  cause   : Nat := 0
  deriving DecidableEq, Repr

/-- A sync search of one hypothesis (R124). -/
structure Search where
  hyp  : Nat
  lam  : Nat
  foff : Int
  capture : Bool := false     -- runs beside a frame in progress (R131 row 2)
  deriving DecidableEq, Repr

/-- A canceller at work on a slot (R132). -/
structure Sic where
  weaker   : Bool       -- the later frame is the weaker one (R131 row 3)
  hyp      : Nat
  stamp    : Nat := 0
  strongOk : Bool := false
  deriving DecidableEq, Repr

/-- A slot's own state (R106); its counters are register fields. -/
structure Slot where
  suspFb   : Bool := false    -- left out by FALLBACK ranking (R139)
  suspRem  : Bool := false    -- left out by chain removal (R98)
  searches : List Search := []
  dropA    : Bool := false    -- branch A out of this slot's combining (R92)
  dropB    : Bool := false
  sic      : Option Sic := none
  fbKeep   : Bool := false
  ring     : List (Option Int) := []  -- energy samples, latest first, at most 256 (R138)
  valid    : Nat := 0
  noise    : Option Int := none       -- R126
  period   : Nat := 0                 -- the 40-tick period of the latest sample
  from_    : Nat := 0                 -- stamp from which it has measured without a break of its own
  deriving DecidableEq, Repr

/-- A channel plan: its 1284 words, header first (R108). -/
structure Plan where
  words : Tab Nat := []
  deriving DecidableEq, Repr

/-- A plan load in progress (R113): the image as it stood at the LOAD write. -/
structure PlanLoad where
  addr : Nat := 0
  ok   : Bool := true          -- the image is readable (REASON READ otherwise)
  plan : Plan := {}
  now  : Bool := false         -- NOW written with the LOAD
  deriving DecidableEq, Repr

/-- The channel bank. -/
structure ChbSt where
  active  : Option Plan := none
  pend    : Option Plan := none
  load    : Option PlanLoad := none
  nowDue  : Bool := false      -- an accepted NOW waits for the tick boundary (R115)
  sel     : Tab Nat := []      -- the slot each tag has selected (R143)
  deriving DecidableEq, Repr

/-- The trellis pool: the context each decoder serves, and the contexts in order of their last service (R171). -/
structure TrlSt where
  dec  : Tab (Option Nat) := []
  wait : List Nat := []
  deriving DecidableEq, Repr

/-! ## Frames being received (spec/06) -/

/-- Where a received frame stands. -/
inductive RxStage where
  | phr      -- its PHR is being decoded
  | header   -- its header is being decoded
  | body     -- its header has been handed over (R181)
  | tag      -- its FCS has passed; the MIC verdict is due
  | held     -- in quarantine, waits for a counter record (R388) or its partition's restart (R25)
  | done     -- released; its record is being copied (R618)
  deriving DecidableEq, Repr

/-- Why a received frame ends at step 4 or 5 of R22. -/
inductive RxStop where
  | nonid                -- no partition serves its network ID
  | version              -- R260
  | full                 -- no room in the receive ring (R618)
  | status (c : Code)    -- a check of R380
  deriving DecidableEq, Repr

/-- The header fields PKT hands to AIR and ASC (R151 to R153, R162). -/
structure Mhr where
  type   : Nat := 0
  pver   : Nat := 0
  ackReq : Bool := false
  pend   : Bool := false
  sec    : Bool := false
  nid    : Nat := 0
  seq    : Nat := 0
  dam    : Nat := 0
  dst    : Nat := 0
  sam    : Nat := 0
  src    : Nat := 0
  kid    : Nat := 0
  lvl    : Nat := 0
  ctr    : Nat := 0
  hlen   : Nat := 0
  deriving DecidableEq, Repr

/-- A frame in the pool, in PKT or in quarantine (R134, R148, R181). -/
structure RxFrame where
  slot   : Nat := 0
  hyp    : Nat := 0
  fmt    : Nat := 2
  chain  : Nat := 0
  stamp  : Nat := 0
  rssi   : Int := 0
  rssiA  : Option Int := none
  rssiB  : Option Int := none
  snr    : Int := 0
  lqi    : Nat := 0
  foff   : Int := 0
  cap    : Bool := false
  sic    : Bool := false
  oneBr  : Bool := false
  sfdc   : Bool := false
  f3rsc  : Nat := 0             -- PKT_F3CFG as the frame began (R165)
  stage  : RxStage := .phr
  phr    : Nat := 0
  len    : Nat := 0
  code   : Nat := 0
  wht    : Bool := false
  fcst   : Nat := 0
  blocks : Nat := 0
  hdr    : Mhr := {}
  badHdr : Bool := false        -- R181
  part   : Option Nat := none   -- the partition its network ID selects
  entry  : Option Nat := none   -- the association, by local index
  imgB   : Bool := false        -- the image that receives its events (R262)
  window : Option Bool := none  -- the window verdict at MHR (R252)
  nidx   : Nat := 0
  stop   : Option RxStop := none
  fr     : Nat := 0             -- SYS_FRPARTS as its sync word was found (R584)
  ackMiss : Bool := false       -- an acknowledgement was due and cannot be sent (R225)
  status : Nat := 0             -- the status its record carries (R429)
  wrapped : List Byte := []     -- the wrapped key it began with (R391, R395)
  verdict : Option Bool := none -- the MIC verdict
  repeated : Bool := false      -- the repeat of R21
  usedNext : Bool := false      -- verified under the next key (R391)
  ctr    : Nat := 0             -- the 32-bit counter judged
  psdu   : List Byte := []
  endTick : Nat := 0            -- end of frame, in ticks (R227)
  deriving DecidableEq, Repr

end Sys2Proof.Machine
end

