-- ==== Sys2Proof/Machine/StateAir.lean ====
section
/-!
DEFINITION. The parts of State that the transmit, air access, association and host message chapters
name (spec/07, 08, 09, 15), as plain data.
-/

namespace Sys2Proof.Machine

/-! ## Frames for transmission (spec/07, 08) -/

/-- What a frame for transmission is. -/
inductive TxKind where
  | submit               -- a submission (R426), for the next transmit window where `Tx.window`
  | resync               -- a resynchronisation frame (R258)
  | ack (fid : Nat)      -- an immediate acknowledgement of a received frame (R227, R587)
  | group                -- a group acknowledgement (R230)
  | beacon               -- a beacon (R232)
  deriving DecidableEq, Repr

/-- Where a frame for transmission stands (R23). -/
inductive TxStage where
  | window     -- waits for its association's transmit window (R253)
  | bucket     -- step 2: waits for its airtime (R283)
  | held       -- step 3: held until `until` (R214)
  | listen     -- step 4: waits for an LBT decision (R221)
  | backoff    -- step 4: backs off until `until` (R220)
  | retry      -- waits RETRYDLY until `until` (R236)
  | clear      -- admitted, waits to be released to RSA (R226)
  | fixed      -- reserved with a fixed start (R224), not yet released
  | atRsa      -- released to RSA (R341)
  | bound      -- bound by TXARM (R327)
  | onAir      -- its transmit interval runs (R196)
  | acked      -- ended; waits for the node's acknowledgement (R427)
  deriving DecidableEq, Repr

/-- The taps of SHAPE 1, c[0] to c[31] (R191). -/
def shape1 : List Int := List.replicate 24 0 ++ [1, 3, 13, 41, 99, 192, 300, 375]
/-- The taps of SHAPE 2 (R191). -/
def shape2 : List Int := List.replicate 20 0 ++ [1, 3, 6, 13, 24, 43, 69, 103, 142, 180, 211, 229]
/-- The taps of SHAPE 3 (R191). -/
def shape3 : List Int :=
  [-2, -8, -16, -25, -31, -33, -27, -11, 13, 45, 78, 107, 123, 119, 91, 37] ++
  [-42, -134, -228, -306, -348, -337, -259, -105, 122, 413, 747, 1096, 1430, 1715, 1924, 2034]

/-- What TXM snapshots for a frame (R199), as far as an effect of it can be observed. -/
structure TxSnap where
  profA   : Nat := 0
  profB   : Nat := 0
  femPat  : Nat := 0
  lead    : Nat := 0
  tail    : Nat := 0
  maskCtl : Nat := 0
  segs    : List (Nat × Nat) := []     -- low and high words of the mask's segments
  taps    : List Int := []             -- the tap set, c[0] to c[31]; none where SHAPE is 0 (R190, R191)
  imp     : Bool := false              -- its input mode is impulse
  deriving DecidableEq, Repr

/-- A frame for transmission. -/
structure Tx where
  id      : Nat := 0
  kind    : TxKind := .submit
  p       : Nat := 0
  imgB    : Bool := false
  tk      : Nat := 0            -- its ticket (R316, R427)
  host    : Bool := true        -- its report goes to the host (R427), else to COLLECT
  stage   : TxStage := .bucket
  until_  : Nat := 0
  entry   : Option Nat := none  -- the association, by local index
  window  : Bool := false       -- NEXTTX (R253)
  prof    : Nat := 0
  freq    : Nat := 0
  fmt     : Nat := 2
  pwr     : Option Nat := none  -- the power the submission names
  codeF   : Nat := 0            -- CODE of R148
  fcst    : Nat := 0
  wht     : Bool := false
  pre     : Nat := 32
  wb      : Nat := 0
  lvl     : Nat := 0            -- SECLVL
  ackReq  : Bool := false
  seq     : Nat := 0
  body    : List Byte := []
  len     : Nat := 0            -- LEN: PSDU octets with MIC and FCS; format 1: octets after LEN
  mic     : Nat := 0            -- MIC octets
  sync    : Nat := 0            -- sync word (acknowledgements) or index of AIR_TXSYNCn
  psdu    : List Byte := []     -- the PSDU as sent
  ctr     : Option Nat := none  -- the frame counter consumed (R24)
  sub     : Nat := 0            -- submission tick
  latest  : Nat := 0            -- latest start, a tick
  named   : Bool := false       -- the submission named it
  ackWait : Nat := 0
  air     : Nat := 0            -- airtime, ticks (R197)
  drawn   : Nat := 0            -- ticks drawn from the bucket and not yet returned
  be      : Nat := 0            -- backoff exponent, tries and retries (R220, R236)
  tries   : Nat := 0
  retries : Nat := 0
  fixed   : Bool := false
  t0      : Nat := 0            -- T0 and T_S in fractions
  ts      : Nat := 0
  ok      : Bool := false       -- committed (R21)
  decided : Bool := false       -- LBT decided at T0 - 20 (R223)
  clearAt : Nat := 0            -- tick of the CLEAR decision (R220)
  ents    : List (Nat × Nat) := []  -- short addresses and sequence numbers of a group frame
  snap    : TxSnap := {}
  mod     : List Int := []      -- the deviation of each of its symbols in FREQ codes, as the mapper delivers them (R190)
  power   : Nat := 0            -- the power applied (R187)
  out     : Option Code := none -- its ending, once decided
  start   : Nat := 0            -- T0 as driven, in fractions
  ended   : Nat := 0            -- end of frame, a tick; while ramped down, the end of ramp-down in fractions
  stamp   : Nat := 0            -- its transmit stamp (R196)
  after   : Nat := 0            -- E of the frame it acknowledges, in fractions (R223, R227)
  deriving DecidableEq, Repr

/-- TXM's own state beside its registers. -/
structure TxmSt where
  taps0  : List Int := shape1         -- current taps c[0] to c[31] of the custom sets (R192)
  taps1  : List Int := shape1
  imp0   : Bool := false              -- current input modes
  imp1   : Bool := false
  maskN  : Tab Nat := []              -- consecutive periods above the limit, by bin (R201)
  maskBad : Nat := 0                  -- 0 none, 1 flagged, 2 muted
  perEnd : Nat := 0                   -- end of the measurement period in progress, in fractions (R201)
  unchecked : Bool := false           -- R74, or a frame that ends before SYNB locks (R95)
  mon    : Bool := false              -- chain B measures (R94, R95)
  follow : Bool := false              -- SYNB was moved to the carrier (R95)
  heldFreq : Nat := 0                 -- its frequency before
  blank  : Bool := false              -- the blanking of R93 is in force
  blankFrom : Nat := 0                -- its start, in fractions
  ivEnd  : Nat := 0                   -- end of the last interval, in fractions
  clearAt : Nat := 0            -- end of the last blanking, in fractions
  heldGain : Nat := 0           -- chain B's gain index before the monitor's (R93, R95)
  deriving DecidableEq, Repr

/-- A sub-band of a regulatory profile (R208). -/
structure Band where
  flo    : Nat := 0
  fhi    : Nat := 0
  duty   : Nat := 0
  pmax   : Nat := 0
  lbtthr : Nat := 0
  lbtwin : Nat := 0
  maxon  : Nat := 0
  minoff : Nat := 0
  deriving DecidableEq, Repr

/-- A dwell channel (R208). -/
structure DwellCh where
  freq  : Nat := 0
  width : Nat := 0
  dwell : Nat := 0
  deriving DecidableEq, Repr

/-- A regulatory profile (R208). -/
structure RegProf where
  profid : Nat := 0
  flags  : Nat := 0
  hop    : Nat := 0
  seqno  : Nat := 0
  bands  : List Band := []
  chans  : List DwellCh := []
  deriving DecidableEq, Repr

/-- A regulatory profile load in progress: the image as it stood at the LOAD (R209). -/
structure RegLoad where
  octs : List Byte := []       -- the whole image, where it could be read
  verdict : Nat := 0           -- REASON of the first checks: READ, and FORMAT of NB and NC
  now  : Bool := false         -- NOW written with the LOAD
  deriving DecidableEq, Repr

/-- What AIR counts for a sub-band (R214, R216, R218). -/
structure BandUse where
  hist : List (Nat × Nat) := []   -- 1 s buckets and their ticks, latest first
  last : Option Nat := none       -- end of the last transmit interval, a tick
  sec  : Option Nat := none       -- second of the last EV_REGULATORY for it
  deriving DecidableEq, Repr

/-- A pending group-acknowledgement entry (R229). -/
structure GEnt where
  p     : Nat
  fid   : Nat
  saddr : Nat
  seq   : Nat
  rate  : Nat
  air   : Nat                 -- airtime reserved from the bucket
  ok    : Bool := false       -- its tag has verified
  endT  : Nat := 0
  missed : Nat := 0           -- group instants that passed without it
  hyp   : Nat := 0            -- slot * 4 + hypothesis of its frame, for the profile match
  deriving DecidableEq, Repr

/-- AIR's state beside its registers. -/
structure AirSt where
  bper   : Nat := 30000000      -- setting in force (R205)
  bofs   : Nat := 0
  nextB  : Nat := 30000000      -- next boundary, a tick
  prof   : Option RegProf := none
  pend   : Option RegProf := none
  load   : Option RegLoad := none
  nowDue : Bool := false
  use    : Tab BandUse := []    -- by sub-band
  dwell  : List (Nat × Nat × Nat) := []   -- frequency word, hopping period, ticks used
  gents  : List GEnt := []
  bcn    : Tab Nat := []        -- boundaries counted by partition (R232)
  bcnDue : List (Nat × Nat × List Byte) := []   -- beacons to build: partition, boundary tick, contents fixed at it (R206)
  gbuilt : Tab Nat := []        -- the group instant last built for, by partition (R230)
  pairt  : Tab Nat := []        -- ticks charged to a partition (R237)
  blkT   : Nat := 0             -- blanked fractions (R237)
  next   : Nat := 0             -- frames numbered so far
  lbtRet : Option Nat := none   -- an LBT retune is out for this frame (R222)
  lbtBack : Bool := false       -- chain B returns to its plan frequency after it
  deriving DecidableEq, Repr

/-! ## Associations (spec/09) -/

/-- What ASC keeps for a physical entry beside the entry's octets. -/
structure AscEnt where
  armed   : Bool := false
  w       : Int := 0        -- wake instant, a tick
  h       : Nat := 0        -- half-width, ticks
  offered : Bool := false   -- its first action has been taken
  hit     : Bool := false   -- a contact fell inside the window
  resync  : Nat := 0        -- tick of the next resynchronisation frame
  promo   : Bool := false   -- the counter record of a promotion is not written yet (R391)
  lastTx  : Option Nat := none  -- frame counter of the last secured frame sent to it (R245)
  deriving DecidableEq, Repr

/-! ## Host messages (spec/15) -/

/-- A message (R411, R412). -/
structure Msg where
  cls   : Nat := 2
  typ   : Nat := 0
  tag   : Nat := 0
  auth  : Bool := false
  alive : Nat := 0
  body  : List Byte := []
  plain : Bool := false           -- never a stored response: SEQUENCE, DEFERRED, resync (R419, R421)
  ans   : Option Nat := none      -- a device-built response: the counter of the request it answers
  at_   : Nat := 0                -- tick it was accepted or committed
  deriving DecidableEq, Repr

/-- A stored response (R420). -/
structure Stored where
  tag     : Nat := 0
  alive   : Nat := 0              -- counter of the request
  tenant  : Bool := false         -- a tenant-type request (R415)
  msg     : Option Msg := none    -- once committed
  retired : Bool := false
  deriving DecidableEq, Repr

/-- A partition's mailboxes (R423). -/
structure Mbox where
  inq    : List Msg := []         -- accepted, waiting for execution or delivery
  tq     : List Msg := []         -- tenant-type requests delivered, waiting for MPOP
  outq   : List Msg := []
  wait   : List Msg := []         -- device-built messages waiting for room
  stored : Option Stored := none
  noSpace : Bool := false         -- an MPUSH was refused for room: EV_MBOX_SPACE is due (R322)
  taken  : Nat := 0               -- octets of the head message read by MPOP
  busy   : Bool := false          -- the first waiting request is being executed and answers later (R418)
  deriving DecidableEq, Repr

/-- A host port's transaction state: SPI 0, UART 1 (R435, R447). -/
structure Port where
  cur     : Option Nat := none    -- the partition whose head message is in flight
  sent    : Bool := false
  err     : Bool := false
  rst     : Bool := false
  offer   : Option Nat := none    -- the partition Saddle offers (R286)
  note    : Option Nat := none    -- tick of the last error note (R435)
  out     : List Byte := []       -- octets the port sent in its last transaction or frame
  deriving DecidableEq, Repr

/-! ## The UART (spec/16) -/

/-- A received character of transparent mode. -/
structure UChar where
  data : Nat
  fe   : Bool
  pe   : Bool
  deriving DecidableEq, Repr

/-- What the transmitter sends: the port-status octet, the in-flight message, a character of the
transmit FIFO. -/
inductive USend where
  | status
  | msg
  | char
  deriving DecidableEq, Repr

/-- The UART's state beside its registers and its port's transaction state. -/
structure UartSt where
  mode    : Bool := false          -- the mode in force: transparent (R449)
  rxq     : List UChar := []       -- the receive FIFO
  txq     : List Nat := []         -- the transmit FIFO
  send    : Option USend := none
  statDue : Bool := false          -- a STATUS answer waits (R447)
  ackFrom : Nat := 0               -- tick of the end of the in-flight message's last sending
  again   : Bool := false          -- the in-flight message is sent again (R447)
  seen    : Tab Nat := []          -- by context: flags the UART_TSTAT read just before returned (R450)
  deriving DecidableEq, Repr

/-! ## Modes (spec/17) -/

/-- The sleep modes (R454). -/
inductive Sleep where
  | sleep | col | deep | off
  deriving DecidableEq, Repr

/-- The code of a sleep mode (R454). -/
def Sleep.num : Sleep → Nat
  | .sleep => 8 | .col => 9 | .deep => 10 | .off => 11

/-- An entry to a sleep mode in progress (R460). -/
structure Entry where
  target : Sleep
  param  : Nat := 0
  byMsg  : Bool := false
  ans    : Nat := 0            -- counter of the request
  began  : Nat := 0            -- tick of the response
  steps  : Bool := false       -- steps 2 to 8 done
  held   : List Nat := []      -- wake sources held (R461)
  deriving DecidableEq, Repr

/-- The modes' state. -/
structure PwrSt where
  lockdown : Bool := false
  boot     : Bool := true
  calib    : Bool := false
  idle     : Bool := false
  sleep    : Option Sleep := none
  entry    : Option Entry := none
  waking   : Bool := false
  wakeAt   : Option Nat := none      -- tick of the timed wake (R458)
  timerEv  : List (Nat × Nat) := []  -- latched timer events (R464)
  lowFrom  : Option Nat := none      -- tick from which the comparator has been low (R471)
  lowAsk   : Nat := 0                -- tick of the last automatic request (R471)
  held     : Bool := false           -- held in reset until RESET_RELEASE (R599)
  tampers  : List Nat := []          -- sources fired in SLEEP or COL: their policies apply at the wake (R464)
  bootFrom : Option Sleep := none    -- BOOT follows a wake from DEEP SLEEP or OFF (R465)
  fired    : Bool := false           -- a source fired in this BOOT before the keys were unlocked (R542)
  lostVol  : List Nat := []          -- partitions that held volatile entries before the loss (R520)
  vddio    : Bool := true            -- VDDIO above 1.45 V (R595)
  svDog    : Nat := 0                -- tick at which SV's watchdog was last restarted (R538)
  deriving DecidableEq, Repr

end Sys2Proof.Machine
end

