-- ==== Sys2Proof/Machine/StateLate.lean ====
section
/-!
DEFINITION. The parts of State that the later chapters name (spec/13 to 23), as plain data.
-/

namespace Sys2Proof.Machine

/-! ## Keys (spec/13) -/

/-- A key of a partition: its owner key, an association's current or next key by local index, a general
key by number (R384, R385). -/
inductive KRef where
  | owner
  | cur (li : Nat)
  | next (li : Nat)
  | gen (n : Nat)
  deriving DecidableEq, Repr

/-- A key slot (R386): an unwrapped key. -/
structure KSlot where
  p    : Nat
  ref  : KRef
  key  : List Byte
  deriving DecidableEq, Repr

/-- The key slots, most recently used first, and the keys EV_KEY_LIMIT has been raised for (R387). -/
structure KeySt where
  slots : List KSlot := []
  noted : List (Nat × KRef) := []
  trngAt : Nat := 0               -- tick of the last health failure or restart of the TRNG (R374)
  deriving DecidableEq, Repr

/-! ## The regulatory and configuration area (spec/19) -/

/-- An open dual-image window as an orderly save records it (R356). -/
structure NvDual where
  slotA   : Nat := 0
  slotB   : Nat := 0
  ob      : Nat := 0
  endLeft : Nat := 0
  endAct  : Bool := false
  mboxImg : Nat := 0
  pvmap   : Nat := 0
  deriving DecidableEq, Repr

/-- A partition's configuration record: its descriptor, and where SV placed it. -/
structure NvPart where
  desc     : Desc := {}
  codeBase : Nat := 0
  dataBase : Nat := 0
  assocLo  : Nat := 0
  act      : Nat := 0           -- its active slot
  deriving DecidableEq, Repr

/-- What the regulatory and configuration area of the eNVM holds (R514); its layout is not given. -/
structure NvCfg where
  reg   : Option RegProf := none        -- the active regulatory profile (R210)
  sums  : Tab Nat := []                 -- duty sums by sub-band (R213)
  plan  : Option Plan := none           -- the active channel plan
  parts : Tab (Option NvPart) := []     -- the partitions' configuration records
  p0    : Option Desc := none           -- P0's descriptor (R268)
  gen   : Option Nat := none            -- the generation octet (R581)
  duals : Tab (Option NvDual) := []     -- open windows, by partition
  deriving DecidableEq, Repr

/-! ## Check-value units (spec/14) -/

/-- The parameters of a message: CRC_LCFGl's word, POLY, INIT, XOROUT and the expected value. -/
structure CrcPar where
  cfg  : Nat := 0
  poly : Nat := 0
  init : Nat := 0
  xor  : Nat := 0
  exp  : Nat := 0
  deriving DecidableEq, Repr

/-- A local slot of a partition (R400 to R404): with the general unit it holds, if any. -/
structure CrcSlot where
  unit    : Option Nat := none
  par     : CrcPar := {}          -- as written
  cur     : CrcPar := {}          -- as latched by the open message
  isOpen  : Bool := false
  reg     : Nat := 0
  pos     : Nat := 0
  trail   : Nat := 0
  res     : Nat := 0
  capv    : Bool := false
  valid   : Bool := false
  capt    : Nat := 0
  last    : Nat := 0
  cmpres  : Nat := 0
  alvres  : Nat := 0
  loanrej : Bool := false
  cfgrej  : Bool := false
  wrej    : Bool := false
  busy    : Bool := false         -- OPBUSY
  deriving DecidableEq, Repr

/-! ## Calibration (spec/19) -/

/-- A calibration step in progress (R505). -/
structure CalStep where
  item   : Nat
  forced : Bool := false
  chain  : Option Nat := none     -- the chain it blanks
  deriving DecidableEq, Repr

/-- A run of a calibration item in progress (R502 to R506). -/
structure CalRun where
  item   : Nat
  done   : Nat := 0               -- steps ended
  temp   : Nat := 0               -- CAL_TEMP.TJ at its first step
  regs   : List Nat := []         -- item 2: the regions it measures
  forced : Bool := false
  deriving DecidableEq, Repr

/-- Calibration: the run, the step in progress, and what CAL keeps. -/
structure CalSt where
  run     : Option CalRun := none
  step    : Option CalStep := none
  dueAt   : Tab Nat := []          -- by item: the tick it became due
  byRun   : List Nat := []         -- items due by RUN
  regions : List Nat := []         -- regions SYNT was commanded in since its last run (R502)
  drvBase : Tab (Option Nat) := [] -- DRVbase of PA gain entry e, as the record holds it (R510)
  gen     : Nat := 0               -- GEN of the newest valid record
  dirty   : Bool := false          -- a stored value changed since the last record
  recAt   : Option Nat := none     -- tick of the last record write asked for
  failAt  : Option Nat := none     -- tick of a failed record write (R513)
  fbAt    : Option Nat := none     -- tick of the last accepted CAL_XOFB write (R509)
  firstXo : Bool := true           -- no XO trim computed since this BOOT began (R508)
  deriving DecidableEq, Repr

/-- NVC beside its registers (R516, R519): the tick of the last checkpoint pass. -/
structure NvSt where
  passAt : Nat := 0
  writes : Nat := 0                -- the write-generation count (R485, R534)
  repair : Option Nat := none      -- the segment redirected for good, as SV's configuration record holds it (R574)
  deriving DecidableEq, Repr

/-! ## Domains, VCORE and retention (spec/18) -/

/-- RET beside its registers. -/
structure RetSt where
  drain   : List Nat := []         -- domains whose automatic power-down drains (R489)
  slewAt  : Nat := 0               -- tick and value from which VCORE slews (R493)
  slewFrom : Nat := 950
  biasOn  : Bool := false          -- the bias change in progress applies the bias; otherwise it removes it (R494)
  img     : Tab Nat := []          -- the retention image: register fields, as RET wrote them to Cairn (R497)
  aoImg   : Option (Tab Nat) := none  -- the AO fields saved on entry to OFF (R485)
  nvGen   : Nat := 0               -- the write-generation count saved at entry (R534)
  sums    : Tab Nat := []          -- duty sums by sub-band, as saved to Cairn at entry (R213)
  shed    : Bool := false          -- the supply lies below the shed threshold (R490)
  cut     : List Nat := []         -- domains cut by it
  padSv   : Bool := false          -- SV's pads are latched (R499)
  pads    : List Nat := []         -- GP pins latched (R499)
  padDrv  : List (Option Bool) := []  -- the levels GP0 to GP7, HIRQ_A and HIRQ_B are held at: none for one not driven
  deriving DecidableEq, Repr

/-! ## The Col link (spec/17) -/

/-- A Col transmit interval: partition, frequency word, first tick and length (R479). -/
structure ColIv where
  p    : Nat
  freq : Nat
  t    : Nat
  a    : Nat
  deriving DecidableEq, Repr

/-- The Col link beside its registers and its frames for transmission. -/
structure ColSt where
  keys    : Tab (List Byte) := []   -- the Col key store: owner keys by partition (R472)
  search  : Option Nat := none      -- tick at which the search after a sniff ends (R473)
  entered : Nat := 0                -- tick of entry
  mins    : Tab Nat := []           -- one-minute buckets: 2^40 times the sub-band, plus the minute (R479)
  last    : Tab Nat := []           -- end of the last Col interval by sub-band, a tick
  dwell   : List (Nat × Nat × Nat) := []   -- as AirSt.dwell, from the count held at entry
  ivs     : List ColIv := []        -- up to 64 intervals
  more    : List ColIv := []        -- further airtime
  frames  : List RxFrame := []      -- stored frames, oldest first
  count   : Nat := 0                -- beacon boundaries since the last Col beacon (R478)
  due     : Option Nat := none      -- boundary of the Col beacons to build
  ceAt    : Option Nat := none      -- tick at which CE's timer was last raised
  deriving DecidableEq, Repr

/-! ## Lifecycle and tamper (spec/20) -/

/-- The operations on a package (R528, R549, R551). -/
inductive PkgKind where
  | commission | exporting | importing
  deriving DecidableEq, Repr

/-- A package operation in progress. -/
structure PkgSt where
  kind   : Option PkgKind := none
  octs   : List Byte := []         -- export: the package; import: the octets supplied so far, decrypted
  pos    : Nat := 0                -- export: octets handed over
  code   : Code := .done           -- its outcome, once known
  deriving DecidableEq, Repr

/-- TMP beside its registers. -/
structure TmpSt where
  loopBad : Nat := 0               -- consecutive mismatches of the loop (R541)
  tempBad : Nat := 0               -- consecutive samples out of range (R539)
  fails   : List Nat := []         -- ticks of the failures that count towards AUTHF (R539)
  pkg     : PkgSt := {}
  deriving DecidableEq, Repr

/-! ## Debug port and tests (spec/21) -/

/-- A breakpoint (R570). -/
structure BreakPt where
  on   : Bool := false
  ctx  : Nat := 0
  addr : Nat := 0
  deriving DecidableEq, Repr

/-- A watchpoint (R570). -/
structure WatchPt where
  kind : Nat := 0              -- 0 off, 1 read, 2 write, 3 both
  ctx  : Nat := 0
  addr : Nat := 0
  mask : Nat := 0
  deriving DecidableEq, Repr

/-- A challenge outstanding (R561): its scope, its octets, the tick it was issued. -/
structure Chal where
  scope : Nat
  octs  : List Byte
  at_   : Nat
  deriving DecidableEq, Repr

/-- The debug port's session, its points and its last response. -/
structure DbgSt where
  scope  : Option Nat := none      -- the open session's
  chal   : Option Chal := none
  failAt : Option Nat := none      -- tick of a failed token (R546, R561)
  lastAt : Nat := 0                -- tick of the last request that passed its CRC (R563)
  brk    : Tab BreakPt := []
  wat    : Tab WatchPt := []
  resp   : List Byte := []         -- the last response: STATUS, then its payload
  rstDue : Bool := false           -- a DEBUG reset follows the response (R560)
  bkpt   : Nat := 0                -- n of the last BKPT reported to the port (R309, R315)
  deriving DecidableEq, Repr

/-- A test in progress (R572 to R575). -/
structure TestSt where
  kind  : Nat
  index : Nat
  step  : Nat := 0             -- loopback steps done
  start : Nat := 0             -- its tick
  bad   : Bool := false        -- a loopback step has failed
  sv    : Bool := false        -- SV runs it for a RETURNING chain (R575)
  abort : Bool := false        -- ABORT written (R577)
  deriving DecidableEq, Repr

end Sys2Proof.Machine
end

