-- ==== Sys2Proof/Machine/State.lean ====
section
/-!
DEFINITION. The state of the block: every register field, memory, and for each chapter of the spec
what it names beyond registers; the queue of waiting commands; the state right after reset.
-/

namespace Sys2Proof.Machine

/-- The block's state. -/
structure State where
  regs    : Tab Nat := []        -- register fields that differ from their reset values
  mem     : Tab Byte := []       -- the physical address map of R8
  fresh   : Nat := 0             -- the model's own: free values drawn so far
  drbg    : Nat := 0             -- octets drawn from the DRBG (R373)
  clk     : ClkSt := {}
  tbs     : TbsSt := {}
  syn     : Tab SynSt := []
  parts   : Tab Part := []
  progs   : Tab Prog := []
  eng     : Tab EngSt := []
  seqs    : Tab SeqSt := []
  sv      : SvSt := {}
  sysImg  : Tab ImgSlot := []    -- image slots of kinds 0, 2, 3 and 4: 2 * kind + slot (R346)
  creation : Option Creation := none
  chain   : Tab Chain := []
  slots   : Tab Slot := []
  chb     : ChbSt := {}
  trl     : TrlSt := {}
  rxNext  : Nat := 0             -- frames put into quarantine so far
  txs     : List Tx := []        -- frames for transmission, in the order of their draws (R284)
  txm     : TxmSt := {}
  air     : AirSt := {}
  asc     : Tab AscEnt := []     -- by physical entry
  mbox    : Tab Mbox := []       -- by partition
  ports   : Tab Port := []       -- SPI 0, UART 1
  uart    : UartSt := {}
  pwr     : PwrSt := {}
  rx      : Tab (Option RxFrame) := []   -- by slot; 128 + slot for a frame recovered from a residual; 256 + n in quarantine
  key     : KeySt := {}
  crcs    : Tab CrcSlot := []    -- local slot l of partition p: 8 * p + l
  p0new   : Option Desc := none  -- P0's descriptor from the next device reset on (R268)
  cal     : CalSt := {}
  nv      : NvCfg := {}
  nvs     : NvSt := {}
  ret     : RetSt := {}
  tmp     : TmpSt := {}
  col     : ColSt := {}
  dbg     : DbgSt := {}
  test    : Option TestSt := none
  evOut   : Tab Nat := []        -- by GP pin: end of its EVOUT pulse, in fractions (R596)
  nvq     : List NvReq := []     -- eNVM writes waiting, oldest first (R515)
  scrSeq  : Nat := 0             -- SEQ of the newest Scree entry (R521)
  pending : List Instr := []     -- commands waiting, first in first out
  deriving DecidableEq, Repr

/-- Why a run stops. No meaning raises a fault: an access the spec forbids takes the fault entry the
spec describes (R271, R344, R11), which is a next state. -/
inductive Fault where
  /-- Raised by nothing; safe. -/
  | none
  deriving DecidableEq, Repr

/-- Why a command has no meaning. -/
inductive Refusal where
  /-- Raised by an arm of exec whose command has no meaning yet; safe. -/
  | notModelled (mnemonic : String)
  deriving DecidableEq, Repr

/-- The machine right after a power-on reset (R538, POR): every register at its table's value, the
XO starting (R30), BOOT in progress, supervisor area A holding the image the device left the factory with (R532). -/
def State.reset : State :=
  { clk := { xo := .start }, sysImg := [(0, { st := .active })] }

end Sys2Proof.Machine
end

