-- ==== Sys2Proof/Machine/Ops.lean ====
section
/-!
DEFINITION. The named operations over State that every chapter uses: register fields, memory,
partitions, contexts, events (R277), the Scree log (R521), free values.
-/

namespace Sys2Proof.Machine

open Reg

/-! ## Register fields -/

/-- The value of a register field. -/
def State.get (s : State) (F : Fld) : Nat := Tab.get F.rst s.regs F.key

/-- The state with a register field set; what its width does not hold is lost. -/
def State.set (s : State) (F : Fld) (v : Nat) : State :=
  { s with regs := Tab.set F.rst s.regs F.key (v % 2 ^ F.w) }

/-- A one-bit field as a truth value. -/
def State.flag (s : State) (F : Fld) : Bool := decide (s.get F ≠ 0)

/-- Setting a one-bit field. -/
def State.setB (s : State) (F : Fld) (b : Bool) : State := s.set F b.toNat

/-- A counter field that saturates at its largest value. -/
def State.count (s : State) (F : Fld) (n : Nat) : State := s.set F (min (s.get F + n) (2 ^ F.w - 1))

/-- Setting several fields, first to last. -/
def State.sets (s : State) (l : List (Fld × Nat)) : State := l.foldl (fun s e => s.set e.1 e.2) s

/-- Writing a field's bits of a register word; a value its table reserves leaves the field (R6). -/
def State.putFld (s : State) (w : Nat) (F : Fld) : State :=
  if F.allows (bits w F.lo F.w) then s.set F (bits w F.lo F.w) else s

/-- Writing the fields of a list from a register word. -/
def State.putFlds (s : State) (w : Nat) (l : List Fld) : State := l.foldl (fun s F => s.putFld w F) s

/-- Saddle's parameters take effect at a refill boundary (R281): the value in force. -/
def State.inForce (s : State) (F : Fld) : Nat := s.get (F.at 200)

/-! ## Memory (R8, R4) -/

/-- What an address nothing has written reads as. DESIGN CHOICE: the spec gives no contents. -/
def memDefault : Byte := 0

/-- The canonical form of memory: addresses strictly rising, no octet equal to what an unlisted address reads as. -/
def Memory.wf (m : List (Nat × Byte)) : Bool := Tab.wf memDefault m

/-- One octet of memory. -/
def State.byte (s : State) (a : Nat) : Byte := Tab.get memDefault s.mem a

/-- The state with one octet stored. -/
def State.setByte (s : State) (a : Nat) (b : Byte) : State := { s with mem := Tab.set memDefault s.mem a b }

/-- `n` octets from an address. -/
def State.octs (s : State) (a : Nat) : Nat → List Byte
  | 0 => []
  | n + 1 => s.byte a :: s.octs (a + 1) n

/-- Storing octets from an address on. -/
def State.store (s : State) (a : Nat) : List Byte → State
  | [] => s
  | b :: t => (s.setByte a b).store (a + 1) t

/-- The number `n` octets spell, least significant first (R4). -/
def State.num (s : State) (a n : Nat) : Nat := ofOctets (s.octs a n)

/-- Storing a number in `n` octets, least significant first (R4). -/
def State.putNum (s : State) (a n v : Nat) : State := s.store a (octets n v)

/-- Zeroing `n` octets. -/
def State.zero (s : State) (a n : Nat) : State :=
  { s with mem := s.mem.filter fun e => decide (e.1 < a ∨ a + n ≤ e.1) }

/-- Copying `n` octets of memory, the destination zeroed first. -/
def State.copy (s : State) (src dst n : Nat) : State :=
  let l := s.mem.filter fun e => decide (src ≤ e.1 ∧ e.1 < src + n)
  l.foldl (fun s e => s.setByte (e.1 - src + dst) e.2) (s.zero dst n)

/-! ## Numbered parts of the state -/

/-- A partition's record. -/
def State.part (s : State) (p : Nat) : Part := Tab.get {} s.parts p
/-- The state with a partition's record changed. -/
def State.updPart (s : State) (p : Nat) (f : Part → Part) : State := { s with parts := Tab.upd {} s.parts p f }
/-- A context, by its number: 0 to 31 a partition's image A, 32 SV, 33 RSA, 34 RSB, 35 CE (R12), 64 + p image B. -/
def State.prog (s : State) (k : Nat) : Prog := Tab.get {} s.progs k
/-- The state with a context changed. -/
def State.updProg (s : State) (k : Nat) (f : Prog → Prog) : State := { s with progs := Tab.upd {} s.progs k f }
/-- A synthesiser. -/
def State.synth (s : State) (x : Nat) : SynSt := Tab.get {} s.syn x
/-- The state with a synthesiser changed. -/
def State.updSynth (s : State) (x : Nat) (f : SynSt → SynSt) : State := { s with syn := Tab.upd {} s.syn x f }
/-- A MAC engine's turn. -/
def State.engine (s : State) (e : Nat) : EngSt := Tab.get {} s.eng e
/-- The state with a MAC engine's turn changed. -/
def State.updEngine (s : State) (e : Nat) (f : EngSt → EngSt) : State := { s with eng := Tab.upd {} s.eng e f }
/-- A sequencer, RSA 0 or RSB 1. -/
def State.seqr (s : State) (x : Nat) : SeqSt := Tab.get {} s.seqs x
/-- The state with a sequencer changed. -/
def State.updSeqr (s : State) (x : Nat) (f : SeqSt → SeqSt) : State := { s with seqs := Tab.upd {} s.seqs x f }

/-- The number of a context. -/
def ctxNum : Ctx → Nat
  | .part p false => p
  | .part p true => 64 + p
  | .sv => 32
  | .rsa => 33
  | .rsb => 34
  | .ce => 35

/-- The bus tag a context acts under (R12). -/
def ctxTag : Ctx → Nat
  | .part p _ => p
  | .sv => 32
  | .rsa => 33
  | .rsb => 34
  | .ce => 35

/-- The partitions' numbers. -/
def allParts : List Nat := List.range 32

/-- A partition's state (PRT_PSTATp.STATE). -/
def State.pstate (s : State) (p : Nat) : Nat := s.get (PRT_PSTATp_STATE p)

/-- Whether a partition exists: its state is not ABSENT. -/
def State.pexists (s : State) (p : Nat) : Bool := decide (p < 32 ∧ s.pstate p ≠ 0)

/-- The partitions that exist, in order of number. -/
def State.live (s : State) : List Nat := allParts.filter s.pexists

/-- A state changed once for each number of a list. -/
def State.each (s : State) (l : List Nat) (f : State → Nat → State) : State := l.foldl f s

/-! ## Time (R37) -/

/-- The whole ticks of the timebase. -/
def State.tick (s : State) : Nat := s.tbs.now / 64

/-! ## Free values -/

/-- A free value of `w` bits, and the state with it drawn. -/
def State.free (s : State) (w : Nat) : Nat × State :=
  (Config.freeValue s.fresh % 2 ^ w, { s with fresh := s.fresh + 1 })

/-- `n` octets of the DRBG (R373), and the state with them drawn. -/
def State.random (s : State) (n : Nat) : List Byte × State :=
  ((List.range n).map fun i => Config.drbgOctet (s.drbg + i), { s with drbg := s.drbg + n })

/-! ## Events (R276 to R279) -/

/-- The bank a context reads its program-side latches in: image B of a dual-image window has its own (R353). -/
def latchBank (p : Nat) (imgB : Bool) : Nat := if imgB then 32 + p else p

/-- The program-side half of a raise (R277): PEC_PEND set, PEC_OVF where it was set already. -/
def State.raiseProg (s : State) (b k : Nat) : State :=
  let pend := s.get (PEC_PEND_PEND.at b)
  let s := if pend.testBit k then s.set (PEC_OVF_OVF.at b) (s.get (PEC_OVF_OVF.at b) ||| 2 ^ k) else s
  s.set (PEC_PEND_PEND.at b) (pend ||| 2 ^ k)

/-- The host-side half of a raise (R277). -/
def State.raiseHost (s : State) (p k : Nat) : State :=
  s.set (PEC_HPEND_HPEND.at p) (s.get (PEC_HPEND_HPEND.at p) ||| 2 ^ k)

/-- Whether an event exists in a partition: EV_TAMPER and EV_REGULATORY exist in P0 only (R276). -/
def evIn (p : Nat) (e : Ev) : Bool := p = 0 || decide (e.bit < 24)

/-- Raising an event for one image of a partition (R353). -/
def State.raiseImg (s : State) (p : Nat) (imgB : Bool) (e : Ev) : State :=
  if s.pexists p && evIn p e then
    (s.raiseProg (latchBank p (imgB && (s.part p).dual.isSome)) e.bit).raiseHost p e.bit
  else s

/-- Raising an event in a partition: both images of a dual-image window see it (R277, R353). -/
def State.raise (s : State) (p : Nat) (e : Ev) : State :=
  if s.pexists p && evIn p e then
    let s' := s.raiseProg p e.bit
    (if (s.part p).dual.isSome then s'.raiseProg (latchBank p true) e.bit else s').raiseHost p e.bit
  else s

/-- Raising an event in every partition (R28). -/
def State.raiseAll (s : State) (e : Ev) : State := s.each s.live fun s p => s.raise p e

/-- Raising an event in the partitions of a bit mask. -/
def State.raiseMask (s : State) (mask : Nat) (e : Ev) : State :=
  s.each (s.live.filter fun p => mask.testBit p) fun s p => s.raise p e

/-! ## Scree (R521) -/

/-- Asking NVC to write a Scree entry: source block, partition octet class, code and data octets. -/
def State.scree (s : State) (src code cls : Nat) (data : List Byte) (part : Nat := 0) : State :=
  { s with nvq := s.nvq ++ [.scree s.tbs.now (s.flag TBS_STAT_DISCONT) code src part cls data] }

/-! ## CRC (R398 has the sets; R396 the calculation) -/

/-- One bit into a CRC register of `w` bits, most significant bit first. -/
def crcBit (w poly : Nat) (reg : Nat) (b : Bool) : Nat :=
  let top := reg.testBit (w - 1)
  let r := (reg * 2) % 2 ^ w
  if top != b then r ^^^ poly else r

/-- The bits of an octet, in the order they are fed: least significant first where input is reflected. -/
def octBits (refl : Bool) (b : Byte) : List Bool :=
  let l := (List.range 8).map fun i => b.toNat.testBit i
  if refl then l else l.reverse

/-- The low `w` bits of a number in reverse order. -/
def reverseBits (w n : Nat) : Nat :=
  (List.range w).foldl (fun acc i => if n.testBit i then acc + 2 ^ (w - 1 - i) else acc) 0

/-- A CRC over octets: width, polynomial, initial value, reflections, final XOR. -/
def crc (w poly init : Nat) (refin refout : Bool) (xorout : Nat) (l : List Byte) : Nat :=
  let r := (l.flatMap (octBits refin)).foldl (crcBit w poly) init
  (if refout then reverseBits w r else r) ^^^ xorout

/-- The CRC-32 set of R398: polynomial 0x04C11DB7. -/
def crc32 (l : List Byte) : Nat := crc 32 0x04C11DB7 0xFFFFFFFF true true 0xFFFFFFFF l
/-- The CRC-32C set of R398: polynomial 0x1EDC6F41. -/
def crc32c (l : List Byte) : Nat := crc 32 0x1EDC6F41 0xFFFFFFFF true true 0xFFFFFFFF l

end Sys2Proof.Machine
end

