-- ==== Sys2Proof/Machine/ChbOps.lean ====
section
/-!
DEFINITION. Shared operations of the receive chains and the channel bank: which chain a slot reads
(R88, R98), the state a slot reports (R106, R107), losing frames (R141), the FALLBACK ranking (R139).
-/

namespace Sys2Proof.Machine

open Reg

/-- A receive chain. -/
def State.chn (s : State) (x : Nat) : Chain := Tab.get {} s.chain x
/-- The state with a chain changed. -/
def State.updChain (s : State) (x : Nat) (f : Chain → Chain) : State := { s with chain := Tab.upd {} s.chain x f }
/-- A slot. -/
def State.slot (s : State) (k : Nat) : Slot := Tab.get {} s.slots k
/-- The state with a slot changed. -/
def State.updSlot (s : State) (k : Nat) (f : Slot → Slot) : State := { s with slots := Tab.upd {} s.slots k f }
/-- The slots' numbers. -/
def allSlots : List Nat := List.range 128

/-- A word of a plan: header words 0 to 3, then ten words for each slot (R108). -/
def Plan.word (pl : Plan) (i : Nat) : Nat := Tab.get 0 pl.words i
/-- Word `w` of a slot's descriptor (R110). -/
def Plan.desc (pl : Plan) (k w : Nat) : Nat := pl.word (4 + 10 * k + w)
/-- Word `w` of a slot's descriptor in the active plan, 0 without one. -/
def State.desc (s : State) (k w : Nat) : Nat := match s.chb.active with | some pl => pl.desc k w | none => 0

/-- EN of a slot's descriptor. -/
def State.slotEn (s : State) (k : Nat) : Bool := bit (s.desc k 0) 31
/-- OWNERS of a slot (R110). -/
def State.owners (s : State) (k : Nat) : Nat := s.desc k 1
/-- FMT of a slot. -/
def State.slotFmt (s : State) (k : Nat) : Nat := bits (s.desc k 0) 24 4
/-- SUBSET of a slot. -/
def State.subset (s : State) (k : Nat) : Bool := bit (s.desc k 0) 29
/-- FBPRI of a slot. -/
def State.fbpri (s : State) (k : Nat) : Nat := bits (s.desc k 3) 0 8

/-- Combined operation in force (R88). -/
def State.combined (s : State) : Bool := s.flag (RXx_STAT_COMBACT 0)

/-- RXx_STAT.SVC: 0 IN, 1 DRAINING, 2 OUT, 3 RETURNING. -/
def State.svc (s : State) (x : Nat) : Nat := s.get (RXx_STAT_SVC x)
/-- Whether a chain still serves slots: IN or DRAINING. -/
def State.inService (s : State) (x : Nat) : Bool := s.svc x = 0 || s.svc x = 1

/-- The chain a slot reads in split operation: its own, or the remaining one for a subset slot (R88, R98). -/
def State.slotChain (s : State) (k : Nat) : Nat :=
  let x := k / 64 % 2
  if s.inService x || !s.inService (1 - x) then x else 1 - x

/-- The radio is stopped: in BOOT, LOCKDOWN, a sleep mode and during CALIBRATE (R456, R467, R468), from step 3 of
an entry to a sleep mode on (R460), and during an export (R549). -/
def State.radioOff (s : State) : Bool :=
  s.pwr.lockdown || s.pwr.boot || s.pwr.sleep.isSome || s.pwr.calib || s.flag TMP_LCSTAT_EXPORT ||
    (match s.pwr.entry with | some e => e.steps | none => false)

/-- AIR works: enabled (R619), with the radio not stopped. -/
def State.airOn (s : State) : Bool := s.flag AIR_CTL_EN && !s.radioOff

/-- The causes that keep one chain's bins from a slot: disabled, retune, calibration, RXARM, out of service. -/
def State.chainOff (s : State) (x : Nat) : Bool :=
  !s.flag (RXx_CTL_EN x) || (s.chn x).blRet || (s.chn x).blCal || (s.chn x).blArm || (s.chn x).follow || !s.inService x || s.radioOff

/-- Whether the transmit blanking is in force (R93). -/
def State.txBlank (s : State) : Bool := s.txm.blank

/-- Whether a slot is blanked (R106, R107); `tx` is the transmit blanking. -/
def State.slotBlank (s : State) (tx : Bool) (k : Nat) : Bool :=
  tx || (if s.combined then s.chainOff 0 && s.chainOff 1 else s.chainOff (s.slotChain k))

/-- Whether a slot is unreliable: its chain's synthesiser lost lock; in combined operation both (R73). -/
def State.slotUnrel (s : State) (k : Nat) : Bool :=
  if s.combined then (s.chn 0).unrel && (s.chn 1).unrel else (s.chn (s.slotChain k)).unrel

/-- The state code a slot reports (R106), the first cause of R107. -/
def State.slotState (s : State) (tx : Bool) (k : Nat) : Nat :=
  if !s.flag CHB_CTL_EN || !s.slotEn k then 0
  else if (s.slot k).suspFb || (s.slot k).suspRem then 6
  else if s.slotBlank tx k then 4
  else if s.slotUnrel k then 5
  else if (Tab.get none s.rx k).isSome then 3
  else if (s.slot k).searches.isEmpty then 1
  else 2

/-- The received frame under a number. -/
def State.frame (s : State) (fid : Nat) : Option RxFrame := Tab.get none s.rx fid
/-- The state with a received frame put under a number, or removed. -/
def State.setFrame (s : State) (fid : Nat) (f : Option RxFrame) : State := { s with rx := Tab.set none s.rx fid f }

/-- Airtime returned to a partition's bucket (R283). -/
def State.refund (s : State) (p a : Nat) : State := s.updPart p fun P => { P with level := P.level + (a : Nat) }

/-- Withdrawing what was reserved to acknowledge a received frame and is not yet released: its
airtime returns, a group entry with it (R21). -/
def State.dropAck (s : State) (fid : Nat) : State :=
  let mine := s.txs.filter fun r => decide (r.kind = .ack fid ∧ r.stage = .fixed)
  let gone := s.air.gents.filter fun g => decide (g.fid = fid) && !g.ok
  let s := { s with
    txs := s.txs.filter fun r => !decide (r.kind = .ack fid ∧ r.stage = .fixed)
    air := { s.air with gents := s.air.gents.filter fun g => !(decide (g.fid = fid) && !g.ok) } }
  let s := mine.foldl (fun s r => s.refund r.p r.air) s
  gone.foldl (fun s g => (s.refund g.p g.air).set (AIR_PACK_GPEND.at g.p) (s.get (AIR_PACK_GPEND.at g.p) - 1)) s

/-- Ending a received frame: its context closed, its blocks wiped, its reservation withdrawn (R183). -/
def State.endFrame (s : State) (fid : Nat) : State :=
  match s.frame fid with
  | none => s
  | some f =>
    let s := (s.dropAck fid).setFrame fid none
    let s := { s with trl := {
      dec := s.trl.dec.filter fun e => e.2 ≠ some fid
      wait := s.trl.wait.filter fun c => c ≠ fid } }
    s.set PKT_RXREG_INUSE (s.get PKT_RXREG_INUSE - f.blocks)

/-- Abandoning a slot's sync searches and its canceller, with the frame it was recovering (R107, R132). -/
def State.quietSlot (s : State) (k : Nat) : State :=
  let s := s.endFrame (128 + k)
  let s := if (s.slot k).sic.isSome then
      (s.set CHB_SICSTAT_INUSE (s.get CHB_SICSTAT_INUSE - 1)).count (CHB_LOSTA_OVERLAP.at k) 1
    else s
  s.updSlot k fun t => { t with searches := [], sic := none }

/-- Losing what a slot receives, counted in `F` of the slot where a frame is lost (R141). -/
def State.loseSlot (s : State) (F : Fld) (k : Nat) : State :=
  let s := if (s.frame k).isSome then (s.endFrame k).count (F.at k) 1 else s
  s.quietSlot k

/-- Losing what the slots of a list receive. -/
def State.loseSlots (s : State) (F : Fld) (l : List Nat) : State := s.each l fun s k => s.loseSlot F k

/-- The slots that read a chain: in combined operation every slot. -/
def State.chainSlots (s : State) (x : Nat) : List Nat :=
  if s.combined then allSlots else allSlots.filter fun k => decide (s.slotChain k = x)

/-- Every partition named in the OWNERS of a list of enabled slots. -/
def State.ownersOf (s : State) (l : List Nat) : Nat :=
  (l.filter s.slotEn).foldl (fun m k => m ||| s.owners k) 0

/-- Blanking the slots of a chain for a commanded retune (R59): frames lost without an event. -/
def State.chainRetune (s : State) (x : Nat) : State :=
  let s := s.updChain x fun c => { c with blRet := true, unrel := false }
  let s := s.set (RXx_STAT_READY x) 0
  if s.combined then
    (if s.chainOff (1 - x) then s.loseSlots CHB_LOSTB_OTHER (s.chainSlots x) else s)
  else (s.loseSlots CHB_LOSTB_OTHER (s.chainSlots x)).set (RXx_STAT_BLANK x) 1

/-- LOCK rises on a chain's synthesiser: the retune blanking and the unreliable mark end (R59, R73). -/
def State.chainLocked (s : State) (x : Nat) : State :=
  let s := s.updChain x fun c => { c with blRet := !s.flag (RXx_CTL_EN x), unrel := false, lockAt := s.tbs.now, upAt := s.tbs.now }
  let s := s.setB (RXx_STAT_READY x) (!s.chainOff x && !s.txBlank)
  s.setB (RXx_STAT_BLANK x) (s.txBlank || s.chainOff x)

/-- A chain's synthesiser loses lock (R73). -/
def State.chainLost (s : State) (x : Nat) : State :=
  let own := s.ownersOf (s.chainSlots x)
  let s := (s.updChain x fun c => { c with unrel := true }).set (RXx_STAT_READY x) 0
  let s :=
    if s.combined then
      (if (s.chn (1 - x)).unrel || s.chainOff (1 - x) then s.loseSlots CHB_LOSTB_OTHER allSlots else s)
    else s.loseSlots CHB_LOSTB_OTHER (s.chainSlots x)
  s.raiseMask own .lockLoss

/-! ## FALLBACK ranking (R139, R140) -/

/-- Slots of a list in order of FBPRI, equal ones by number: insertion by rank. -/
def State.rankIns (s : State) (k : Nat) : List Nat → List Nat
  | [] => [k]
  | j :: t => if s.fbpri k < s.fbpri j then k :: j :: t else j :: s.rankIns k t

/-- The ranking of a group of slots given in order of number. -/
def State.ranked (s : State) (l : List Nat) : List Nat :=
  l.foldl (fun acc k => s.rankIns k acc) []

/-- The slots that take part in the ranking: enabled, not energy only, not left out by a removal. -/
def State.rankable (s : State) (l : List Nat) : List Nat :=
  l.filter fun k => s.slotEn k && decide (s.slotFmt k ≠ 0) && !(s.slot k).suspRem

/-- The groups of R139 and the number kept in each. -/
def State.fbGroups (s : State) : List (List Nat × Nat) :=
  if s.combined then [(allSlots, 64)]
  else if s.inService 0 && s.inService 1 then
    [(List.range 64, 32), ((List.range 64).map (· + 64), 32)]
  else [(allSlots.filter s.subset, 32)]

/-- The slots a FALLBACK ranking keeps. -/
def State.fbKept (s : State) : List Nat :=
  s.fbGroups.flatMap fun g => (s.ranked (s.rankable g.1)).take g.2

/-- The slots a FALLBACK ranking suspends. -/
def State.fbOut (s : State) : List Nat :=
  let kept := s.fbKept
  (s.rankable (s.fbGroups.flatMap fun g => g.1)).filter fun k => !kept.contains k

/-- CHB_STAT.ACTIVE and CHB_SUSPn, from the slots (R143). -/
def State.chbCount (s : State) : State :=
  let susp := fun k => s.slotEn k && ((s.slot k).suspFb || (s.slot k).suspRem)
  let act := (allSlots.filter fun k => s.slotEn k && !susp k).length
  let mask := fun n => (List.range 32).foldl (fun m j => if susp (32 * n + j) then m + 2 ^ j else m) 0
  ((((s.set CHB_STAT_ACTIVE act).set (CHB_SUSPn_SUSP 0) (mask 0)).set (CHB_SUSPn_SUSP 1) (mask 1)).set
    (CHB_SUSPn_SUSP 2) (mask 2)).set (CHB_SUSPn_SUSP 3) (mask 3)

/-- Ranking the bank in FALLBACK: slots outside the kept number become SUSPENDED, their frames lost (R139). -/
def State.fbRank (s : State) : State :=
  let out := s.fbOut
  let kept := s.fbKept
  let fresh := out.filter fun k => !(s.slot k).suspFb
  let own := s.ownersOf fresh
  let s := s.loseSlots CHB_LOSTB_OTHER fresh
  let s := s.each allSlots fun s k =>
    s.updSlot k fun t => { t with suspFb := out.contains k, fbKeep := kept.contains k }
  ((s.set CHB_STAT_FBRANK 1).chbCount).raiseMask own .slotSuspended

/-- The ranking ends with FALLBACK (R140). -/
def State.fbUnrank (s : State) : State :=
  let s := s.each allSlots fun s k => s.updSlot k fun t => { t with suspFb := false, fbKeep := false }
  (s.set CHB_STAT_FBRANK 0).chbCount

end Sys2Proof.Machine
end

