-- ==== Sys2Proof/Machine/HifOps.lean ====
section
/-!
DEFINITION. Shared operations of partition memory windows (R269), host messages (R411 to R423) and
tickets (R316 to R319).
-/

namespace Sys2Proof.Machine

open Reg

/-! ## Windows (R269) -/

/-- The first address of a partition's data window. -/
def dataFirst : Nat := 0x10000000
/-- The first address of a partition's packet window. -/
def pktFirst : Nat := 0x20000000

/-- The physical address of an octet of a partition's data window. -/
def State.physData (s : State) (p a : Nat) : Option Nat :=
  if dataFirst ≤ a ∧ a < dataFirst + 4096 * (s.part p).desc.dataG then some ((s.part p).dataBase + (a - dataFirst)) else none

/-- The physical address of an octet of a partition's packet window, mapped granule by granule (R267). -/
def State.physPkt (s : State) (p a : Nat) : Option Nat :=
  if pktFirst ≤ a ∧ a < pktFirst + 4096 * (s.part p).gran.length then
    some (pktFirst + 4096 * (s.part p).gran.getD ((a - pktFirst) / 4096) 0 + (a - pktFirst) % 4096)
  else none

/-- The physical address of an octet of a partition's data or packet window. -/
def State.physWin (s : State) (p a : Nat) : Option Nat :=
  match s.physData p a with
  | some x => some x
  | none => s.physPkt p a

/-- Whether `n` octets from an address lie wholly in the data or packet window. -/
def State.inWin (s : State) (p a n : Nat) : Bool :=
  (s.physWin p a).isSome && (n = 0 || ((s.physWin p (a + n - 1)).isSome && decide (a / 0x10000000 = (a + n - 1) / 0x10000000)))

/-- Whether `n` octets from an address lie wholly in the packet window. -/
def State.inPkt (s : State) (p a n : Nat) : Bool :=
  (s.physPkt p a).isSome && (n = 0 || (s.physPkt p (a + n - 1)).isSome)

/-- An octet of a partition's data or packet window, 0 outside. -/
def State.winByte (s : State) (p a : Nat) : Byte := match s.physWin p a with | some x => s.byte x | none => 0

/-- Octets of a partition's data or packet window. -/
def State.winOcts (s : State) (p a : Nat) : Nat → List Byte
  | 0 => []
  | n + 1 => s.winByte p a :: s.winOcts p (a + 1) n

/-- Storing octets into a partition's data or packet window; octets outside are not stored. -/
def State.winStore (s : State) (p a : Nat) : List Byte → State
  | [] => s
  | b :: t => (match s.physWin p a with | some x => s.setByte x b | none => s).winStore p (a + 1) t

/-! ## Messages -/

/-- The octets of header and payload of a message (R411). -/
def Msg.size (m : Msg) : Nat := 8 + m.body.length

/-- A partition's mailboxes. -/
def State.mb (s : State) (p : Nat) : Mbox := Tab.get {} s.mbox p
/-- The state with a partition's mailboxes changed. -/
def State.updMb (s : State) (p : Nat) (f : Mbox → Mbox) : State := { s with mbox := Tab.upd {} s.mbox p f }
/-- A host port's transaction state: SPI 0, UART 1. -/
def State.port (s : State) (x : Nat) : Port := Tab.get {} s.ports x
/-- The state with a port's transaction state changed. -/
def State.updPort (s : State) (x : Nat) (f : Port → Port) : State := { s with ports := Tab.upd {} s.ports x f }

/-- The port a partition is bound to (R265, R268). -/
def State.portOf (s : State) (p : Nat) : Nat := if p = 0 then s.get HIF_CTL_P0PORT else (s.part p).desc.port

/-- Octets an outgoing mailbox holds, its stored response included until it is discarded (R423). -/
def Mbox.outOcts (b : Mbox) : Nat :=
  (b.outq.map Msg.size).sum +
    match b.stored with
    | some st => if st.retired then (match st.msg with | some m => m.size | none => 0) else 0
    | none => 0

/-- Whether the outgoing mailbox has room for a message of `n` octets (R423). -/
def Mbox.room (b : Mbox) (n : Nat) : Bool := decide (b.outq.length < 16 ∧ b.outOcts + n ≤ 4096)

/-- Octets a port carries in 1 ms: the SPI port at its clock limit (R438), the UART at its rate and
character time (R442, R440; DEDUCED). -/
def State.portOctets (s : State) (x : Nat) : Rat :=
  if x = 0 then (if s.flag CLK_STAT_SPILIM then 1000 else 2000)
  else
    let fb := s.flag CLK_STAT_FALLBACK
    let bt := if fb then (s.get UART_SHDIV_INT : Rat) + (s.get UART_SHDIV_FRAC : Rat) / 16
      else (s.get UART_DIV_INT : Rat) + (s.get UART_DIV_FRAC : Rat) / 16
    let c : Rat := 9 + (if s.get UART_FMT_PAR = 0 then 0 else 1) + 1 + (s.get UART_FMT_STOP : Rat) / 2
    (if fb then 32000 else 64000) / (bt * c)

/-- The cost of serving the head of a partition's outgoing mailbox: the message's octets. -/
def State.headCost (s : State) (p : Nat) : Nat := match (s.mb p).outq with | m :: _ => m.size + 4 | [] => 0

/-- The partition a host port serves next, of those with a message waiting (R286). -/
def State.portNext (s : State) (x : Nat) (c : List Nat) : Option Nat :=
  let headAt := fun p => match (s.mb p).outq with | m :: _ => m.at_ | [] => 0
  let under := c.filter fun p => ((s.part p).usedHif : Rat) < (s.inForce (SAD_HIFp_FLOOR p) : Rat) / 100 * s.portOctets x
  let pick := fun (f : Nat → Rat) (l : List Nat) => l.foldl (fun (b : Option Nat) p => match b with
    | none => some p
    | some q => if f p < f q then some p else b) none
  if under.isEmpty then pick (fun p => (s.part p).vHif) c else pick (fun p => (headAt p : Rat)) under

/-- A host port with nothing in flight and nothing offered: Saddle chooses the next message (R286, R435). -/
def State.offerNext (s : State) (x : Nat) : State :=
  let P := s.port x
  if P.cur.isSome || P.offer.isSome then s
  else
    let c := s.live.filter fun p => decide (s.portOf p = x) && !(s.mb p).outq.isEmpty
    match s.portNext x c with
    | none => s
    | some p =>
      let vmin := c.foldl (fun (m : Rat) q => min m (s.part q).vHif) (s.part p).vHif
      let k := s.headCost p
      let s := s.updPart p fun r => { r with
        vHif := max r.vHif vmin + (k : Rat) / ((max 1 (s.inForce (SAD_HIFp_WEIGHT p)) : Nat) : Rat)
        usedHif := r.usedHif + k }
      s.updPort x fun r => { r with offer := some p }

/-- Both ports with what no longer stands dropped: a partition gone, moved to the other port or with
nothing queued; then the next offers. -/
def State.reoffer (s : State) : State :=
  [0, 1].foldl (fun s x =>
    let ok := fun p => s.pexists p && decide (s.portOf p = x) && !(s.mb p).outq.isEmpty
    let s := s.updPort x fun r => { r with
      cur := r.cur.filter ok
      offer := r.offer.filter ok
      sent := r.sent && (r.cur.filter ok).isSome }
    s.offerNext x) s

/-! ## The ports (R433, R435, R447) -/

/-- A device-to-host message as the port sends it. -/
def Msg.octets (m : Msg) (p : Nat) : List Byte :=
  let h := Sys2Proof.octets 1 0xE7 ++ Sys2Proof.octets 1 (m.cls * 32 + p) ++ Sys2Proof.octets 2 (m.body.length + 0x800 * m.auth.toNat) ++
    Sys2Proof.octets 1 m.typ ++ Sys2Proof.octets 1 m.alive ++ Sys2Proof.octets 2 m.tag ++ m.body
  h ++ Sys2Proof.octets 4 (crc32c h)

/-- Whether a host port answers: not in BOOT or a sleep mode (R439, R456), with VDDIO present (R595), and running. In IDLE the
UART has its edge detector only. -/
def State.portUp (s : State) (x : Nat) : Bool :=
  !s.pwr.boot && s.pwr.sleep.isNone && s.pwr.vddio &&
    (if x = 0 then s.flag HIF_CTL_SPIEN else s.flag UART_CTL_EN && !s.pwr.idle)

/-- The port-status octet (R433). -/
def State.portStatus (s : State) (x : Nat) : Nat :=
  let r := s.port x
  let lim := if x = 0 then s.get CLK_STAT_SPILIM else s.get CLK_STAT_FALLBACK
  (r.cur.isSome || r.offer.isSome).toNat * 128 + r.err.toNat * 64 + lim % 2 * 32 + r.rst.toNat * 16 + r.sent.toNat * 8 + 1

/-- Nothing in flight: the offered message becomes in flight (R435). -/
def State.takeOffer (s : State) (x : Nat) : State :=
  let s := s.offerNext x
  s.updPort x fun r => if r.cur.isSome then r else { r with cur := r.offer, offer := none, sent := false }

/-- The in-flight message's octets. -/
def State.flying (s : State) (x : Nat) : List Byte :=
  match (s.port x).cur with
  | none => []
  | some p => match (s.mb p).outq with | m :: _ => m.octets p | [] => []

/-- The transmitter starts (R451). -/
def State.uartStart (s : State) (k : USend) : State :=
  let s := { s with uart := { s.uart with send := some k } }
  let s := s.set UART_STAT_TXBUSY 1
  if s.flag UART_CTL_DEEN then s.set UART_STAT_DEACT 1 else s

/-- Starting what waits for the transmitter: a character in transparent mode; a STATUS answer; the
in-flight message not sent yet or sent again (R447, R449). -/
def State.uartGo (s : State) : State :=
  let held := s.flag UART_CTL_HDX && s.flag UART_CTL_DEEN && !s.flag UART_STAT_DEACT &&
    (s.flag UART_STAT_INFRAME || !s.flag UART_TSTAT_IDLE)
  if s.uart.send.isSome || !s.portUp 1 || held then s
  else if s.uart.mode then (if s.uart.txq.isEmpty then s else s.uartStart .char)
  else if s.uart.statDue then
    let o := s.portStatus 1
    let s := { s with uart := { s.uart with statDue := false } }
    (s.updPort 1 fun r => { r with err := false, rst := false, out := octets 1 o }).uartStart .status
  else
    let s := s.takeOffer 1
    let P := s.port 1
    if P.cur.isSome && (!P.sent || s.uart.again) then
      let m := s.flying 1
      let s := { s with uart := { s.uart with again := false } }
      (s.updPort 1 fun r => { r with out := m }).uartStart .msg
    else s

/-- HIF_PMBOX from the mailboxes, the offer at the partition's port, and the UART's next frame. -/
def State.mbCount (s : State) (p : Nat) : State :=
  let b := s.mb p
  ((s.sets [(HIF_PMBOX_OUTMSG.at p, b.outq.length), (HIF_PMBOX_INMSG.at p, b.inq.length + b.tq.length),
    (HIF_PMBOX_OUTOCT.at p, b.outOcts)]).offerNext (s.portOf p)).uartGo

/-- Committing a message to the outgoing mailbox: it takes the next device-to-host counter (R422); a
response to the last accepted message becomes its stored response (R420). -/
def State.commit (s : State) (p : Nat) (m : Msg) : State :=
  let a := s.get (HIF_PALIVE_OUTNEXT.at p)
  let m := { m with alive := a, at_ := s.tick }
  let s := s.set (HIF_PALIVE_OUTNEXT.at p) (a + 1)
  let s := s.updMb p fun b => { b with
    outq := b.outq ++ [m]
    stored := match b.stored with
      | some st =>
        let hit := m.cls = 1 && !m.plain && st.msg.isNone &&
          (if st.tenant then m.ans.isNone && m.tag = st.tag else m.ans = some st.alive)
        if hit then some { st with msg := some m } else some st
      | none => none }
  s.mbCount p

/-- A device-built message: it waits for room in order of completion (R423). -/
def State.post (s : State) (p : Nat) (m : Msg) : State :=
  if (s.mb p).wait.isEmpty && (s.mb p).room m.size then s.commit p m
  else s.updMb p fun b => { b with wait := b.wait ++ [m] }

/-- Committing waiting messages while there is room. -/
def State.drainWait (s : State) (p : Nat) : List Msg → State
  | [] => s.updMb p fun b => { b with wait := [] }
  | m :: t => if (s.mb p).room m.size then (s.commit p m).drainWait p t else s.updMb p fun b => { b with wait := m :: t }

/-- Retiring the head of a partition's outgoing mailbox (R422, R435). EV_MBOX_SPACE is raised where
an MPUSH was refused for room and nothing waits any more. -/
def State.retire (s : State) (p : Nat) : State :=
  match (s.mb p).outq with
  | [] => s
  | m :: t =>
    let x := s.portOf p
    let s := s.updPort x fun r => { r with
      cur := if r.cur = some p then none else r.cur
      offer := if r.offer = some p then none else r.offer
      sent := false }
    let s := s.set (HIF_PALIVE_OUTRET.at p) m.alive
    let s := s.updMb p fun b => { b with
      outq := t
      stored := match b.stored with
        | some st => if st.msg = some m then some { st with retired := true } else some st
        | none => none }
    let s := (s.drainWait p (s.mb p).wait).mbCount p
    if (s.mb p).noSpace && (s.mb p).wait.isEmpty then
      (s.updMb p fun b => { b with noSpace := false }).raise p .mboxSpace
    else s

/-- The payload of a response: the status, three octets 0 and the type's part (R424). -/
def respBody (c : Nat) (rest : List Byte) : List Byte := BitVec.ofNat 8 c :: 0 :: 0 :: 0 :: rest

/-- The response to a request (R424). -/
def State.respond (s : State) (p : Nat) (m : Msg) (c : Nat) (rest : List Byte) (plain : Bool := false) : State :=
  s.post p { cls := 1, typ := m.typ, tag := m.tag, body := respBody c rest, plain := plain, ans := some m.alive }

/-- The types the device executes or gives to the program (R414, R415). -/
def hostTypes : List Nat :=
  [0x01, 0x02, 0x08, 0x10, 0x11, 0x20, 0x21, 0x30, 0x31, 0x32, 0x33, 0x38, 0x39, 0x40, 0x41, 0x48, 0x49, 0x50, 0x51,
   0x60, 0x61, 0x62, 0x63, 0x64, 0x65]

/-- Whether a request has a type R417 refuses: reserved, tx-report or rx-frame. -/
def reservedType (t : Nat) : Bool := !(hostTypes.contains t) && decide (t < 0x80)

/-- Requests of such types are answered as they come to the head (R417). -/
def State.skipReserved (s : State) (p : Nat) : List Msg → State
  | [] => s
  | m :: t =>
    if reservedType m.typ then ((s.updMb p fun b => { b with inq := t }).respond p m Code.refusedState.num []).skipReserved p t else s

/-- Taking the first request off the incoming mailbox. -/
def State.popIn (s : State) (p : Nat) : State :=
  let s := s.updMb p fun b => { b with inq := b.inq.drop 1, busy := false }
  (s.skipReserved p (s.mb p).inq).mbCount p

/-- Ending the execution of the first request with its response (R418), never a stored one for resync (R421). -/
def State.answer (s : State) (p : Nat) (c : Code) (rest : List Byte) (plain : Bool := false) : State :=
  match (s.mb p).inq with
  | [] => s
  | m :: _ => (s.respond p m c.num rest (plain || m.typ = 0x08)).popIn p

/-! ## Tickets (R316 to R321) -/

/-- The ticket number to issue next: numbers still outstanding are skipped (R316). -/
def Part.freshTicket (P : Part) : Nat :=
  let used := P.tickets.map Ticket.num
  let cand := (List.range (used.length + 1)).map fun i => (P.nextTk - 1 + i) % 65535 + 1
  match cand.find? fun n => !used.contains n with
  | some n => n
  | none => P.nextTk

/-- Issuing a ticket number (R316, R427). -/
def State.takeTicket (s : State) (p : Nat) : Nat × State :=
  let n := (s.part p).freshTicket
  (n, s.updPart p fun P => { P with nextTk := n % 65535 + 1 })

/-- Completing a ticket: the report goes into its buffer from octet 4, word 0 is rewritten (R318), a
context blocked in COLLECT for it becomes runnable (R321). -/
def State.ticketDone (s : State) (p n : Nat) (code : Nat) (report : List Byte) : State :=
  match (s.part p).tickets.find? fun t => t.num = n with
  | none => s
  | some t =>
    let s := s.winStore p (t.buf + 4) report
    let s := s.winStore p t.buf (octets 4 (code + 0x10000 * report.length))
    s.updPart p fun P => { P with
      tickets := P.tickets.map fun u => if u.num = n then { u with status := some code } else u
      done := P.done ++ [n] }

end Sys2Proof.Machine
end

