-- ==== Sys2Proof/Machine/AirOps.lean ====
section
/-!
DEFINITION. Shared operations of transmission: airtime (R159, R160, R197), power (R187), regulatory
accounts (R214 to R218), reservations (R224), the end of a frame and its report (R23, R428).
-/

namespace Sys2Proof.Machine

open Reg

/-! ## Durations -/

/-- Bits on air of a native PSDU of `len` octets under a CODE (R159). -/
def npsdu (code len : Nat) : Nat :=
  let i := 8 * len + 6
  match code with
  | 0 => 8 * len
  | 1 => 2 * i
  | 2 => 3 * i / 2
  | 3 => 4 * (i / 3) + (if i % 3 = 1 then 2 else if i % 3 = 2 then 3 else 0)
  | _ => 128 * ((i + 63) / 64)

/-- Bits of a frame after its preamble: native (R160), format 1 (R161), format 3 (R165; its PHR of two
octets, and for a coded frame the tail and pad bits of the SUN FSK code, are the standard's). -/
def bitsAfter (fmt code len b : Nat) : Nat :=
  if fmt = 1 then 32 + 16 * len + 28
  else if fmt = 2 then
    let n := 92 + npsdu code len
    n + (if b = 2 then n % 2 else 0)
  else if code = 0 then 16 + 16 + 8 * len
  else 16 + 2 * (16 + 8 * len + 3 + (if len % 2 = 0 then 5 else 13))

/-- Bits carried by a symbol of a MOD code (R144). -/
def bitsPerSym (mod : Nat) : Nat := if 3 ≤ mod then 2 else 1

/-- Symbols of a frame on air, wake-up burst included (R160, R234). -/
def Tx.syms (t : Tx) (mod : Nat) : Nat :=
  (if t.fmt = 1 then max t.pre 32 else t.pre) + t.wb + (bitsAfter t.fmt t.codeF t.len (bitsPerSym mod)) / bitsPerSym mod

/-- MOD of a profile word. -/
def profMod (a : Nat) : Nat := bits a 29 3
/-- RATE of a profile word. -/
def profRate (a : Nat) : Nat := bits a 0 20

/-- Word A of a profile. -/
def State.profA (s : State) (n : Nat) : Nat :=
  s.get (TXM_PROFnA_MOD n) * 2 ^ 29 + s.get (TXM_PROFnA_SHAPE n) * 2 ^ 26 + s.get (TXM_PROFnA_FEMSEL n) * 2 ^ 25 +
    s.get (TXM_PROFnA_MASKSEL n) * 2 ^ 24 + s.get (TXM_PROFnA_RATE n)
/-- Word B of a profile. -/
def State.profB (s : State) (n : Nat) : Nat :=
  s.get (TXM_PROFnB_RAMPT n) * 2 ^ 27 + s.get (TXM_PROFnB_PWR n) * 2 ^ 17 + s.get (TXM_PROFnB_DEV n)

/-- TXM's snapshot for a frame (R199). -/
def State.txSnap (s : State) (n : Nat) : TxSnap :=
  let m := s.get (TXM_PROFnA_MASKSEL n)
  let shape := s.get (TXM_PROFnA_SHAPE n)
  { profA := s.profA n, profB := s.profB n
    taps := if shape = 0 then [] else if shape = 2 then shape2 else if shape = 3 then shape3
      else if shape = 4 then s.txm.taps0 else if shape = 5 then s.txm.taps1 else shape1
    imp := shape = 3 || (shape = 4 && s.txm.imp0) || (shape = 5 && s.txm.imp1)
    femPat := s.get TXM_FEMPAT_OFFPAT * 4096 + s.get TXM_FEMPAT_TXPATB * 256 + s.get TXM_FEMPAT_TXPATA * 16 + s.get TXM_FEMPAT_RXPAT
    lead := s.get TXM_FEMTIM_LEAD, tail := s.get TXM_FEMTIM_TAIL
    maskCtl := s.get (TXM_MASKCTLm_POLICY m) * 256 + s.get (TXM_MASKCTLm_CONSEC m) * 16 + s.get (TXM_MASKCTLm_MPER m)
    segs := (List.range 16).map fun i =>
      (s.get (TXM_MSEGnL_EN (16 * m + i)) * 2 ^ 31 + s.get (TXM_MSEGnL_WHEN (16 * m + i)) * 2 ^ 29 +
        s.get (TXM_MSEGnL_REF (16 * m + i)) * 2 ^ 28 + s.get (TXM_MSEGnL_OFFHI (16 * m + i)) * 2 ^ 12 +
        s.get (TXM_MSEGnL_OFFLO (16 * m + i)), s.get (TXM_MSEGnH_LIMIT (16 * m + i))) }

/-- The ramp time of a snapshot in ticks (R195). -/
def TxSnap.ramp (c : TxSnap) : Nat := (bits c.profB 27 5 + 1) * 8

/-- Division rounded up. -/
def ceilDiv (a b : Nat) : Nat := (a + b - 1) / b

/-- A frame's duration in ticks, rounded up (R160). -/
def Tx.ticks (t : Tx) (c : TxSnap) : Nat := ceilDiv (t.syms (profMod c.profA) * 10000000) (profRate c.profA)

/-- A frame's airtime: its transmit interval rounded up to a tick (R197). -/
def Tx.airtime (t : Tx) (c : TxSnap) : Nat := t.ticks c + 2 * c.ramp + c.lead + c.tail

/-! ## Frames for transmission -/

/-- The frame under a number. -/
def State.txFind (s : State) (id : Nat) : Option Tx := s.txs.find? fun t => t.id = id

/-- Changing the frame under a number. -/
def State.txUpd (s : State) (id : Nat) (f : Tx → Tx) : State :=
  { s with txs := s.txs.map fun t => if t.id = id then f t else t }

/-- Removing the frame under a number. -/
def State.txDel (s : State) (id : Nat) : State := { s with txs := s.txs.filter fun t => t.id ≠ id }

/-- The frame bound to RSA (R327). -/
def State.txBound (s : State) : Option Tx := s.txs.find? fun t => t.stage = .bound

/-- The frame whose transmit interval runs. -/
def State.txAir (s : State) : Option Tx := s.txs.find? fun t => t.stage = .onAir

/-- Adding a frame under the next number. -/
def State.txAdd (s : State) (t : Tx) : State :=
  { s with txs := s.txs ++ [{ t with id := s.air.next }], air := { s.air with next := s.air.next + 1 } }

/-- TXM drives the PA: from the start of ramp-up to the end of ramp-down (R63). -/
def State.paDriven (s : State) : Bool := 2 ≤ s.get TXM_STAT_PHASE && s.get TXM_STAT_PHASE ≤ 4

/-! ## The shaping filter (R190, R68) -/

/-- The filter's input at a sample: 8 samples of its symbol, or the first of them; 0 outside the stream. -/
def firIn (imp : Bool) (x : List Int) (n : Int) : Int :=
  if n < 0 then 0 else if imp && n % 8 ≠ 0 then 0 else x.getD (n / 8).toNat 0

/-- The filter's output d[n], `n` samples of 8 a symbol into a symbol stream (R190); a half goes up. -/
def TxSnap.fir (c : TxSnap) (x : List Int) (n : Nat) : Int :=
  if c.taps = [] then firIn false x n
  else
    let full := c.taps ++ c.taps.reverse
    let sum := ((List.range 64).map fun j => full.getD j 0 * firIn c.imp x ((n : Int) - j)).sum
    (2 * sum + 2048) / 4096

/-- What TXM delivers to SYNT at a sample of the frame's symbol stream, in FREQ codes (R190). -/
def Tx.deviation (t : Tx) (n : Nat) : Int := t.snap.fir t.mod n

/-- The peak gain G of a tap set, in 1/2048 (R190). -/
def peakGain (impulse : Bool) (c : List Int) : Nat :=
  let full := c ++ c.reverse
  let absum := fun (l : List Int) => (l.map Int.natAbs).sum
  if impulse then
    (List.range 8).foldl (fun m f => max m (absum ((List.range 8).map fun i => full.getD (f + 8 * i) 0))) 0
  else absum full

/-- Whether a deviation delivered by an instant, in fractions, passed the limit of R68. A peak that the filter's gain keeps
within it clips nowhere. -/
def Tx.clips (t : Tx) (now : Nat) : Bool :=
  let peak := t.mod.foldl (fun m x => max m x.natAbs) 0
  let gain := if t.snap.taps = [] then 2048 else peakGain t.snap.imp t.snap.taps
  if now < t.ts || decide ((2 * peak * gain + 2048) / 4096 ≤ 78643) then false
  else
    let n := min (8 * t.mod.length) ((now - t.ts) * profRate t.snap.profA / 80000000)
    (List.range n).any fun k => 78643 < (t.deviation k).natAbs

/-- SYNT_STAT.DEVCLIP as the frame on air has it by now (R68). -/
def State.clipNote (s : State) : State :=
  match s.txAir with
  | some t => if 2 ≤ s.get TXM_STAT_PHASE && s.get TXM_STAT_PHASE ≤ 3 && t.clips s.tbs.now then s.set (SYNx_STAT_DEVCLIP 2) 1 else s
  | none => s

/-- The PA gate for a frequency word: SYNT locked, its target equal (R64). -/
def State.gateFor (s : State) (freq : Nat) : Bool :=
  s.flag (SYNx_STAT_LOCK 2) && decide (s.get (SYNx_FREQ_FREQ 2) = freq) && decide ((s.synth 2).ph = .locked)

/-! ## Regulatory accounts (R208, R214 to R218) -/

/-- The sub-band of a frequency word, by number. -/
def RegProf.bandOf (r : RegProf) (freq : Nat) : Option Nat :=
  (List.range r.bands.length).find? fun j => decide ((r.bands.getD j {}).flo ≤ freq ∧ freq < (r.bands.getD j {}).fhi)

/-- The sub-band of a frequency word in the active profile (R208, R211). -/
def State.bandOf (s : State) (freq : Nat) : Option (Nat × Band) :=
  match s.air.prof with
  | none => none
  | some r => match r.bandOf freq with | some j => some (j, r.bands.getD j {}) | none => none

/-- The dwell channel of a frequency word in the active profile. -/
def State.dwellOf (s : State) (freq : Nat) : Option DwellCh :=
  match s.air.prof with
  | none => none
  | some r => r.chans.find? fun c => c.freq = freq

/-- Ticks of [t, t + a) that lie in the period [k·h, (k+1)·h). -/
def overlap (t a lo hi : Nat) : Nat := min (t + a) hi - max t lo

/-- Adding to an association list by key. -/
def bumpNat : List (Nat × Nat) → Nat → Nat → List (Nat × Nat)
  | [], k, v => [(k, v)]
  | (j, w) :: t, k, v => if j = k then (j, w + v) :: t else (j, w) :: bumpNat t k v

/-- Adding the ticks of [t, t + a) to the 1 s buckets they lie in (R216), from bucket `k` on. -/
def bumpBuckets (h : List (Nat × Nat)) (t a k : Nat) : Nat → List (Nat × Nat)
  | 0 => h
  | n + 1 =>
    let o := overlap t a (k * 1000000) ((k + 1) * 1000000)
    bumpBuckets (if o = 0 then h else bumpNat h k o) t a (k + 1) n

/-- The ticks used on a dwell channel in a hopping period (R215). -/
def AirSt.used (A : AirSt) (freq k : Nat) : Nat :=
  match A.dwell.find? fun e => decide (e.1 = freq ∧ e.2.1 = k) with | some e => e.2.2 | none => 0

/-- Adding the ticks of [t, t + a) to a channel's hopping periods, from period `k` on (R215). -/
def AirSt.bumpDwell (A : AirSt) (freq h t a k : Nat) : Nat → AirSt
  | 0 => A
  | n + 1 =>
    let o := overlap t a (k * h) ((k + 1) * h)
    let A := if o = 0 then A else
      { A with dwell := (freq, k, A.used freq k + o) :: A.dwell.filter fun e => !decide (e.1 = freq ∧ e.2.1 = k) }
    A.bumpDwell freq h t a (k + 1) n

/-- Use of a sub-band. -/
def State.bandUse (s : State) (j : Nat) : BandUse := Tab.get {} s.air.use j

/-- The window sum of a sub-band at a bucket: buckets k - 3599 to k (R216). -/
def BandUse.sum (u : BandUse) (k : Nat) : Nat := ((u.hist.filter fun e => decide (k < e.1 + 3600 ∧ e.1 ≤ k)).map Prod.snd).sum

/-- The first bucket, counted from the oldest of the window, at which `d` ticks have left it. -/
def dutyFree (u : BandUse) (j d : Nat) : Nat → Nat
  | 0 => j
  | n + 1 =>
    let b := ((u.hist.filter fun e => e.1 = j).map Prod.snd).sum
    if d ≤ b then j + 1 else dutyFree u (j + 1) (d - b) n

/-- duty_ok (R216): the earliest tick from `t` at which `a` ticks fit the duty limit. -/
def BandUse.dutyOk (u : BandUse) (duty t a : Nat) : Nat :=
  let k := t / 1000000
  let s := u.sum k + a
  if s ≤ duty * 3600 then t else (dutyFree u (k - 3599) (s - duty * 3600) 3600 + 3599) * 1000000

/-- dwell_ok (R215): the earliest tick from `t` at which `a` ticks fit the channel's dwell limit. -/
def AirSt.dwellOk (A : AirSt) (c : DwellCh) (h t a : Nat) : Nat :=
  if h = 0 then t
  else
    let k0 := t / h
    let n := (t + a - 1) / h - k0 + 1
    match (List.range n).find? fun i =>
      decide (c.dwell * 1000 < A.used c.freq (k0 + i) + overlap t a ((k0 + i) * h) ((k0 + i + 1) * h)) with
    | some i => (k0 + i + 1) * h
    | none => t

/-- The answers of the admission procedure (R214). -/
inductive Admit where
  | grant
  | hold (t : Nat)
  | refuse (c : Code)
  deriving DecidableEq, Repr

/-- The admission procedure at tick `t` (R214). -/
def State.grant (s : State) (freq a t latest : Nat) : Admit :=
  match s.bandOf freq, s.air.prof with
  | some (j, sb), some r =>
    if sb.maxon ≠ 0 ∧ sb.maxon * 1000 < a then .refuse .refusedDwell
    else
      let ch := s.dwellOf freq
      if (match ch with | some c => decide (c.dwell * 1000 < a) | none => false) then .refuse .refusedDwell
      else if sb.duty * 3600 < a then .refuse .refusedDuty
      else
        let u := s.bandUse j
        let eDw := match ch with | some c => s.air.dwellOk c (r.hop * 1000) t a | none => t
        let eDu := u.dutyOk sb.duty t a
        let eOf := match u.last with | some e => e + sb.minoff * 1000 | none => 0
        let e := max (max t eDw) (max eDu eOf)
        if e = t then .grant
        else if latest < e then .refuse (if e = eDw then .refusedDwell else .refusedDuty)
        else .hold e
  | _, _ => .refuse .refusedDuty

/-- EV_REGULATORY for a hold or refusal in a sub-band, once in each second of the tick count (R218). -/
def State.regNote (s : State) (freq : Nat) : State :=
  match s.bandOf freq with
  | none => s
  | some (j, _) =>
    let sec := s.tick / 1000000
    if (s.bandUse j).sec = some sec then s
    else
      let s := { s with air := { s.air with use := Tab.upd {} s.air.use j fun u => { u with sec := some sec } } }
      s.raise 0 .regulatory

/-- AIR_SBUSEn: the window sum of a sub-band as it stands now, 0 for an absent one (R216). -/
def State.sbuse (s : State) (j : Nat) : Nat :=
  match s.air.prof with
  | some r => if j < r.bands.length then (s.bandUse j).sum (s.tick / 1000000) else 0
  | none => 0

/-- Charging an interval of `a` ticks from tick `t` to dwell, duty, MINOFF and the partition (R197, R216, R237). -/
def State.charge (s : State) (p freq t a : Nat) : State :=
  let s := match s.bandOf freq, s.air.prof with
    | some (j, _), some r =>
      let A := s.air
      let A := { A with use := Tab.upd {} A.use j fun u => { u with
        hist := bumpBuckets u.hist t a (t / 1000000) (a / 1000000 + 2), last := some (t + a) } }
      let A := if r.hop ≠ 0 ∧ (s.dwellOf freq).isSome then
        A.bumpDwell freq (r.hop * 1000) t a (t / (r.hop * 1000)) (a / (r.hop * 1000) + 2) else A
      { s with air := A }
    | _, _ => s
  let s := { s with air := { s.air with pairt := Tab.upd 0 s.air.pairt p fun n => n + a } }
  s.set (AIR_PAIRT_MS.at p) (min (Tab.get 0 s.air.pairt p / 1000) 0xFFFFFFFF)

/-- Whether the device is in COL. -/
def State.inCol (s : State) : Bool := decide (s.pwr.sleep = some .col)

/-- Counting a Col interval of `a` ticks from tick `t` (R479): it is charged at the wake. -/
def State.colCharge (s : State) (p freq t a : Nat) : State :=
  let iv : ColIv := { p := p, freq := freq, t := t, a := a }
  let C := s.col
  let C := if C.ivs.length < 64 then { C with ivs := C.ivs ++ [iv] } else { C with more := C.more ++ [iv] }
  let C := match s.bandOf freq, s.air.prof with
    | some (j, _), some r =>
      let A := if r.hop ≠ 0 ∧ (s.dwellOf freq).isSome then
        ({ s.air with dwell := C.dwell } : AirSt).bumpDwell freq (r.hop * 1000) t a (t / (r.hop * 1000)) (a / (r.hop * 1000) + 2)
        else { s.air with dwell := C.dwell }
      { C with
        mins := Tab.upd 0 C.mins (2 ^ 40 * j + t / 60000000) fun n => n + a
        last := Tab.set 0 C.last j (t + a), dwell := A.dwell }
    | _, _ => C
  ({ s with col := C }).set COL_AIRUSE_TICKS (s.get COL_AIRUSE_TICKS + a)

/-! ## Power (R187, R194) -/

/-- The supply limit of R194. -/
def State.supplyLimit (s : State) : Nat :=
  match s.get TXM_STAT_SUPPLY with | 0 => 84 | 1 => 80 | _ => 68

/-- The power of a frame but for the supply limit: the lowest of the values that apply. -/
def State.powerAsked (s : State) (t : Tx) : Nat :=
  let a := bits t.snap.profB 17 7
  let b := match t.pwr with | some w => min a w | none => a
  match s.bandOf t.freq with | some (_, sb) => min b sb.pmax | none => b

/-! ## Reservations (R224) -/

/-- The span a frame covers, in fractions: its interval and the 12 ticks of blanking after it. -/
def Tx.span (t : Tx) : Option (Nat × Nat) :=
  match t.stage with
  | .onAir => some (t.start, t.start + (t.air + 12) * 64)
  | .fixed => some (t.t0, t.t0 + (t.air + 12) * 64)
  | .atRsa | .bound => if t.fixed then some (t.t0, t.t0 + (t.air + 12) * 64) else none
  | _ => none

/-- Whether a span in fractions overlaps one that is reserved or started. -/
def State.spanBusy (s : State) (a b : Nat) : Bool :=
  s.txs.any fun t => match t.span with | some (x, y) => decide (a < y ∧ x < b) | none => false

/-- Making a fixed-start reservation for a frame whose T_S is set (R224, R225): drawing `extra` ticks
from the bucket; none where it is refused. -/
def State.reserve (s : State) (t : Tx) (extra : Nat) : Option State :=
  let c := s.txSnap t.prof
  let a := t.airtime c
  let lead := (c.ramp + c.lead) * 64
  let t0 := t.ts - lead
  let ok := decide (lead ≤ t.ts ∧ s.tbs.now + 100 * 64 ≤ t0) && !s.spanBusy t0 (t0 + (a + 12) * 64) &&
    decide (((extra : Nat) : Rat) ≤ (s.part t.p).level) && s.airOn
  if ok then
    let s := s.updPart t.p fun P => { P with level := P.level - ((extra : Nat) : Rat) }
    some (s.txAdd { t with stage := .fixed, fixed := true, snap := c, air := a, t0 := t0, drawn := extra })
  else none

/-! ## The end of a frame (R23, R225, R428) -/

/-- Returning what a frame has drawn and not used. -/
def State.giveBack (s : State) (t : Tx) : State := s.refund t.p t.drawn

/-- An acknowledgement or entry not sent (R225). -/
def State.ackNotSent (s : State) (p : Nat) : State :=
  (s.count AIR_ACKSTAT_NOTSENT 1).count (AIR_PACK_NOTSENT.at p) 1

/-- Octet 6 of a tx-report (R428), from TXM_LASTREP for a frame that was on air. -/
def State.repFlags (s : State) (sent : Bool) : Nat :=
  if sent then s.get TXM_LASTREP_MASKRES + 4 * s.get TXM_LASTREP_COVER + 16 * s.get TXM_LASTREP_PWRLIM + 32 * s.get TXM_LASTREP_PWRCUT
  else 3

/-- The payload of a tx-report (R428). -/
def State.txReport (s : State) (t : Tx) (code stamp charged : Nat) (sent : Bool) : List Byte :=
  octets 4 code ++ octets 2 t.tk ++ octets 1 (s.repFlags sent) ++ octets 1 (if sent then t.power else 0) ++
    octets 8 stamp ++ octets 4 charged ++ octets 4 (match t.ctr with | some c => c | none => 0)

/-- Reporting a submission's ending: a tx-report message, or the completion of its ticket; and its event (R28, R428). -/
def State.txTell (s : State) (t : Tx) (code stamp charged : Nat) (sent : Bool) : State :=
  let body := s.txReport t code stamp charged sent
  let s := if t.host then s.post t.p { typ := 0x22, body := body } else s.ticketDone t.p t.tk code body
  s.raiseImg t.p t.imgB (if code = 0 then .txDone else .txRefused)

/-- The end of a frame that was not sent, under a code (R23, R225): what it drew returns. -/
def State.txUnsent (s : State) (t : Tx) (c : Code) : State :=
  let s := (s.txDel t.id).giveBack t
  match t.kind with
  | .submit => s.txTell t c.num 0 0 false
  | .ack _ => s.ackNotSent t.p
  | .resync | .group | .beacon => s

/-- DEFERRED under the partition's policy (R236): the frame returns to step 2 later, or ends. -/
def State.txDefer (s : State) (t : Tx) : State :=
  if t.kind = .submit && s.flag (AIR_TXPOL_ONDEFER.at t.p) then
    if t.retries < s.get (AIR_TXPOL_RETRIES.at t.p) then
      (s.giveBack t).txUpd t.id fun u => { u with
        stage := .retry, drawn := 0, retries := u.retries + 1, tries := 0,
        until_ := s.tick + 1000 * s.get (AIR_TXPOL_RETRYDLY.at t.p) }
    else s.txUnsent t .refusedState
  else s.txUnsent t .deferred

/-- Putting a frame for a transmit window back (R225, R253): it stays queued for the next window. -/
def State.txRequeue (s : State) (t : Tx) : State :=
  (s.giveBack t).txUpd t.id fun u => { u with stage := .window, fixed := false, drawn := 0, wb := 0, decided := false, ok := false }

/-- A fixed-start frame that cannot go (R225), or a frame whose gate did not open in time (R65). -/
def State.txCannot (s : State) (t : Tx) : State :=
  if t.window && t.fixed then s.txRequeue t
  else match t.kind with
    | .submit | .resync => s.txDefer t
    | _ => s.txUnsent t .deferred

/-- RSA's latches (R340): raising an event there. -/
def State.latch (s : State) (k b : Nat) : State :=
  s.updProg k fun g => { g with evp := g.evp ||| 2 ^ b }

/-- The binding of a transmission ends: ENG_TXBIND.BOUND clears (R328, R341). -/
def State.unbind (s : State) : State := (s.set ENG_TXBIND_BOUND 0).set ENG_TXBIND_FIXED 0

/-! ## The transmit interval (R93, R196 to R199) -/

/-- Blanking all slots from the start of a transmit interval (R93). -/
def State.blankAll (s : State) : State :=
  let n := (allSlots.filter fun k => (s.frame k).isSome).length
  let s := s.loseSlots CHB_LOSTA_BLANK allSlots
  let s := (s.count AIR_BLKCNT_LOST n).count AIR_BLKCNT_INTV 1
  let s := { s with txm := { s.txm with blank := true, blankFrom := s.tbs.now } }
  s.sets [(RXx_STAT_BLANK 0, 1), (RXx_STAT_BLANK 1, 1), (RXx_STAT_PROT 0, 1), (RXx_STAT_READY 0, 0), (RXx_STAT_READY 1, 0)]

end Sys2Proof.Machine
end

