-- ==== Sys2Proof/Machine/AscOps.lean ====
section
/-!
DEFINITION. The node table's entries (R239 to R241) and the shared operations of ASC: arming (R250),
CONTACT LOST (R256), contacts (R245, R257, R259), verdicts (R252, R253) and jumps (R263, R264).
-/

namespace Sys2Proof.Machine

open Reg

/-- The first address of the node table (R8). -/
def ntFirst : Nat := 0x30000000

/-- A field of a physical entry: its first octet and its octets. -/
def State.ent (s : State) (ph off n : Nat) : Nat := s.num (ntFirst + 64 * ph + off) n
/-- Writing a field of a physical entry. -/
def State.putEnt (s : State) (ph off n v : Nat) : State := s.putNum (ntFirst + 64 * ph + off) n v
/-- A number with a bit field replaced. -/
def putBits (n lo w v : Nat) : Nat := n - bits n lo w * 2 ^ lo + (v % 2 ^ w) * 2 ^ lo
/-- A bit field of FLAGS (R240). -/
def State.entFlag (s : State) (ph lo w : Nat) : Nat := bits (s.ent ph 34 2) lo w
/-- Writing a bit field of FLAGS. -/
def State.putFlag (s : State) (ph lo w v : Nat) : State := s.putEnt ph 34 2 (putBits (s.ent ph 34 2) lo w v)

/-- STATE of an entry: 0 FREE, 1 ACTIVE, 2 CONTACT LOST. -/
def State.entSt (s : State) (ph : Nat) : Nat := s.entFlag ph 14 2
/-- FRS of an entry. -/
def State.entFrs (s : State) (ph : Nat) : Bool := s.entFlag ph 13 1 = 1
/-- WCLASS of an entry. -/
def State.entClass (s : State) (ph : Nat) : Nat := s.entFlag ph 7 3
/-- The owning partition of an entry. -/
def State.entOwner (s : State) (ph : Nat) : Nat := bits (s.ent ph 36 2) 0 5
/-- NIDX of an entry. -/
def State.entNidx (s : State) (ph : Nat) : Nat := bits (s.ent ph 36 2) 5 2
/-- VER of an entry. -/
def State.entVer (s : State) (ph : Nat) : Nat := bits (s.ent ph 38 2) 0 3
/-- SADDR of an entry. -/
def State.entSaddr (s : State) (ph : Nat) : Nat := s.ent ph 24 2
/-- The physical entry of a partition's local index (R238). -/
def State.entOf (s : State) (p li : Nat) : Nat := (s.part p).assocLo + li

/-- What ASC keeps for an entry. -/
def State.ascEnt (s : State) (ph : Nat) : AscEnt := Tab.get {} s.asc ph
/-- The state with what ASC keeps for an entry changed. -/
def State.updAsc (s : State) (ph : Nat) (f : AscEnt → AscEnt) : State := { s with asc := Tab.upd {} s.asc ph f }

/-- The local indices of a partition's entries that are not FREE. -/
def State.entsOf (s : State) (p : Nat) : List Nat :=
  (List.range (s.part p).desc.assocQ).filter fun li => decide (s.entSt (s.entOf p li) ≠ 0)

/-- ASC_PSTAT.USED of a partition and ASC_STAT.USED after an entry came or went. -/
def State.ascUsed (s : State) (p : Nat) : State :=
  let s := s.set (ASC_PSTAT_USED.at p) (s.entsOf p).length
  s.set ASC_STAT_USED ((allParts.map fun q => s.get (ASC_PSTAT_USED.at q)).sum)

/-- PERIOD of a partition's wake class in ms; 0: class unused. -/
def State.clsPeriod (s : State) (p c : Nat) : Nat := if c = 7 then 0 else s.get ((ASC_WCLSnA_PERIOD c).at p)
/-- Whether a wake class has transmit windows. -/
def State.clsTx (s : State) (p c : Nat) : Bool := c ≠ 7 && s.flag ((ASC_WCLSnA_KIND c).at p)

/-- The wake instant of a NEXTWAKE at a tick (R241). -/
def wakeOf (nw now : Nat) : Int :=
  let m : Int := 4294967296000
  let lo : Int := (now : Int) - 2147483648000
  lo + ((nw * 1000 : Nat) - lo) % m

/-- The half-width of an entry's window with centre `w` (R250). -/
def State.halfWidth (s : State) (ph : Nat) (w : Int) : Nat :=
  let p := s.entOwner ph
  if s.entFrs ph then s.get (ASC_FRCFG_FWIN.at p) * 100
  else
    let d := bits (s.ent ph 38 2) 8 8 + s.get ASC_DGW_DGW
    let gap := (w * 64 - (bits (s.ent ph 40 8) 0 62 : Nat)).toNat
    s.get (ASC_GUARD_G0.at p) + ceilDiv (d * gap) 128000000

/-- The image that serves an entry's version (R262). -/
def State.entImg (s : State) (ph : Nat) : Bool :=
  let p := s.entOwner ph
  (s.part p).dual.isSome && bit (s.get (ASC_PVMAP_MAP.at p)) (s.entVer ph)

/-- Disarming an entry. -/
def State.disarm (s : State) (ph : Nat) : State := s.updAsc ph fun e => { e with armed := false, offered := false, hit := false }

/-- Entry to CONTACT LOST (R256, R258). -/
def State.contactLost (s : State) (ph : Nat) : State :=
  let p := s.entOwner ph
  let s := (s.putFlag ph 14 2 2).disarm ph
  let s := s.updAsc ph fun e => { e with resync := s.tick + 1000000 * s.get (ASC_LOSTCFG_RPER.at p) }
  (s.count (ASC_PCNT2_LOST.at p) 1).raiseImg p (s.entImg ph) .contactLost

/-- Arming an entry with a new half-width (R250, R251). -/
def State.arm (s : State) (ph : Nat) : State :=
  let p := s.entOwner ph
  let c := s.entClass ph
  if s.entSt ph ≠ 1 ∨ s.clsPeriod p c = 0 then s.disarm ph
  else
    let w := wakeOf (s.ent ph 60 4) s.tick
    let h := s.halfWidth ph w
    if !s.entFrs ph && decide (s.get (ASC_GUARD_GMAX.at p) * 1000 < h) then s.contactLost ph
    else s.updAsc ph fun e => { e with armed := true, w := w, h := h, offered := false, hit := false }

/-- Advancing NEXTWAKE by whole periods to the first wake instant after a tick. -/
def State.nextAfter (s : State) (ph : Nat) (t : Int) : State :=
  let per := s.clsPeriod (s.entOwner ph) (s.entClass ph)
  let w := wakeOf (s.ent ph 60 4) s.tick
  if per = 0 ∨ t < w then s
  else s.putEnt ph 60 4 (s.ent ph 60 4 + ((t - w) / ((per : Int) * 1000) + 1).toNat * per)

/-- NEXTWAKE at the first wake instant of the entry's grid after a tick, wherever it stood (R258). -/
def State.gridAfter (s : State) (ph : Nat) (t : Int) : State :=
  let per := s.clsPeriod (s.entOwner ph) (s.entClass ph)
  let w := wakeOf (s.ent ph 60 4) s.tick
  if per = 0 then s
  else s.putEnt ph 60 4 (((s.ent ph 60 4 : Nat) + ((t - w) / ((per : Int) * 1000) + 1) * per) % 2 ^ 32).toNat

/-- The tick of a window's verdict (R252, R253). -/
def State.verdictAt (s : State) (ph : Nat) : Int :=
  let e := s.ascEnt ph
  let p := s.entOwner ph
  let c := s.entClass ph
  e.w + e.h + (if s.clsTx p c then 0 else (s.get ((ASC_WCLSnB_TAIL c).at p) * 1000 : Nat))

/-- Whether a stamp lies inside an entry's window (R41, R252). -/
def State.inWindow (s : State) (ph stamp : Nat) : Bool :=
  let e := s.ascEnt ph
  e.armed && decide ((e.w - e.h) * 64 ≤ stamp ∧ (stamp : Int) < (e.w + e.h) * 64)

/-- A contact of an entry (R245, R252, R257, R259); with DISCONT set it changes neither LASTC nor NEXTWAKE (R263). -/
def State.contact (s : State) (ph stamp : Nat) : State :=
  let p := s.entOwner ph
  let held := s.flag TBS_STAT_DISCONT
  let s := s.putFlag ph 3 4 0
  let s := if held then s else s.putEnt ph 40 8 stamp
  let inw := s.inWindow ph stamp
  let s := if inw then s.updAsc ph fun e => { e with hit := true } else s.count (ASC_PCNT_OUTWIN.at p) 1
  let frsNext := fun (s : State) => if held then s else
    s.putEnt ph 60 4 ((stamp + 64 * 1000 * s.clsPeriod p (s.entClass ph) + 32000) / 64000)
  if s.entSt ph = 2 then
    let s := s.putFlag ph 14 2 1
    (if s.entFrs ph then frsNext s else if held then s else s.nextAfter ph ((stamp / 64 : Nat) : Int)).arm ph
  else if s.entFrs ph then
    if inw then frsNext s else (frsNext s).arm ph
  else s

/-- Closing every window whose verdict tick has passed, without a miss (R263, R264). `all`: every
native entry advances and every entry is re-armed, as when DISCONT clears. -/
def State.closePassed (s : State) (all : Bool) : State :=
  s.each ((s.asc.filter fun e => e.2.armed).map Prod.fst) fun s ph =>
    if all || decide (s.verdictAt ph ≤ s.tick) then
      if (all && !s.entFrs ph) || decide (s.verdictAt ph ≤ s.tick) then (s.nextAfter ph s.tick).arm ph else s.arm ph
    else s

/-- The wheel resumes when DISCONT clears (R263). -/
def State.wheelResume (s : State) : State := (s.set ASC_STAT_WHLHOLD 0).closePassed true

end Sys2Proof.Machine
end

