-- ==== Sys2Proof/Machine/SynOps.lean ====
section
/-!
DEFINITION. Shared operations of modes (R455), synthesisers (R55 to R63) and chain removal (R97 to R101).
-/

namespace Sys2Proof.Machine

open Reg

/-! ## Modes (R454, R455) -/

/-- The code of the mode the list of R455 gives from item 5 on: TALK, LISTEN, IDLE or STANDBY. -/
def State.baseMode (s : State) : Nat :=
  if s.flag TXM_STAT_ACTIVE then 3
  else if s.flag CHB_STAT_RUN && ((s.flag (RXx_CTL_EN 0) && s.inService 0) || (s.flag (RXx_CTL_EN 1) && s.inService 1)) then 2
  else if s.pwr.idle then 4
  else 1

/-- The current mode's code (R454, R455). -/
def State.mode (s : State) : Nat :=
  match s.pwr.sleep with
  | some m => m.num
  | none =>
    if s.pwr.lockdown then 7
    else if s.pwr.boot then 0
    else if s.pwr.calib then 5
    else if s.flag CLK_STAT_FALLBACK then 6
    else s.baseMode

/-- The frame that FIRE may start: bound, its frequency SYNT's locked target (R64). -/
def State.gateOpen (s : State) : Bool := match s.txBound with | some t => s.gateFor t.freq | none => false

/-! ## Frequency words (R55, R56, R60) -/

/-- The valid frequency words (R56). -/
def freqOk (w : Nat) : Bool :=
  decide (0x0C800000 ≤ w ∧ w ≤ 0x0F000000) || decide (0x19000000 ≤ w ∧ w ≤ 0x1E000000)

/-- The range of a word: 0 low, 1 high (R56). -/
def freqRange (w : Nat) : Nat := if 0x19000000 ≤ w then 1 else 0

/-- The coarse-code region of a word: 16 of 5 MHz from 400 MHz, 16 of 10 MHz from 800 MHz (R60). -/
def coarseRegion (w : Nat) : Nat :=
  if freqRange w = 0 then min ((w - 0x0C800000) / 2621440) 15 else 16 + min ((w - 0x19000000) / 5242880) 15

/-- The coarse code a command takes (R60, R61). -/
def State.coarseFor (s : State) (x w : Nat) : Nat :=
  if s.flag (SYNx_COARSE_OVR x) then s.get (SYNx_COARSE_OVRCODE x) else Tab.get 0 (s.synth x).coarse (coarseRegion w)

/-- The reference setting of a synthesiser (R34). -/
def State.refCond (s : State) (x : Nat) : Nat :=
  match x with | 0 => s.get CLK_REFCOND_REFA | 1 => s.get CLK_REFCOND_REFB | _ => s.get CLK_REFCOND_REFT

/-! ## Commands (R57 to R59, R63) -/

/-- Starting a frequency command on an enabled synthesiser (R57, R59). -/
def State.synStart (s : State) (x w : Nat) : State :=
  let s := s.sets [(SYNx_FREQ_FREQ x, w), (SYNx_STAT_LOCK x, 0), (SYNx_STAT_SETTLING x, 1),
    (SYNx_STAT_RANGE x, freqRange w), (SYNx_STAT_FAIL x, 0), (SYNx_COARSE_CODE x, s.coarseFor x w)]
  let s := s.updSynth x fun y => { y with ph := .settling, target := w, stored := false, ref := s.refCond x }
  if x < 2 then s.chainRetune x else s

/-- An accepted word taken by one synthesiser (R58, R63, R66). -/
def State.synTake (s : State) (x w : Nat) : State :=
  let s := s.set (SYNx_STAT_FREQREJ x) 0
  let s := if x = 2 && !s.cal.regions.contains (coarseRegion w) then
      { s with cal := { s.cal with regions := s.cal.regions ++ [coarseRegion w] } } else s
  if x = 2 && s.paDriven then
    (s.updSynth x fun y => { y with heldWord := some w }).set (SYNx_STAT_PENDING x) 1
  else if !s.flag (SYNx_CTL_EN x) then
    (s.updSynth x fun y => { y with target := w, stored := true }).sets
      [(SYNx_FREQ_FREQ x, w), (SYNx_STAT_RANGE x, freqRange w), (SYNx_STAT_FAIL x, 0)]
  else if (s.synth x).ph = .calStep then
    (s.updSynth x fun y => { y with target := w }).sets [(SYNx_FREQ_FREQ x, w), (SYNx_STAT_RANGE x, freqRange w)]
  else if s.get (SYNx_FREQ_FREQ x) = w && s.flag (SYNx_STAT_LOCK x) then s
  else s.synStart x w

/-- A frequency command (R56 to R59, R63, R89): whether it is accepted, and the state after it. -/
def State.freqCommand (s : State) (x w : Nat) : Bool × State :=
  if !freqOk w || (x = 1 && s.combined) then (false, s.set (SYNx_STAT_FREQREJ x) 1)
  else if x = 0 && s.combined then (true, (s.synTake 0 w).synTake 1 w)
  else (true, (s.synTake x w).updSynth x fun y => { y with own := w })

/-- Stopping a synthesiser's loop: no loss is declared (R58). -/
def State.synStop (s : State) (x : Nat) : State :=
  let s := s.sets [(SYNx_CTL_EN x, 0), (SYNx_STAT_LOCK x, 0), (SYNx_STAT_SETTLING x, 0)]
  let s := s.updSynth x fun y => { y with ph := .off, heldOff := false }
  if x < 2 then s.chainRetune x else s

/-- The plan frequency of a chain; its present target where no plan is active (R109). -/
def State.planFreq (s : State) (x : Nat) : Nat :=
  match s.chb.active with
  | some pl => bits (pl.word (if x = 0 || bit (pl.word 0) 8 then 1 else 2)) 0 29
  | none => s.get (SYNx_FREQ_FREQ x)

/-- RXx_STAT.READY and BLANK from the causes in force (R93, R107). -/
def State.rxStat (s : State) (x : Nat) : State :=
  let off := s.chainOff x || s.txBlank
  (s.setB (RXx_STAT_BLANK x) off).setB (RXx_STAT_READY x) (!off && s.flag (SYNx_STAT_LOCK x))

/-- Abandoning the calibration run of an item: it stays due (R504, R524). -/
def State.calAbandon (s : State) (item : Nat) : State :=
  match s.cal.run with
  | some r =>
    if r.item = item then
      let s := { s with cal := { s.cal with run := none, step := none } }
      let s := s.sets [(CAL_STAT_RUN, 0), (CAL_STAT_STEP, 0)]
      if item < 2 then (s.updChain item fun c => { c with blCal := false }).rxStat item else s
    else s
  | none => s

/-! ## Chain removal and return (R97 to R101) -/

/-- Whether a subset slot's channel meets R78 and R82 in a span centred on `f`, its own chain's plan
frequency being `f0`: its bins moved by the distance in whole bins, to within one code. -/
def State.fitsSpan (s : State) (k f0 f : Nat) : Bool :=
  let d : Int := ((f0 : Int) - (f : Int)) * 5
  let m : Int := (d + 16384) / 32768
  let b : Int := (bits (s.desc k 0) 0 9 : Nat) + m
  let n : Int := (2 ^ bits (s.desc k 0) 21 3 : Nat)
  decide (-5 ≤ d - m * 32768 ∧ d - m * 32768 ≤ 5 ∧ 32 ≤ b ∧ b + n - 1 ≤ 287 ∧
    (bits (s.desc k 0) 24 4 = 0 ∨ freqRange f0 = freqRange f))

/-- The frequency of the fallback span: RXx_FBFREQ of the remaining chain, or its present target (R98, R99). -/
def State.fbFreq (s : State) (x : Nat) : Nat :=
  let f := s.get (RXx_FBFREQ_FREQ x)
  if f = 0 then s.get (SYNx_FREQ_FREQ x) else f

/-- Suspending slots: their frames are lost and their owners get EV_SLOT_SUSPENDED (R98). -/
def State.suspend (s : State) (l : List Nat) : State :=
  let l := l.filter s.slotEn
  let own := s.ownersOf l
  let s := s.loseSlots CHB_LOSTB_OTHER l
  let s := s.each l fun s k => s.updSlot k fun t => { t with suspRem := true }
  s.chbCount.raiseMask own .slotSuspended

/-- The removal of a chain takes effect (R97, R98 step 3, R100): `cause` 0 planned, 1 forced by a fault. -/
def State.chainOut (s : State) (x cause : Nat) : State :=
  let y := 1 - x
  let s := ((s.calAbandon x).set (RXx_STAT_SVC x) 2).set (RXx_STAT_CAUSE x) cause
  let s := s.updChain x fun c => { c with waited := 0 }
  let s :=
    if s.combined then
      (if s.inService y then s else s.suspend allSlots)
    else if !s.inService y then (s.suspend allSlots).set AIR_STAT_FBK 1
    else
      let f := s.fbFreq y
      let mine := allSlots.filter fun k => decide (k / 64 = x)
      let busy := s.ownersOf (mine.filter fun k => (s.frame k).isSome && s.subset k)
      let s := (s.loseSlots CHB_LOSTB_OTHER mine).raiseMask busy .slotSuspended
      let s := s.suspend (allSlots.filter fun k => !(s.subset k && s.fitsSpan k (s.planFreq (k / 64)) f))
      let s := if f ≠ s.get (SYNx_FREQ_FREQ y) then
          (s.freqCommand y f).2.updChain y fun c => { c with moved := true }
        else s
      let s := s.set AIR_STAT_FBK 1
      if s.flag CLK_STAT_FALLBACK then s.fbRank else s
  (s.rxStat x).rxStat y

/-- SV removes a chain at once on a fault, logged in Scree (R100). -/
def State.chainFault (s : State) (x why : Nat) : State :=
  if s.svc x = 2 then s
  else (s.chainOut x 1).scree (7 + x) 0x0103 1 [BitVec.ofNat 8 x, BitVec.ofNat 8 why]

/-- Whether a chain is under its loopback test (R575). -/
def State.chainTested (s : State) (x : Nat) : Bool :=
  match s.test with | some t => decide (t.kind = 4 ∧ t.index = x) | none => false

/-- The return of a chain takes effect: in combined operation it rejoins the combining, in split
operation the full plan is restored (R101). A chain under its loopback test waits. DEDUCED: R575 tests a chain
that is RETURNING. -/
def State.chainBack (s : State) (x : Nat) : State :=
  if s.chainTested x then s
  else
  let y := 1 - x
  let s := s.set (RXx_STAT_SVC x) 0
  let s :=
    if s.combined then (if s.inService y then s else s.each allSlots fun s k => s.updSlot k fun t => { t with suspRem := false })
    else
      let s := s.each allSlots fun s k => s.updSlot k fun t => { t with suspRem := false }
      let s := if (s.chn y).moved then
          (s.freqCommand y (s.planFreq y)).2.updChain y fun c => { c with moved := false }
        else s
      let s := if s.svc y = 0 then s.set AIR_STAT_FBK 0 else s
      if s.flag CLK_STAT_FALLBACK then s.fbRank else s
  ((s.chbCount.rxStat x).rxStat y)

/-! ## The end of the transmit interval (R93 to R95, R197 to R199) -/

/-- SYNB is recommanded to its plan frequency, or to the span it serves alone, after FOLLOW or an LBT retune
(R95, R98, R222); slots 64 to 127 stay blanked until it has locked. -/
def State.followBack (s : State) : State :=
  if s.txm.follow || s.air.lbtRet.isSome then
    let f := if (s.chn 1).moved then s.fbFreq 1 else if s.chb.active.isSome then s.planFreq 1 else s.txm.heldFreq
    let s := { s with txm := { s.txm with follow := false }, air := { s.air with lbtRet := none } }
    let s := s.updChain 1 fun c => { c with follow := true }
    (s.freqCommand 1 f).2
  else s

/-- The number of a Col frame whose record lies `n` octets into the Col frame store (R475). -/
def colRecFirst : Nat := 0x10000
/-- The Col frame store (R475, R495). -/
def colStore : Nat := 0x38004000

/-- ACKD of a stored record: its acknowledgement was sent (R475). -/
def State.colAcked (s : State) (fid : Nat) : State :=
  let a := colStore + (fid - colRecFirst) + 13
  s.setByte a (s.byte a ||| 0x80)

/-- Charging and ending the interval of the frame on air with its code (R196, R197, R23): the pins
return to RXPAT, the blanking of 12 ticks runs on (R93). -/
def State.intervalEnd (s : State) : State :=
  match s.txAir with
  | none => s
  | some t =>
    let a := ceilDiv (s.tbs.now - t.start) 64
    let code := match t.out with | some c => c | none => .done
    let off := s.txm.unchecked || !s.txm.mon || !s.flag RXB_MONCTL_EN || s.get TXM_LASTREP_COVER = 0 ||
      max (bits t.snap.maskCtl 8 2) (match s.air.prof with | some r => bits r.flags 2 2 | none => 0) = 0
    let mask := if s.txm.maskBad ≠ 0 then s.txm.maskBad else if off then 3 else 0
    let s := s.sets [(TXM_STAT_PHASE, 0), (TXM_STAT_ACTIVE, 0), (TXM_LASTREP_MASKRES, mask), (RXx_STAT_MON 1, 0),
      (RXx_STAT_GAIN 1, s.txm.heldGain)]
    let col := s.inCol
    let s := if col then s.colCharge t.p t.freq (t.start / 64) a
      else (s.charge t.p t.freq (t.start / 64) a).updPart t.p fun P =>
        { P with level := P.level + ((t.drawn : Nat) : Rat) - ((a : Nat) : Rat) }
    let s := { s with txm := { s.txm with ivEnd := s.tbs.now, mon := false } }
    let s := if col then (s.set COL_STAT_TXON 0).latch 35 5 else ((s.latch 33 4).latch 34 4).followBack
    let s := match t.kind with
      | .ack fid => if col && decide (colRecFirst ≤ fid ∧ code = Code.done) then s.colAcked fid else s
      | _ => s
    let stamp := if t.stamp ≤ s.tbs.now then t.stamp else 0
    match t.kind with
    | .submit =>
      let s := (s.txTell t code.num stamp a true)
      if code = .done ∧ t.ackWait ≠ 0 then s.txUpd t.id fun u => { u with stage := .acked, ended := s.tick }
      else s.txDel t.id
    | .ack _ => let s := s.txDel t.id; if code = .done then s.count AIR_ACKSTAT_SENT 1 else s.ackNotSent t.p
    | .group =>
      let s := s.txDel t.id
      if code ≠ .done then s else
      let mine := fun (g : GEnt) => decide (g.p = t.p) && t.ents.contains (g.saddr, g.seq)
      let n := (s.air.gents.filter mine).length
      let s := s.refund t.p ((s.air.gents.filter mine).map GEnt.air).sum
      let s := { s with air := { s.air with gents := s.air.gents.filter fun g => !mine g } }
      let s := s.set (AIR_PACK_GPEND.at t.p) (s.get (AIR_PACK_GPEND.at t.p) - n)
      s.count AIR_ACKSTAT_SENT 1
    | .beacon | .resync => s.txDel t.id

/-- Stopping the frame on air under a code (R72, R198, R199): before ramp-up the interval ends at once;
while the PA is driven a forced ramp-down follows; after ramp-down the frame ends DONE. `cut`: pins at once. -/
def State.txAbort (s : State) (c : Code) (cut : Bool) : State :=
  match s.txAir with
  | none => s
  | some t =>
    let ph := s.get TXM_STAT_PHASE
    if ph ≤ 1 then (s.txUpd t.id fun u => { u with out := some c }).intervalEnd
    else if ph ≤ 4 then
      (s.clipNote.txUpd t.id fun u => { u with out := some c }).set TXM_STAT_PHASE 4
    else if cut then s.intervalEnd
    else s

end Sys2Proof.Machine
end

