-- ==== Sys2Proof/Machine/WakeOps.lean ====
section
/-!
DEFINITION. Shared operations of VCORE and body bias (R492 to R494) and of waking (R461 to R465).
-/

namespace Sys2Proof.Machine

open Reg

/-! ## VCORE, body bias and retention assist (R492 to R494) -/

/-- VCORE at this moment, in mV: 5 mV a µs from the start of the slew (R493). -/
def State.vcore (s : State) : Nat :=
  if s.flag RET_VCORE_SLEW then
    let t := s.get RET_VCORE_TARGET
    let d := 5 * (s.tick - s.ret.slewAt)
    if s.ret.slewFrom < t then min t (s.ret.slewFrom + d) else max t (s.ret.slewFrom - d)
  else s.get RET_VCORE_PRESENT

/-- Starting to slew from the present value. -/
def State.slew (s : State) : State :=
  let v := s.vcore
  ({ s with ret := { s.ret with slewAt := s.tick, slewFrom := v } }).sets [(RET_VCORE_PRESENT, v), (RET_VCORE_SLEW, 1)]

/-- A new target replaces the old one (R493): bias and retention assist are removed before a rise (R494). -/
def State.vcoreTo (s : State) (mv : Nat) : State :=
  if s.get RET_VCORE_TARGET = mv then s
  else
    let v := s.vcore
    let s := s.sets [(RET_VCORE_PRESENT, v), (RET_VCORE_SLEW, 0), (RET_VCORE_TARGET, mv)]
    if s.flag RET_BIAS_CHANGING then s
    else if v < mv ∧ (s.get RET_BIAS_RBB ≠ 0 ∨ s.flag RET_BIAS_ASSIST) then
      { s.set RET_BIAS_CHANGING 1 with ret := { s.ret with biasOn := false } }
    else s.slew

/-- The target of the run modes. -/
def vRun : Nat := 950
/-- The target of a sleep mode (R492). -/
def Sleep.mv : Sleep → Nat
  | .sleep => 750 | .col => 750 | .deep => 600 | .off => 600

/-! ## Wake (R461 to R465) -/

/-- Recording a wake source (R463); the first starts the wake. -/
def State.wakeFire (s : State) (src : Nat) : State :=
  match s.pwr.sleep with
  | none =>
    if s.pwr.boot && s.pwr.bootFrom.isSome then s.set PWR_WAKESRC_SRC (s.get PWR_WAKESRC_SRC ||| 2 ^ src) else s
  | some m =>
    let s := s.set PWR_WAKESRC_SRC (s.get PWR_WAKESRC_SRC ||| 2 ^ src)
    if s.pwr.waking then s
    else
      let s := s.sets [(PWR_WAKESRC_FIRST, src), (PWR_WAKESRC_FROM, m.num)]
      let s := { s with pwr := { s.pwr with waking := true } }
      let s := s.vcoreTo vRun
      if m = .deep ∨ m = .off then
        let s := { s with
          pwr := { s.pwr with sleep := none, waking := false, boot := true, bootFrom := some m, svDog := s.tick }
          clk := { s.clk with xo := .start } }
        s.set TBS_STAT_DISCONT 1
      else s

/-- A source during an entry, before its window, is held (R461). -/
def State.wakeHold (s : State) (src : Nat) : State :=
  match s.pwr.entry with
  | none => s
  | some e =>
    let e := if e.held.contains src then e else { e with held := e.held ++ [src] }
    { s with pwr := { s.pwr with entry := some e } }

/-- A wake source (R461, R463). -/
def State.wake (s : State) (src : Nat) : State := if s.pwr.entry.isSome then s.wakeHold src else s.wakeFire src

end Sys2Proof.Machine
end

