-- ==== Sys2Proof/Machine/Clk.lean ====
section
/-!
DEFINITION. Reference, system clock and timebase (spec/02_clocks_and_timebase.md): the commands of the
clock, FALLBACK and the timebase, and the clock cycle that passes while no command waits.
-/

namespace Sys2Proof.Machine

open Reg

/-! ## FALLBACK (R49 to R54) -/

/-- Entry to FALLBACK (R49, R50). -/
def State.fallbackIn (s : State) : State :=
  let s := s.sets [(CLK_STAT_FALLBACK, 1), (CLK_STAT_PLLLOCK, 0), (CLK_STAT_SPILIM, 1), (HIF_STAT_SPILIM, 1)]
  let s := { s with clk := { s.clk with relock := .waiting, since := s.tick } }
  let s := if s.pwr.calib then { s with cal := { s.cal with step := none } } else s
  s.fbRank.raiseAll .mode

/-- A loss of the system PLL (R49): logged in Scree; counted where it is a real one (R54). -/
def State.pllLost (s : State) (real : Bool) : State :=
  let s := if real then s.count CLK_STAT_LOSSCNT 1 else s
  (s.scree 2 0x0101 1 (octets 2 (s.get CLK_STAT_LOSSCNT))).fallbackIn

/-- Whether SYSCLK may be lost: the PLL runs (R54: in SLEEP and COL nothing happens). -/
def State.pllRuns (s : State) : Bool :=
  s.flag CLK_STAT_PLLLOCK && !s.flag CLK_STAT_FALLBACK && s.pwr.sleep.isNone

/-- SYSTEM_PLL_LOSS (R49). -/
def execSystemPllLoss (s : State) : Host.Outcome State Fault Refusal :=
  .next (if s.pllRuns then s.pllLost true else s)

/-- FORCE_FALLBACK (R54): the same sequence without the count. -/
def execForceFallback (s : State) : Host.Outcome State Fault Refusal :=
  .next (if s.pllRuns then s.pllLost false else s)

/-- RELOCK_ATTEMPT (R53): 10 ms after the loss or the last failure. -/
def execRelockAttempt (s : State) : Host.Outcome State Fault Refusal :=
  .next (if s.clk.relock = .waiting ∧ s.clk.since + 10000 ≤ s.tick then
    { s with clk := { s.clk with relock := .recal } } else s)

/-- RELOCK_RECALIBRATION_END (R53). -/
def execRelockRecalibrationEnd (locked : Bool) (s : State) : Host.Outcome State Fault Refusal :=
  .next (if s.clk.relock = .recal then
    { s with clk := { s.clk with relock := if locked then .hold else .waiting, since := s.tick } } else s)

/-- RELOCK_HOLD_END (R53): lock held for 100 µs makes the attempt succeed. -/
def execRelockHoldEnd (held : Bool) (s : State) : Host.Outcome State Fault Refusal :=
  .next (if s.clk.relock = .hold then
    { s with clk := { s.clk with relock := if held then .switchDue else .waiting, since := s.tick } } else s)

/-- The return of SYSCLK to 64 MHz (R53, R45). -/
def State.clockSwitch (s : State) : State :=
  if s.clk.relock = .switchDue then
    let s := { s with
      clk := { s.clk with relock := .idle }
      tbs := { s.tbs with psFirst := s.tbs.psFirst || s.flag TBS_PSTEP_COUNT } }
    let s := s.sets [(CLK_STAT_FALLBACK, 0), (CLK_STAT_PLLLOCK, 1), (CLK_STAT_SPILIM, 0), (HIF_STAT_SPILIM, 0)]
    s.fbUnrank.raiseAll .mode
  else s

/-! ## Phase steps (R33, R45) -/

/-- One phase step: COUNT moves towards 0, PSACC by one; 256 steps one way move the timebase one fraction (R33). -/
def State.phaseStep (s : State) : State :=
  let n := sext 16 (s.get TBS_PSTEP_COUNT)
  if n = 0 then s
  else
    let d : Int := if 0 < n then 1 else -1
    let s := s.set TBS_PSTEP_COUNT (wrap 16 (n - d))
    let s := s.set TBS_PSACC_ACC (wrap 32 (sext 32 (s.get TBS_PSACC_ACC) + d))
    let f := s.tbs.psFrac + d
    let s := { s with tbs := { s.tbs with
      psFrac := if f = 256 ∨ f = -256 then 0 else f
      now := if f = 256 then (s.tbs.now + 1) % 2 ^ 62 else if f = -256 then (s.tbs.now + 2 ^ 62 - 1) % 2 ^ 62 else s.tbs.now
      psFirst := false
      psNext := s.tick + s.get TBS_PSTEP_INTERVAL } }
    s.set TBS_STAT_PSBUSY (if s.flag TBS_PSTEP_COUNT then 1 else 0)

/-- Steps are applied only at 64 MHz with the PLL locked (R33, R45). -/
def State.stepsRun (s : State) : Bool := s.flag CLK_STAT_PLLLOCK && !s.flag CLK_STAT_FALLBACK

/-- PHASE_STEP (R45): the next step of the sequence, INTERVAL ticks after the one before. -/
def execPhaseStep (s : State) : Host.Outcome State Fault Refusal :=
  .next (if s.stepsRun && s.flag TBS_PSTEP_COUNT && !s.tbs.psFirst && decide (s.tbs.psNext ≤ s.tick) then s.phaseStep else s)

/-! ## The tick boundary (R42 to R46) -/

/-- The first beacon boundary after a tick under the setting in force (R205). -/
def State.boundaryAfter (s : State) (t : Nat) : Nat :=
  let ofs := s.air.bofs % s.air.bper
  if t < ofs then ofs else ofs + ((t - ofs) / s.air.bper + 1) * s.air.bper

/-- After a jump of the timebase: boundaries a backward jump reaches again are taken again; one that a
forward jump passed is due (R205). -/
def State.boundaryJump (s : State) : State :=
  if s.tick < s.air.nextB then
    let b := s.boundaryAfter s.tick
    ({ s with air := { s.air with nextB := b } }).set AIR_NEXTB_TICK b
  else s

/-- DISCONT clears; a set or an adjustment resumes a held wheel, and closes windows it jumped (R43, R44, R263, R264). -/
def State.continuous (s : State) : State :=
  let was := s.flag TBS_STAT_DISCONT
  let s := s.set TBS_STAT_DISCONT 0
  let s := s.boundaryJump
  if was then s.wheelResume else s.closePassed false

/-- A pending absolute set (R43). -/
def State.applySet (s : State) : State :=
  match s.tbs.setPend with
  | none => s
  | some v => ({ s with tbs := { s.tbs with now := v, setPend := none } }).continuous

/-- A pending adjustment (R44). -/
def State.applyAdj (s : State) : State :=
  if s.tbs.adjPend then
    let now := (((s.tbs.now : Int) + sext 32 (s.get TBS_ADJ_FRACS)) % (2 ^ 62 : Nat)).toNat
    (({ s with tbs := { s.tbs with now := now, adjPend := false } }).set TBS_ADJ_FRACS 0).continuous
  else s

/-- Carrier phase steps left: one per tick while the PA gate is open, the rest at once while it is closed (R69). -/
def State.carrierSteps (s : State) : State :=
  let n := sext 12 (s.get SYNT_PHASE_STEPS)
  if n = 0 then s
  else
    let d : Int := if s.paDriven then (if 0 < n then 1 else -1) else n
    (s.updSynth 2 fun y => { y with phase := (y.phase + d) % 4096 }).set SYNT_PHASE_STEPS (wrap 12 (n - d))

/-- What a tick boundary applies, in the order set, adjustment, clock switch, phase step (R46). -/
def State.atBoundary (s : State) : State :=
  let s := s.applySet.applyAdj
  let s := (s.set TBS_STAT_ADJPEND 0).clockSwitch
  let s := if s.stepsRun && s.tbs.psFirst then s.phaseStep else s
  let s := match s.clk.trim with
    | some (c, f) =>
      if s.flag TXM_STAT_ACTIVE then s
      else { s.sets [(CLK_XOTRIM_COARSE, c), (CLK_XOTRIM_FINE, f)] with clk := { s.clk with trim := none } }
    | none => s
  s.carrierSteps

/-- The timebase reaches its next tick boundary by counting (R37), which counts towards the next refill (R282). -/
def State.toBoundary (s : State) : State :=
  let now := (s.tbs.now + 63) / 64 * 64
  let n := now / 64 - s.tbs.now / 64
  { s with tbs := { s.tbs with now := now % 2 ^ 62, refill := s.tbs.refill + n } }

/-- TICK_BOUNDARY_APPLY (R46). -/
def execTickBoundaryApply (s : State) : Host.Outcome State Fault Refusal := .next s.toBoundary.atBoundary

/-- FALLBACK_EXIT (R53): at the tick boundary after a successful relock. -/
def execFallbackExit (s : State) : Host.Outcome State Fault Refusal :=
  .next (if s.clk.relock = .switchDue then s.toBoundary.atBoundary else s)

/-- Whether the timebase counts: the XO delivers a clock (R30, R39). -/
def State.counting (s : State) : Bool :=
  (s.clk.xo = .run || s.clk.xo = .sustain) && s.pwr.sleep ≠ some .deep && s.pwr.sleep ≠ some .off

/-- One clock cycle with no command: the timebase counts (R37), and a boundary reached applies what waits for it. -/
def State.clockCycle (s : State) : State :=
  if !s.counting then s
  else
    let d := if s.pwr.sleep.isSome then 64 - s.tbs.now % 64 else if s.flag CLK_STAT_FALLBACK then 2 else 1
    let now := s.tbs.now + d
    let n := now / 64 - s.tbs.now / 64
    let s := { s with tbs := { s.tbs with now := now % 2 ^ 62, refill := s.tbs.refill + n } }
    if n = 0 then s else s.atBoundary

/-! ## Timebase registers (R38, R43 to R45) -/

/-- The latch of TICKH a context uses: one for each tag, two in a dual-image window (R38). -/
def tickLatch (tag : Nat) (imgB : Bool) : Nat := if imgB then 64 + tag else tag

/-- A read of TBS_TICKL (R38): the word read, and the state with the high word latched. -/
def State.readTickl (s : State) (tag : Nat) (imgB : Bool) : Nat × State :=
  (s.tbs.now % 2 ^ 32,
   { s with tbs := { s.tbs with latch := Tab.set 0 s.tbs.latch (tickLatch tag imgB) (s.tbs.now / 2 ^ 32) } })

/-- A read of TBS_TICKH (R38): the word as latched for the tag, 0 with none. -/
def State.readTickh (s : State) (tag : Nat) (imgB : Bool) : Nat := Tab.get 0 s.tbs.latch (tickLatch tag imgB)

/-- TICKL_READ (R38). -/
def execTicklRead (tag : Fin 64) (imgB : Bool) (s : State) : Host.Outcome State Fault Refusal :=
  .next (s.readTickl tag imgB).2

/-- A write of TBS_SETH (R43). -/
def State.writeSeth (s : State) (w : Nat) : State :=
  if s.flag TBS_STAT_DISCONT then
    let v := w % 2 ^ 30 * 2 ^ 32 + s.get TBS_SETL_TICK_LO * 64 + s.get TBS_SETL_FRAC
    ({ s with tbs := { s.tbs with setPend := some v } }).sets [(TBS_STAT_SETREJ, 0), (TBS_STAT_ADJPEND, 1)]
  else s.set TBS_STAT_SETREJ 1

/-- TIMEBASE_SET_WRITE (R43): a write of TBS_SETH. -/
def execTimebaseSetWrite (w : Word) (s : State) : Host.Outcome State Fault Refusal := .next (s.writeSeth w.toNat)

/-- A write of TBS_ADJ (R44). -/
def State.writeAdj (s : State) (w : Nat) : State :=
  ({ s with tbs := { s.tbs with adjPend := true } }).sets [(TBS_ADJ_FRACS, w), (TBS_STAT_ADJPEND, 1)]

/-- TIMEBASE_ADJUST_WRITE (R44). -/
def execTimebaseAdjustWrite (w : Word) (s : State) : Host.Outcome State Fault Refusal := .next (s.writeAdj w.toNat)

/-- A write of TBS_PSTEP (R45); INTERVAL 0 is reserved and leaves its field (R6). -/
def State.writePstep (s : State) (w : Nat) : State :=
  if s.flag CLK_STAT_FALLBACK then s.set TBS_STAT_PSREJ 1
  else
    let s := s.set TBS_PSTEP_COUNT w
    let s := if w / 2 ^ 16 = 0 then s else s.set TBS_PSTEP_INTERVAL (w / 2 ^ 16)
    ({ s with tbs := { s.tbs with psFirst := true } }).sets [(TBS_STAT_PSREJ, 0), (TBS_STAT_PSBUSY, if w % 2 ^ 16 = 0 then 0 else 1)]

/-- PHASE_STEP_WRITE (R45). -/
def execPhaseStepWrite (w : Word) (s : State) : Host.Outcome State Fault Refusal := .next (s.writePstep w.toNat)

/-! ## Timers and the second pulse (R47, R48) -/

/-- A write of TBS_TMRnH: the whole compare value becomes current (R47). -/
def State.writeTmrH (s : State) (p n w : Nat) : State :=
  let s := s.set ((TBS_TMRnH_TICK_HI n).at p) w
  let v := s.get ((TBS_TMRnH_TICK_HI n).at p) * 2 ^ 32 + s.get ((TBS_TMRnL_TICK_LO n).at p) * 64 + s.get ((TBS_TMRnL_FRAC n).at p)
  { s with tbs := { s.tbs with cmp := Tab.set 0 s.tbs.cmp (4 * p + n) v } }

/-- TIMER_COMPARE_COMMIT (R47). -/
def execTimerCompareCommit (p : Fin 32) (n : Fin 4) (w : Word) (s : State) : Host.Outcome State Fault Refusal :=
  .next (s.writeTmrH p n w.toNat)

/-- The current compare value of a timer. -/
def State.timerCmp (s : State) (p n : Nat) : Nat := Tab.get 0 s.tbs.cmp (4 * p + n)

/-- Whether a timer has reached its compare value (R47). -/
def State.timerDue (s : State) (p n : Nat) : Bool :=
  s.flag ((TBS_TMRnC_ARM n).at p) && decide (s.timerCmp p n ≤ s.tbs.now)

/-- A timer expires (R47); in SLEEP and COL its event is latched until the wake (R462, R464). -/
def State.timerExpire (s : State) (p n : Nat) : State :=
  let s := s.set ((TBS_TMRnC_EXP n).at p) 1
  let per := s.get ((TBS_TMRnP_PERIOD n).at p) * 64
  let s :=
    if per = 0 then s.set ((TBS_TMRnC_ARM n).at p) 0
    else
      let k := (s.tbs.now - s.timerCmp p n) / per + 1
      let s := s.count ((TBS_TMRnC_MISSED n).at p) (k - 1)
      { s with tbs := { s.tbs with cmp := Tab.set 0 s.tbs.cmp (4 * p + n) (s.timerCmp p n + k * per) } }
  let wakes := s.flag PWR_WAKEEN_TIMER && (s.get (PWR_TMRWAKE_TMR.at p)).testBit n
  if s.pwr.sleep.isSome then
    let s := { s with pwr := { s.pwr with timerEv := s.pwr.timerEv ++ [(p, n)] } }
    if wakes then s.wakeFire 6 else s
  else
    let s := s.raise p (Ev.timer n)
    if wakes && s.pwr.entry.isSome then s.wakeHold 6 else s

/-- TIMER_EXPIRY (R47). -/
def execTimerExpiry (p : Fin 32) (n : Fin 4) (s : State) : Host.Outcome State Fault Refusal :=
  .next (if s.timerDue p n then s.timerExpire p n else s)

/-- TICK_OUT_PULSE (R48): at a whole multiple of 1 000 000 ticks, fraction 0. -/
def execTickOutPulse (s : State) : Host.Outcome State Fault Refusal :=
  .next (if s.flag TBS_TOCTL_EN && s.tbs.now % 64000000 = 0 then
    { s with tbs := { s.tbs with tickOut := true, tickEnd := s.tick + s.get TBS_TOCTL_WIDTH } } else s)

/-- TICK_OUT_PULSE_END (R48). -/
def execTickOutPulseEnd (s : State) : Host.Outcome State Fault Refusal :=
  .next (if s.tbs.tickOut && decide (s.tbs.tickEnd ≤ s.tick) then { s with tbs := { s.tbs with tickOut := false } } else s)

end Sys2Proof.Machine
end

