-- ==== Sys2Proof/Machine/DbgOps.lean ====
section
/-!
DEFINITION. Shared operations of the debug port and of tests: a session's close (R563), a test's end (R572, R577).
-/

namespace Sys2Proof.Machine

open Reg

/-- Whether the debug port holds a context halted. -/
def State.anyHalted (s : State) : Bool := s.progs.any fun e => e.2.halted

/-- Whether SV is halted: its management and its services stand (R567). -/
def State.svHalted (s : State) : Bool := (s.prog 32).halted

/-- A context of a MAC engine: its partition. -/
def ctxOwner (k : Nat) : Option Nat := if k < 32 then some k else if 64 ≤ k then some (k - 64) else none

/-- A context halts with a cause bit (R566, R570): its watchdog stops, EV_DEBUG in its partition. While it is
halted `wdog` of SV, RSA, RSB and CE holds the ticks their watchdogs had run. -/
def State.haltNow (s : State) (k cause : Nat) : State :=
  let g := s.prog k
  let run := if k = 32 then s.tick - s.pwr.svDog else if 33 ≤ k ∧ k < 36 then s.tick - g.wdog else g.wdog
  if g.halted then s
  else
    let s := s.updProg k fun g =>
      { g with halted := true, haltPend := false, stepping := false, cause := g.cause ||| cause, wdog := run }
    match ctxOwner k with
    | some p => s.raise p .debug
    | none => s

/-- A context's halt is released: its watchdog runs on. -/
def State.haltOut (s : State) (k : Nat) : State :=
  let g := s.prog k
  let s := if g.halted && k = 32 then { s with pwr := { s.pwr with svDog := s.tick - g.wdog } } else s
  let run := if g.halted && decide (33 ≤ k ∧ k < 36) then s.tick - g.wdog else g.wdog
  s.updProg k fun g => { g with halted := false, haltPend := false, stepping := false, cause := 0, wdog := run }

/-- An air operation of RSA 0 or RSB 1 (R568). -/
def State.airOp (s : State) (x : Nat) : Bool :=
  if x = 0 then s.txBound.isSome || s.txAir.isSome else s.flag (RXx_STAT_MON 1) || s.txm.follow || (s.chn 1).follow

/-- A halt that is due at this boundary (R568): deferred on RSA and RSB during an air operation. -/
def State.haltAt (s : State) (k cause : Nat) : State :=
  if (k = 33 || k = 34) && s.airOp (k - 33) then
    s.updProg k fun g => { g with haltPend := true, stepping := false, cause := g.cause ||| cause }
  else s.haltNow k cause

/-- Whether a session of a scope reaches a target (R562). -/
def scopeReaches (scope tag : Nat) : Bool :=
  if scope < 32 then tag = scope
  else if scope = 0x20 then tag = 0 || (33 ≤ tag && tag ≤ 35)
  else decide (tag ≤ 35)

/-- The close of the session: halts, breakpoints, watchpoints and the challenge go with it (R563). -/
def State.dbgClose (s : State) : State :=
  if s.dbg.scope.isNone then s
  else
    let s := (s.progs.map (·.1)).foldl State.haltOut s
    { s with dbg := { s.dbg with scope := none, chal := none, brk := [], wat := [] } }

/-- A test ends under a code: BUSY falls, and what it held goes back (R572, R574, R575). -/
def State.testStop (s : State) (c : Code) : State :=
  match s.test with
  | none => s
  | some t =>
    let s := { s with test := none }
    let s := s.sets [(DBG_TESTSTAT_BUSY, 0), (DBG_TESTSTAT_DONE, 1), (DBG_TESTSTAT_CODE, c.num)]
    let s := if t.kind = 3 && !s.flag DBG_REPAIR_PERM then s.set RET_DOMSTAT_ON (s.get RET_DOMSTAT_ON % 2 ^ 15) else s
    if t.kind = 4 then
      let s := s.updChain t.index fun x => { x with coupler := false }
      if (s.synth 2).ph = .calStep then (s.set (SYNx_STAT_CALBUSY 2) 0).synStart 2 (s.get (SYNx_FREQ_FREQ 2)) else s
    else s

/-- Whether the unit under test is back in service (R577); a chain may be RETURNING under SV. -/
def State.testBack (s : State) (t : TestSt) : Bool :=
  match t.kind with
  | 0 => !(s.get ENG_SVC_OUT).testBit t.index
  | 1 => !(s.get SEC_SVC_OUT).testBit t.index
  | 2 => !(s.get TRL_SVC_OUT).testBit t.index
  | 4 => !(s.svc t.index = 2 || (t.sv && s.svc t.index = 3))
  | _ => false

/-- The unit returned to service during its test ends the test (R577). -/
def State.testGone (s : State) : State :=
  match s.test with
  | some t => if s.testBack t then s.testStop .deferred else s
  | none => s

end Sys2Proof.Machine
end

