-- ==== Sys2Proof/Machine/Syn.lean ====
section
/-!
DEFINITION. The three RF synthesisers (spec/03_rf_synthesisers.md).
-/

namespace Sys2Proof.Machine

open Reg

/-- FREQUENCY_COMMAND (R57): a write of SYNx_FREQ; an invalid word is refused (R56). -/
def execFrequencyCommand (x : Fin 3) (w : Word) (s : State) : Host.Outcome State Fault Refusal :=
  .next (s.freqCommand x (w.toNat % 2 ^ 29)).2

/-- A write of SYNx_CTL.EN (R58). -/
def State.writeSynEn (s : State) (x : Nat) (en : Bool) : State :=
  if en then
    let s := s.updSynth x fun y => { y with heldOff := false }
    if s.flag (SYNx_CTL_EN x) then s else (s.set (SYNx_CTL_EN x) 1).synStart x (s.get (SYNx_FREQ_FREQ x))
  else if x = 2 && s.paDriven then s.updSynth x fun y => { y with heldOff := true }
  else s.synStop x

/-- SYNTH_ENABLE_WRITE (R58). -/
def execSynthEnableWrite (x : Fin 3) (en : Bool) (s : State) : Host.Outcome State Fault Refusal := .next (s.writeSynEn x en)

/-- Whether a loop is on its way to lock. -/
def SynPh.seeking : SynPh → Bool
  | .settling | .reacquire | .recoarse => true
  | .off | .locked | .failed | .calStep => false

/-- LOCK rises (R59, R62, R73, R92, R101, R340). -/
def State.synLocked (s : State) (x : Nat) : State :=
  let s := s.sets [(SYNx_STAT_LOCK x, 1), (SYNx_STAT_SETTLING x, 0)]
  let s := s.updSynth x fun y => { y with ph := .locked, failed := false }
  let s := if x = 1 then s.latch 34 5 else s.latch 33 5
  if x = 2 then (if s.gateOpen then s.latch 33 1 else s)
  else
    let s := s.chainLocked x
    let s := if x = 1 && s.flag (RXx_STAT_MON 1) && s.txm.follow then { s with txm := { s.txm with mon := true, perEnd := 0 } } else s
    if s.combined && s.svc x = 3 then s.chainBack x else s

/-- SYNTH_LOCK (R62). -/
def execSynthLock (x : Fin 3) (s : State) : Host.Outcome State Fault Refusal :=
  .next (if (s.synth x).ph.seeking && s.flag (SYNx_CTL_EN x) then s.synLocked x else s)

/-- A declared loss of lock (R62, R71 to R74). -/
def State.synLost (s : State) (x : Nat) : State :=
  let own := match s.txAir with | some t => some t | none => none
  let s := (if x < 2 then s.calAbandon x else s).set (SYNx_STAT_LOCK x) 0
  let s := (s.count (SYNx_STAT_LOSSCNT x) 1).set (SYNx_LOSST_TICK x) s.tick
  let s := s.updSynth x fun y => { y with ph := .reacquire }
  let s := if x = 1 then s.latch 34 6 else s.latch 33 6
  if x = 2 then
    match own with
    | some t => if s.get TXM_STAT_PHASE ≤ 4 then (s.raiseImg t.p t.imgB .lockLoss).txAbort .abortedLockLoss false else s
    | none => s
  else
    let s := if x = 1 && s.flag (RXx_STAT_MON 1) then { s with txm := { s.txm with mon := false, unchecked := true } } else s
    s.chainLost x

/-- SYNTH_LOCK_LOSS (R62): only after LOCK has risen for the command in force. -/
def execSynthLockLoss (x : Fin 3) (s : State) : Host.Outcome State Fault Refusal :=
  .next (if s.flag (SYNx_STAT_LOCK x) then s.synLost x else s)

/-- SYNTH_REACQUIRE_END (R71 step 2): the table code again, or OVRCODE (R61). -/
def execSynthReacquireEnd (x : Fin 3) (s : State) : Host.Outcome State Fault Refusal :=
  .next (if (s.synth x).ph = .reacquire then
    (s.updSynth x fun y => { y with ph := .recoarse }).set (SYNx_COARSE_CODE x) (s.coarseFor x (s.get (SYNx_FREQ_FREQ x)))
  else s)

/-- 500 µs without lock (R62, R71 step 3): FAIL, held off, logged; a chain whose synthesiser fails again
after SV has recalibrated it is removed (R100). -/
def State.synFail (s : State) (x : Nat) : State :=
  let again := (s.synth x).failed
  let s := s.sets [(SYNx_STAT_FAIL x, 1), (SYNx_STAT_SETTLING x, 0)]
  let s := s.updSynth x fun y => { y with ph := .failed, failed := true }
  let s := s.scree (4 + x) 0x0102 1 (octets 1 x ++ octets 4 (s.get (SYNx_FREQ_FREQ x)))
  if x < 2 && again then s.chainFault x 0 else s

/-- SYNTH_LOCK_FAIL (R71). -/
def execSynthLockFail (x : Fin 3) (s : State) : Host.Outcome State Fault Refusal :=
  .next (if (s.synth x).ph.seeking && s.flag (SYNx_CTL_EN x) then s.synFail x else s)

/-- Whether a frame in progress may still take an immediate acknowledgement (R67): one is reserved for
it, or its header is not decoded yet. -/
def State.ackAtRisk (s : State) : Bool :=
  allSlots.any fun k =>
    match s.frame k with
    | none => false
    | some f => (f.fmt = 1 || f.fmt = 2) && (f.stage = .phr || f.stage = .header || s.txs.any fun t => decide (t.kind = .ack k))

/-- When SV may start a SYNT calibration step of `d` µs (R67). -/
def State.calStepOk (s : State) (d : Nat) : Bool :=
  let m := (if s.flag (SYNx_CTL_PHTRACK 2) then 160 else 150) + d
  decide (d ≤ 200) && s.flag (SYNx_CTL_EN 2) && !s.flag TXM_STAT_ACTIVE && !s.ackAtRisk &&
    !(s.txs.any fun t => t.fixed && decide (t.t0 < s.tbs.now + m * 64) && (t.stage = .fixed || t.stage = .atRsa || t.stage = .bound))

/-- SYNT_CAL_STEP_START (R66, R67): SYNT leaves its target, the PA gate is closed. -/
def execSyntCalStepStart (dur : Nat) (s : State) : Host.Outcome State Fault Refusal :=
  .next (if s.calStepOk dur then
    (s.updSynth 2 fun y => { y with ph := .calStep }).sets
      [(SYNx_STAT_LOCK 2, 0), (SYNx_STAT_SETTLING 2, 0), (SYNx_STAT_CALBUSY 2, 1)]
  else s)

/-- SYNT_CAL_STEP_END (R66): the latest target is recommanded. -/
def execSyntCalStepEnd (s : State) : Host.Outcome State Fault Refusal :=
  .next (if (s.synth 2).ph = .calStep then (s.set (SYNx_STAT_CALBUSY 2) 0).synStart 2 (s.get (SYNx_FREQ_FREQ 2)) else s)

/-- A write of SYNT_PHASE.STEPS (R69): at once while the gate is closed, one step a µs while it is open. -/
def State.writePhase (s : State) (n : Nat) : State :=
  let s := s.set SYNT_PHASE_STEPS n
  if s.paDriven then s else s.carrierSteps

/-- CARRIER_PHASE_STEP (R69). -/
def execCarrierPhaseStep (steps : BitVec 12) (s : State) : Host.Outcome State Fault Refusal := .next (s.writePhase steps.toNat)

/-- PHASE_TRACK_WRITE (R70). -/
def execPhaseTrackWrite (on : Bool) (s : State) : Host.Outcome State Fault Refusal :=
  .next ((s.updSynth 2 fun y => { y with track := on }).setB (SYNx_CTL_PHTRACK 2) on)

end Sys2Proof.Machine
end

