-- ==== Sys2Proof/Machine/Rx.lean ====
section
/-!
DEFINITION. Receive chains and spans (spec/04_receive_chains.md): gain control, enabling, removal and
return of a chain, branches of the combining.
-/

namespace Sys2Proof.Machine

open Reg

/-- Whether the AGC of a chain acts: automatic mode, chain not blanked (R84, R86, R93). -/
def State.agcActs (s : State) (x : Nat) : Bool :=
  s.get (RXx_CTL_AGCMODE x) = 0 && !s.chainOff x && !s.txBlank

/-- AGC_ATTACK (R84): the index rises by 1, to 11 at most (R83). -/
def execAgcAttack (x : Fin 2) (s : State) : Host.Outcome State Fault Refusal :=
  .next (if s.agcActs x && decide (s.get (RXx_STAT_GAIN x) < 11) then s.set (RXx_STAT_GAIN x) (s.get (RXx_STAT_GAIN x) + 1) else s)

/-- AGC_DECAY (R84): the index falls by 1, to 0 at least. -/
def execAgcDecay (x : Fin 2) (s : State) : Host.Outcome State Fault Refusal :=
  .next (if s.agcActs x && decide (0 < s.get (RXx_STAT_GAIN x)) then s.set (RXx_STAT_GAIN x) (s.get (RXx_STAT_GAIN x) - 1) else s)

/-- A write of RXx_CTL.AGCMODE and MANGAIN (R86); reserved encodings leave their fields (R6). -/
def State.writeAgc (s : State) (x w : Nat) : State :=
  let s := if bits w 8 2 = 3 then s else s.set (RXx_CTL_AGCMODE x) (bits w 8 2)
  let s := if 11 < bits w 16 4 then s else s.set (RXx_CTL_MANGAIN x) (bits w 16 4)
  if s.get (RXx_CTL_AGCMODE x) = 2 then s.set (RXx_STAT_GAIN x) (s.get (RXx_CTL_MANGAIN x)) else s

/-- AGC_MODE_WRITE (R86). -/
def execAgcModeWrite (x : Fin 2) (w : Word) (s : State) : Host.Outcome State Fault Refusal := .next (s.writeAgc x w.toNat)

/-- A write of RXx_CTL.EN (R107, R92): clearing it loses the chain's frames in split operation. -/
def State.writeRxEn (s : State) (x : Nat) (en : Bool) : State :=
  let was := s.flag (RXx_CTL_EN x)
  let s := s.setB (RXx_CTL_EN x) en
  if en then
    if was then s
    else ((s.updChain x fun c => { c with blRet := !s.flag (SYNx_STAT_LOCK x), upAt := s.tbs.now }).rxStat x)
  else
    let s := if s.combined && !s.chainOff (1 - x) then s else s.loseSlots CHB_LOSTB_OTHER (s.chainSlots x)
    s.rxStat x

/-- CHAIN_ENABLE_WRITE (R107). -/
def execChainEnableWrite (x : Fin 2) (en : Bool) (s : State) : Host.Outcome State Fault Refusal := .next (s.writeRxEn x en)

/-- A write of RXx_SVC.REQ (R96 to R98, R101). DEDUCED: a RETURNING chain taken out again is OUT at once, since it
has not rejoined. -/
def State.writeSvcReq (s : State) (x : Nat) (req : Bool) : State :=
  if req then
    if s.svc (1 - x) ≠ 0 then s.set (RXx_STAT_SVCREJ x) 1
    else
      let s := s.sets [(RXx_STAT_SVCREJ x, 0), (RXx_SVC_REQ x, 1)]
      if s.svc x = 3 then (s.set (RXx_STAT_SVC x) 2).set (RXx_STAT_CAUSE x) 0
      else if s.svc x ≠ 0 then s
      else if s.combined then s.chainOut x 0
      else (s.set (RXx_STAT_SVC x) 1).updChain x fun c => { c with waited := 0 }
  else
    let s := s.sets [(RXx_STAT_SVCREJ x, 0), (RXx_SVC_REQ x, 0)]
    if s.svc x = 1 then s.set (RXx_STAT_SVC x) 0
    else if s.svc x = 2 then
      let s := s.set (RXx_STAT_SVC x) 3
      let s := if s.flag (CAL_ITEMn_AUTO x) && !s.flag (CAL_ITEMn_PEND x) then
          { s.set (CAL_ITEMn_PEND x) 1 with cal := { s.cal with dueAt := Tab.set 0 s.cal.dueAt x s.tick } }
        else s
      let s := (s.set (SYNx_CTL_EN x) 1)
      let s := if s.combined && x = 1 then s.synTake 1 (s.get (SYNx_FREQ_FREQ 0)) else (s.freqCommand x (s.planFreq x)).2
      let s := s.testGone
      if s.combined && s.flag (SYNx_STAT_LOCK x) then s.chainBack x else s
    else s

/-- CHAIN_REMOVAL_REQUEST (R96). -/
def execChainRemovalRequest (x : Fin 2) (s : State) : Host.Outcome State Fault Refusal := .next (s.writeSvcReq x true)

/-- CHAIN_RETURN_REQUEST (R101). -/
def execChainReturnRequest (x : Fin 2) (s : State) : Host.Outcome State Fault Refusal := .next (s.writeSvcReq x false)

/-- A frame that runs on one branch for its whole length is marked ONEBR (R134); a branch that takes
part clears the mark at its rejoining. -/
def State.branch (s : State) (k : Nat) (b drop : Bool) : State :=
  let s := s.updSlot k fun t => if b then { t with dropB := drop } else { t with dropA := drop }
  match s.frame k with
  | none => s
  | some f => if drop then s else s.setFrame k (some { f with oneBr := false })

/-- BRANCH_REJOIN (R92): in combined operation, with the branch's chain able to serve. -/
def execBranchRejoin (k : Fin 128) (b : Bool) (s : State) : Host.Outcome State Fault Refusal :=
  .next (if s.combined && !s.chainOff b.toNat && !(s.chn b.toNat).unrel then s.branch k b false else s)

/-- BRANCH_DROP_OUT (R92): the slot runs on the other branch alone; no frame is lost. -/
def execBranchDropOut (k : Fin 128) (b : Bool) (s : State) : Host.Outcome State Fault Refusal :=
  .next (if s.combined then s.branch k b true else s)

end Sys2Proof.Machine
end

