-- ==== Sys2Proof/Machine/Chb.lean ====
section
/-!
DEFINITION. The channel bank (spec/05_channel_bank.md): the channel plan and its checks, detection,
sync search, overlap, cancellation, energy.
-/

namespace Sys2Proof.Machine

open Reg

/-! ## Frequencies, in units of 1/8192 Hz (R55, R77, R78) -/

/-- A frequency word's carrier in units of 1/8192 Hz (R55). -/
def carrierU (w : Nat) : Int := (w * 15625 : Nat)

/-- One bin spacing, 12.5 kHz, in those units. -/
def binU : Int := 12500 * 8192

/-- The centre of a channel of `n` bins from bin `b` on, in a span centred on word `w` (R78). -/
def centreU (w b n : Nat) : Int := carrierU w + ((2 * b + n : Nat) - 321) * (binU / 2)

/-- WIDTH in bins. -/
def widthBins (d0 : Nat) : Nat := 2 ^ bits d0 21 3

/-! ## Plan checks (R112) -/

/-- REASON CODE of a descriptor (R110 to R112), which is checked whether or not EN is set. -/
def descCode (d : Nat → Nat) : Bool :=
  let d0 := d 0
  let fmt := bits d0 24 4
  let nh := bits d0 16 2
  4 < bits d0 21 3 || 3 < fmt || bits d0 18 3 ≠ 0 || bits d0 9 7 ≠ 0 ||
  bits (d 3) 26 6 ≠ 0 || bits (d 3) 13 1 ≠ 0 ||
  (fmt ≠ 0 && (25 < bits (d 3) 8 5 || bits (d 3) 16 10 < 8)) ||
  (List.range 3).any fun h =>
    if h < nh then
      4 < bits (d (4 + 2 * h)) 29 3 || bits (d (4 + 2 * h)) 20 8 ≠ 0 || bits (d (5 + 2 * h)) 17 7 < 32 || bits (d (5 + 2 * h)) 15 2 ≠ 0
    else d (4 + 2 * h) ≠ 0 || d (5 + 2 * h) ≠ 0

/-- Whether a bin's two ends lie in a coverage range (R82): 0 low, 1 high. -/
def binIn (w : Nat) (r : Nat) (k : Int) : Bool :=
  let c := carrierU w + (k - 160) * binU
  let lo : Int := if r = 0 then 400000000 * 8192 else 800000000 * 8192
  let hi : Int := if r = 0 then 480000000 * 8192 else 960000000 * 8192
  decide (lo ≤ c - binU / 2 ∧ c + binU / 2 ≤ hi)

/-- The bins an acquisition window adds on each side (R117). -/
def acqBins (d : Nat → Nat) (w : Nat) : Nat :=
  if bits (d 0) 24 4 = 0 then 0
  else ceilDiv (bits (d 3) 8 5 * (centreU w (bits (d 0) 0 9) (widthBins (d 0))).toNat) (1000000 * 12500 * 8192)

/-- REASON BINS of a descriptor (R82, R112). -/
def descBins (d : Nat → Nat) (w : Nat) : Bool :=
  let e : Int := acqBins d w
  let a : Int := (bits (d 0) 0 9 : Nat) - e
  let z : Int := (bits (d 0) 0 9 : Nat) + (widthBins (d 0) : Nat) - 1 + e
  !(decide (32 ≤ a ∧ z ≤ 287) && ((binIn w 0 a && binIn w 0 z) || (binIn w 1 a && binIn w 1 z)))

/-- RATE of a hypothesis. -/
def hypRate (d : Nat → Nat) (h : Nat) : Nat := bits (d (4 + 2 * h)) 0 20
/-- MOD of a hypothesis. -/
def hypMod (d : Nat → Nat) (h : Nat) : Nat := bits (d (4 + 2 * h)) 29 3
/-- DEV of a hypothesis, in 4 Hz. -/
def hypDev (d : Nat → Nat) (h : Nat) : Nat := bits (d (5 + 2 * h)) 0 15
/-- L of a hypothesis. -/
def hypLen (d : Nat → Nat) (h : Nat) : Nat := bits (d (5 + 2 * h)) 26 6 + 1
/-- M of a hypothesis. -/
def hypSeg (d : Nat → Nat) (h : Nat) : Nat := 2 ^ bits (d (5 + 2 * h)) 24 2

/-- REASON RATE of a hypothesis. -/
def hypBadRate (d : Nat → Nat) (h : Nat) : Bool :=
  decide (hypRate d h < 3000 ∨ 1000000 < hypRate d h ∨ 62500 * widthBins (d 0) < hypRate d h)

/-- REASON BAND of a hypothesis: 2 × DEV + Rs exceeds W. -/
def hypBadBand (d : Nat → Nat) (h : Nat) : Bool :=
  if hypMod d h = 2 then decide (20 * 12500 * widthBins (d 0) < 3 * hypRate d h * 2)
  else decide (10 * 12500 * widthBins (d 0) < 80 * hypDev d h + hypRate d h)

/-- REASON DETECT of a hypothesis. -/
def hypBadDetect (d : Nat → Nat) (h : Nat) : Bool :=
  bit (d (4 + 2 * h)) 28 &&
    !(hypMod d h = 2 || (hypMod d h ≤ 1 && decide (45 * hypRate d h ≤ 8000 * hypDev d h ∧ 8000 * hypDev d h ≤ 55 * hypRate d h)))

/-- REASON PATTERN of a hypothesis. -/
def hypBadPattern (d : Nat → Nat) (h : Nat) : Bool :=
  decide (hypLen d h < 8 ∨ hypLen d h % hypSeg d h ≠ 0 ∨ hypLen d h / hypSeg d h < 4)

/-- Points of a hypothesis's frequency grid (R121). -/
def hypGrid (d : Nat → Nat) (w h : Nat) : Nat :=
  let f := bits (d 3) 8 5 * (centreU w (bits (d 0) 0 9) (widthBins (d 0))).toNat
  if f = 0 then 1 else ceilDiv (40 * hypLen d h * f) (1000000 * 8192 * hypSeg d h * hypRate d h) + 1

/-- Bits that differ in two words. -/
def bitDiff (a b : Nat) : Nat := ((List.range 32).filter fun i => a.testBit i != b.testBit i).length

/-- Whether a word may serve as a sync word of formats 1 and 2: far from both preamble patterns (R167). -/
def syncFar (w : Nat) : Bool := decide (8 ≤ bitDiff w 0x55555555 ∧ 8 ≤ bitDiff w 0xAAAAAAAA)

/-- The SYNC column of R167. -/
def syncOk (fmt w : Nat) : Bool :=
  match fmt with
  | 1 => decide (w / 65536 = 0xB94E) && syncFar w
  | 2 => syncFar w
  | _ => true

/-- The MOD and Rs columns of R167. -/
def modRateOk (fmt mod rate : Nat) : Bool :=
  match fmt with
  | 1 => decide (mod ≤ 1) && [12000, 24000, 48000, 96000, 192000, 384000].contains rate
  | 2 => decide (3000 ≤ rate ∧ rate ≤ 1000000)
  | _ => decide (mod ≠ 2) && decide (3000 ≤ rate ∧ rate ≤ 1000000)

/-- REASON FORMAT of a descriptor (R112, R167). -/
def descFormat (d : Nat → Nat) : Bool :=
  let fmt := bits (d 0) 24 4
  let nh := bits (d 0) 16 2
  if fmt = 0 then nh ≠ 0
  else nh = 0 || !syncOk fmt (d 2) || (fmt = 3 && 1 < bits (d 3) 14 2) ||
    (List.range nh).any fun h => !modRateOk fmt (hypMod d h) (hypRate d h)

/-- The first REASON of a descriptor whose chain's plan frequency is `w` (R112): 0 without error. -/
def descReason (d : Nat → Nat) (w : Nat) : Nat :=
  let hs := List.range (bits (d 0) 16 2)
  if descCode d then 3
  else if !bit (d 0) 31 then 0
  else if descBins d w then 4
  else if hs.any (hypBadRate d) then 5
  else if hs.any (hypBadBand d) then 6
  else if hs.any (hypBadDetect d) then 7
  else if hs.any (hypBadPattern d) then 8
  else if hs.any (fun h => decide (8192 < hypGrid d w h)) then 9
  else if descFormat d then 0xA
  else 0

/-- The first error of a plan image: its slot and REASON (R112). -/
def Plan.check (pl : Plan) : Nat × Nat :=
  let w0 := pl.word 0
  let comb := bit w0 8
  let fa := bits (pl.word 1) 0 29
  let fb := if comb then fa else bits (pl.word 2) 0 29
  if w0 % 256 ≠ 1 ∨ bits w0 9 7 ≠ 0 ∨ bits (pl.word 1) 29 3 ≠ 0 ∨ bits (pl.word 2) 29 3 ≠ 0 ∨ pl.word 3 ≠ 0 then (0, 1)
  else if !freqOk fa || !freqOk fb then (0, 2)
  else
    match (List.range 128).find? fun k => descReason (pl.desc k) (if k < 64 then fa else fb) ≠ 0 with
    | some k => (k, descReason (pl.desc k) (if k < 64 then fa else fb))
    | none => (0, 0)

/-! ## Loading and activating a plan (R113 to R115) -/

/-- The plan image at a partition address of P0's data window, as it stands (R108). -/
def State.readPlan (s : State) (a : Nat) : Plan :=
  { words := (List.range 1284).foldl (fun t i => Tab.set 0 t i (ofOctets (s.winOcts 0 (a + 4 * i) 4))) [] }

/-- Whether a plan image lies wholly inside P0's data window (R112, READ). -/
def State.planReadable (s : State) (a : Nat) : Bool :=
  (s.physData 0 a).isSome && (s.physData 0 (a + 5135)).isSome

/-- CANCEL: the pending plan is discarded (R113). -/
def State.planCancel (s : State) : State :=
  ({ s with chb := { s.chb with pend := none, nowDue := false } }).sets
    [(CHB_PLANSTAT_PEND, 0), (CHB_PLANSTAT_HELD, 0), (CHB_PLANSTAT_PLANID, 0)]

/-- LOAD (R113): the image is locked and judged as it stands; a LOAD during a load is refused (R112, BUSY). -/
def State.planLoad (s : State) (now : Bool) : State :=
  if s.chb.load.isSome then
    let s := s.sets [(CHB_PLANSTAT_ERR, 1), (CHB_PLANSTAT_REASON, 0xC), (CHB_PLANSTAT_ERRSLOT, 0)]
    if now then s.set CHB_PLANSTAT_NOWREJ 1 else s
  else
    let a := s.get CHB_PLANADDR_ADDR * 4
    let ok := s.planReadable a
    ({ s with chb := { s.chb with load := some { addr := a, ok := ok, plan := if ok then s.readPlan a else {}, now := now } } }).set
      CHB_PLANSTAT_BUSY 1

/-- NOW (R115): accepted only with a plan pending and no slot of the active plan enabled. -/
def State.planNow (s : State) : State :=
  if s.chb.pend.isSome && !(allSlots.any s.slotEn) then
    ({ s with chb := { s.chb with nowDue := true } }).set CHB_PLANSTAT_NOWREJ 0
  else s.set CHB_PLANSTAT_NOWREJ 1

/-- A write of CHB_PLANCTL: CANCEL, then LOAD, then NOW (R113). -/
def State.writePlanCtl (s : State) (w : Nat) : State :=
  let s := if bit w 2 then s.planCancel else s
  if bit w 0 then s.planLoad (bit w 1)
  else if bit w 1 then (if bit w 2 then s.set CHB_PLANSTAT_NOWREJ 1 else s.planNow)
  else s

/-- PLAN_LOAD (R113). -/
def execPlanLoad (s : State) : Host.Outcome State Fault Refusal := .next (s.planLoad false)

/-- The end of a plan load (R112, R113). -/
def State.planLoadEnd (s : State) (l : PlanLoad) : State :=
  let s := { s with chb := { s.chb with load := none } }
  let s := s.set CHB_PLANSTAT_BUSY 0
  let e := if l.ok then l.plan.check else (0, 0xB)
  if e.2 ≠ 0 then
    let s := s.sets [(CHB_PLANSTAT_ERR, 1), (CHB_PLANSTAT_REASON, e.2), (CHB_PLANSTAT_ERRSLOT, e.1)]
    if l.now then s.set CHB_PLANSTAT_NOWREJ 1 else s
  else
    let s := { s with chb := { s.chb with pend := some l.plan } }
    let s := s.sets [(CHB_PLANSTAT_PEND, 1), (CHB_PLANSTAT_ERR, 0), (CHB_PLANSTAT_HELD, 0), (CHB_PLANSTAT_REASON, 0),
      (CHB_PLANSTAT_ERRSLOT, 0), (CHB_PLANSTAT_NOWREJ, 0), (CHB_PLANSTAT_PLANID, l.plan.word 0 / 65536)]
    if l.now then s.planNow else s

/-- PLAN_LOAD_DONE (R112). -/
def execPlanLoadDone (s : State) : Host.Outcome State Fault Refusal :=
  .next (match s.chb.load with | some l => s.planLoadEnd l | none => s)

/-- PLAN_CANCEL (R113). -/
def execPlanCancel (s : State) : Host.Outcome State Fault Refusal := .next s.planCancel

/-- PLAN_NOW (R115). -/
def execPlanNow (s : State) : Host.Outcome State Fault Refusal := .next s.planNow

/-- CHB_STAT.RUN: the bank running with an active plan. -/
def State.chbRun (s : State) : State := s.setB CHB_STAT_RUN (s.flag CHB_CTL_EN && s.chb.active.isSome)

/-- A plan becomes active (R114): chains move to their plan frequencies; a slot keeps what it holds only
with its ten words unchanged on a chain that is not retuned. -/
def State.planActivate (s : State) (pl : Plan) : State :=
  let comb := bit (pl.word 0) 8
  let f := fun x => bits (pl.word (if x = 0 || comb then 1 else 2)) 0 29
  let moveA := f 0 ≠ s.get (SYNx_FREQ_FREQ 0)
  let moveB := if comb then moveA else f 1 ≠ s.get (SYNx_FREQ_FREQ 1)
  let keep := fun k =>
    !(if comb then moveA else if k < 64 then moveA else moveB) &&
      (List.range 10).all fun i => match s.chb.active with | some o => decide (o.desc k i = pl.desc k i) | none => false
  let gone := allSlots.filter fun k => !keep k
  let s := s.loseSlots CHB_LOSTB_OTHER gone
  let s := { s with chb := { s.chb with active := some pl, pend := none, nowDue := false } }
  let s := s.sets [(CHB_STAT_PLANID, pl.word 0 / 65536), (CHB_PLANSTAT_PEND, 0), (CHB_PLANSTAT_HELD, 0), (CHB_PLANSTAT_PLANID, 0)]
  let s := if moveA then (s.freqCommand 0 (f 0)).2 else s
  let s := if moveB && !comb then (s.freqCommand 1 (f 1)).2 else s
  let one := !comb && (s.inService 0 != s.inService 1)
  let none' := !(s.inService 0) && !(s.inService 1)
  let rem := if s.inService 0 then 0 else 1
  let s := s.each gone fun s k => s.updSlot k fun _ =>
    { suspRem := none' || (one && !(s.subset k && s.fitsSpan k (f (k / 64)) (s.fbFreq rem))), from_ := s.tbs.now }
  let s := s.chbRun.chbCount
  if s.flag CLK_STAT_FALLBACK then s.fbRank else s

/-- A pending plan is examined, under the operation in force (R114, R115). -/
def State.planExamine (s : State) : State :=
  match s.chb.pend with
  | none => s
  | some pl =>
    if bit (pl.word 0) 8 != s.combined then s.set CHB_PLANSTAT_HELD 1 else s.planActivate pl

/-- PLAN_NOW_ACTIVATION (R115). -/
def execPlanNowActivation (s : State) : Host.Outcome State Fault Refusal :=
  .next (if s.chb.nowDue then ({ s with chb := { s.chb with nowDue := false } }).planExamine else s)

/-! ## Enabling and counters (R107, R143) -/

/-- A write of CHB_CTL.EN (R107). -/
def State.writeChbEn (s : State) (en : Bool) : State :=
  let s' :=
    if en then s.set CHB_CTL_EN 1
    else
      let s := s.loseSlots CHB_LOSTB_OTHER allSlots
      let s := s.each allSlots fun s k => s.updSlot k fun t => { t with ring := [], valid := 0, noise := none, from_ := s.tbs.now }
      s.set CHB_CTL_EN 0
  s'.chbRun

/-- BANK_ENABLE_WRITE (R107). -/
def execBankEnableWrite (en : Bool) (s : State) : Host.Outcome State Fault Refusal := .next (s.writeChbEn en)

/-- Clearing every CHB counter of every slot (R143). -/
def State.chbClear (s : State) : State :=
  let s := s.each allSlots fun s k => s.sets [(CHB_DETCNT_SYNCS.at k, 0), (CHB_DETCNT_DETS.at k, 0),
    (CHB_LOSTA_OVERLAP.at k, 0), (CHB_LOSTA_BLANK.at k, 0), (CHB_LOSTB_OTHER.at k, 0)]
  s.set CHB_SICSTAT_BUSYCNT 0

/-- CHB_CLEAR_COUNTERS (R143). -/
def execChbClearCounters (s : State) : Host.Outcome State Fault Refusal := .next s.chbClear

/-! ## Detection and overlap (R119, R122, R131, R132) -/

/-- Whether a slot's detectors run: SEARCH, SYNC or FRAME (R122). -/
def State.detecting (s : State) (k : Nat) : Bool :=
  let st := s.slotState s.txBlank k
  1 ≤ st && st ≤ 3 && s.slotFmt k ≠ 0

/-- The centre of a slot's channel in units of 1/8192 Hz (R78). -/
def State.slotCentre (s : State) (k : Nat) : Int :=
  let x := if s.combined then 0 else s.slotChain k
  centreU (s.get (SYNx_FREQ_FREQ x)) (bits (s.desc k 0) 0 9) (widthBins (s.desc k 0))

/-- Whether a slot has a hypothesis with a FMT, MOD, RATE and DEV. -/
def State.hasHyp (s : State) (k fmt mod rate dev : Nat) : Bool :=
  s.slotFmt k = fmt && (List.range (bits (s.desc k 0) 16 2)).any fun h =>
    decide (hypMod (s.desc k) h = mod ∧ hypRate (s.desc k) h = rate ∧ hypDev (s.desc k) h = dev)

/-- Whether a nearer slot keeps a detection (R119): `foff` Hz from the slot's centre. -/
def State.nearer (s : State) (k h : Nat) (foff : Int) : Bool :=
  let f := s.slotCentre k + foff * 8192
  let d := (f - s.slotCentre k).natAbs
  allSlots.any fun j =>
    j ≠ k && s.slotEn j && !((s.slot j).suspFb || (s.slot j).suspRem) &&
      (s.combined || s.slotChain j = s.slotChain k) &&
      s.hasHyp j (s.slotFmt k) (hypMod (s.desc k) h) (hypRate (s.desc k) h) (hypDev (s.desc k) h) &&
      (decide ((f - s.slotCentre j).natAbs < d) || (decide ((f - s.slotCentre j).natAbs = d) && decide (j < k)))

/-- Starting or restarting a sync search (R122, R124). -/
def State.startSearch (s : State) (k h lam : Nat) (foff : Int) (cap : Bool) : State :=
  s.updSlot k fun t =>
    match t.searches.find? fun q => q.hyp = h with
    | some q => if q.lam < lam then
        { t with searches := { hyp := h, lam := lam, foff := foff, capture := cap } :: t.searches.filter fun q => q.hyp ≠ h } else t
    | none => { t with searches := { hyp := h, lam := lam, foff := foff, capture := cap } :: t.searches }

/-- Whether a hypothesis may be cancelled: 2-GFSK at 4.8 ksym/s at most. -/
def State.sicHyp (s : State) (k h : Nat) : Bool := hypMod (s.desc k) h = 1 && hypRate (s.desc k) h ≤ 48000

/-- A second detection while a frame is in progress (R131): `dP` is P_B - P_A in 0.25 dB. -/
def State.secondDetection (s : State) (k h lam : Nat) (foff dP : Int) (f : RxFrame) : State :=
  let lost := fun (s : State) => s.count (CHB_LOSTA_OVERLAP.at k) 1
  if (s.slot k).sic.isSome then lost s
  else
    let e := s.sicHyp k f.hyp && s.sicHyp k h && bit (s.desc k 0) 28 && s.flag CHB_CTL_SICEN
    let free := decide (s.get CHB_SICSTAT_INUSE < 16)
    let s := if e && !free then s.count CHB_SICSTAT_BUSYCNT 1 else s
    if 12 ≤ dP ∧ dP < 24 ∧ e && free then
      let s := (s.updSlot k fun t => { t with sic := some { weaker := false, hyp := h } }).set CHB_SICSTAT_INUSE (s.get CHB_SICSTAT_INUSE + 1)
      s.startSearch k h lam foff true
    else if 12 ≤ dP then s.startSearch k h lam foff true
    else if -24 < dP ∧ dP ≤ -12 ∧ e && free then
      (s.updSlot k fun t => { t with sic := some { weaker := true, hyp := h } }).set CHB_SICSTAT_INUSE (s.get CHB_SICSTAT_INUSE + 1)
    else lost s

/-- PREAMBLE_DETECTION (R122): a kept detection counts, and starts a sync search or meets the frame in progress. -/
def execPreambleDetection (k : Fin 128) (h : Fin 3) (lam : Nat) (foff dP : Int) (s : State) : Host.Outcome State Fault Refusal :=
  .next (if s.detecting k && decide (h.val < bits (s.desc k 0) 16 2) && !s.nearer k h foff then
    let s := s.count (CHB_DETCNT_DETS.at k) 1
    match s.frame k with
    | some f => s.secondDetection k h lam foff dP f
    | none => s.startSearch k h lam foff false
  else s)

/-- Releasing a slot's canceller (R132). -/
def State.sicFree (s : State) (k : Nat) : State :=
  if (s.slot k).sic.isSome then
    (s.updSlot k fun t => { t with sic := none }).set CHB_SICSTAT_INUSE (s.get CHB_SICSTAT_INUSE - 1)
  else s

/-- SYNC_SEARCH_TIMEOUT (R124): the search ends without result; a canceller taken for it is released. -/
def execSyncSearchTimeout (k : Fin 128) (h : Fin 3) (s : State) : Host.Outcome State Fault Refusal :=
  .next (if (s.slot k).searches.any fun q => q.hyp = h.val then
    let s := s.updSlot k fun t => { t with searches := t.searches.filter fun q => q.hyp ≠ h.val }
    match (s.slot k).sic with
    | some c => if !c.weaker && c.hyp = h.val && (s.frame (128 + k)).isNone then s.sicFree k else s
    | none => s
  else s)

/-- Opening a trellis context for a frame (R170). -/
def State.ctxOpen (s : State) (fid : Nat) : State := { s with trl := { s.trl with wait := s.trl.wait ++ [fid] } }

/-- A frame claims a slot under a number (R125, R130, R134). -/
def State.claim (s : State) (fid k h stamp : Nat) (rssi : Int) (a b : Option Int) (snr foff : Int) (cap sic sfdc : Bool) : State :=
  let one := s.combined && (s.chainOff 0 || s.chainOff 1 || (s.chn 0).unrel || (s.chn 1).unrel || (s.slot k).dropA || (s.slot k).dropB || !bit (s.desc k 0) 30)
  let f : RxFrame := {
    slot := k, hyp := h, fmt := s.slotFmt k, chain := (if s.combined then 0 else s.slotChain k), stamp := stamp,
    rssi := rssi, rssiA := (if s.combined then a else none), rssiB := (if s.combined then b else none),
    snr := snr, foff := foff, cap := cap, sic := sic, oneBr := one, sfdc := sfdc, f3rsc := s.get PKT_F3CFG_RSC, fr := s.get SYS_FRPARTS_PARTS }
  (s.setFrame fid (some f)).ctxOpen fid

/-- A found sync word (R73, R124, R125, R131): the slot is claimed, other searches are abandoned; a search
that ran beside a frame drops that frame, or leaves it to the canceller. -/
def State.syncFound (s : State) (k h stamp : Nat) (rssi : Int) (a b : Option Int) (snr foff : Int) (sfdc : Bool) : State :=
  let s := s.count (CHB_DETCNT_SYNCS.at k) 1
  let s := s.updSlot k fun t => { t with searches := [] }
  if !s.combined && decide (stamp < (s.chn (s.slotChain k)).lockAt) then s
  else
    let old := s.frame k
    let s := match old, (s.slot k).sic with
      | some f, some _ => (s.setFrame (128 + k) (some { f with sic := true })).setFrame k none
      | some _, none => (s.endFrame k).count (CHB_LOSTA_OVERLAP.at k) 1
      | none, _ => s
    s.claim k k h stamp rssi a b snr foff (old.isSome && (s.slot k).sic.isNone) false sfdc

/-- SYNC_WORD_FOUND (R125). -/
def execSyncWordFound (k : Fin 128) (h : Fin 3) (stamp : BitVec 62) (rssi : Int) (rssiA rssiB : Option Int) (snr foff : Int) (sfdc : Bool)
    (s : State) : Host.Outcome State Fault Refusal :=
  .next (if s.detecting k && (s.slot k).searches.any fun q => q.hyp = h.val then
    s.syncFound k h stamp.toNat rssi rssiA rssiB snr foff sfdc
  else s)

/-- The weaker frame is lost and the canceller released (R132). -/
def State.sicLost (s : State) (k : Nat) : State :=
  match (s.slot k).sic with
  | none => s
  | some _ => ((s.endFrame (128 + k)).count (CHB_LOSTA_OVERLAP.at k) 1).sicFree k

/-- CANCELLER_RECORDING_END (R132). -/
def execCancellerRecordingEnd (k : Fin 128) (s : State) : Host.Outcome State Fault Refusal := .next (s.sicLost k)

/-- SIC_RECOVERY_DONE (R133): after the stronger frame passed its FCS, the weaker one reaches PKT with its
own stamp and the SIC flag; the canceller is released. -/
def execSicRecoveryDone (k : Fin 128) (stamp : BitVec 62) (rssi : Int) (rssiA rssiB : Option Int) (snr foff : Int) (s : State) :
    Host.Outcome State Fault Refusal :=
  .next (match (s.slot k).sic with
    | none => s
    | some c =>
      if !c.strongOk then s
      else if c.weaker then (s.claim (128 + k) k c.hyp stamp.toNat rssi rssiA rssiB snr foff false true false).sicFree k
      else s.sicFree k)

/-! ## Energy (R126, R138) -/

/-- Whether a sample of the period that ended at tick `e` is valid (R138). -/
def State.sampleOk (s : State) (k e : Nat) : Bool :=
  let from_ := (e - 40) * 64
  let up := fun x => !s.chainOff x && !(s.chn x).unrel && decide ((s.chn x).upAt ≤ from_)
  !s.txBlank && decide (s.txm.clearAt ≤ from_) && decide ((s.slot k).from_ ≤ from_) &&
    (if s.combined then (if s.inService 0 then up 0 else up 1) else up (s.slotChain k))

/-- ENERGY_SAMPLE (R138): at the end of a 40-tick period every enabled slot records its sample; N0 follows
where the slot neither searches nor receives (R126). -/
def execEnergySample (e n0 : List (Nat × Int)) (s : State) : Host.Outcome State Fault Refusal :=
  let end_ := s.tick / 40 * 40
  .next (if !s.flag CHB_CTL_EN then s else
    s.each (allSlots.filter s.slotEn) fun s k =>
      let v := (e.find? fun x => x.1 = k).map Prod.snd
      let ok := v.isSome && s.sampleOk k end_
      let st := s.slotState s.txBlank k
      s.updSlot k fun t => { t with
        ring := ((if ok then v else none) :: t.ring).take 256
        valid := if ok then min (t.valid + 1) 256 else 0
        noise := if ok && st ≠ 2 && st ≠ 3 then ((n0.find? fun x => x.1 = k).map Prod.snd <|> t.noise) else t.noise
        period := end_ })

/-! ## The trellis pool (R171, R172, R175) -/

/-- The class of a context (R171): 0 PHR, 1 END or STREAM, 2 DIRECT. -/
def State.ctxClass (s : State) (c : Nat) : Nat :=
  match s.frame c with
  | some f => if f.stage = .phr then 0 else 1
  | none => 2

/-- The context a decoder takes: the first class with a context ready, the one that waited longest. -/
def State.ctxPick (s : State) (ready : List Nat) : Option Nat :=
  let w := s.trl.wait.filter ready.contains
  match w.find? fun c => s.ctxClass c = 0 with
  | some c => some c
  | none => match w.find? fun c => s.ctxClass c = 1 with
    | some c => some c
    | none => w.head?

/-- DECODER_QUANTUM_END (R171, R172, R175): the decoder puts its context back and takes the next ready one,
or stops where it is out of service. -/
def execDecoderQuantumEnd (d : Fin 4) (ready : List Nat) (lat : Nat) (s : State) : Host.Outcome State Fault Refusal :=
  let back := match Tab.get none s.trl.dec d with | some c => [c] | none => []
  let s := { s with trl := { dec := Tab.set none s.trl.dec d none, wait := s.trl.wait ++ back } }
  let s := s.set TRL_LATMAX_CYC (max (s.get TRL_LATMAX_CYC) (min lat 0xFFFF))
  let out := (s.get TRL_SVC_OUT).testBit d
  let s := s.set TRL_STAT_INSVC (putBits (s.get TRL_STAT_INSVC) d 1 (if out then 0 else 1))
  let pick := if out || !s.flag TRL_CTL_EN then none else s.ctxPick ready
  let s := match pick with
    | some c => { s with trl := { dec := Tab.set none s.trl.dec d (some c), wait := s.trl.wait.filter fun x => x ≠ c } }
    | none => s
  .next (s.set TRL_STAT_BUSY (putBits (s.get TRL_STAT_BUSY) d 1 (if pick.isSome then 1 else 0)))

/-- A write of TRL_SVC.OUT (R175): refused where it would leave no decoder in service. -/
def State.writeTrlSvc (s : State) (out : Nat) : State :=
  if out % 16 = 15 then s.set TRL_STAT_SVCREJ 1
  else
    let s := s.sets [(TRL_SVC_OUT, out), (TRL_STAT_SVCREJ, 0)]
    (s.set TRL_STAT_INSVC (s.get TRL_STAT_INSVC - (s.get TRL_STAT_INSVC &&& (out % 16) &&& (15 - s.get TRL_STAT_BUSY)))).testGone

/-- DECODER_SERVICE_WRITE (R175). -/
def execDecoderServiceWrite (out : BitVec 4) (s : State) : Host.Outcome State Fault Refusal := .next (s.writeTrlSvc out.toNat)

end Sys2Proof.Machine
end

