-- ==== Sys2Proof/Machine/SecOps.lean ====
section
/-!
DEFINITION. Shared operations of keys and counters (spec/13): the key store (R385), key slots (R386),
usage counts (R387), counter records (R388, R517), promotion (R391), CCM* of a frame (R154, R376).
-/

namespace Sys2Proof.Machine

open Reg

/-! ## The key store (R385, R514) -/

/-- The first address of the key store. -/
def ksFirst : Nat := 0x000C4000
/-- The first record of the partitions' key tables: SV holds the 48 before it. -/
def ksTable : Nat := 48
/-- The address of a record. -/
def ksAddr (r : Nat) : Nat := ksFirst + 32 * r
/-- KIND of a record. -/
def State.ksKind (s : State) (r : Nat) : Nat := s.num (ksAddr r + 24) 1
/-- PART of a record. -/
def State.ksPart (s : State) (r : Nat) : Nat := s.num (ksAddr r + 25) 1
/-- REF of a record. -/
def State.ksRef (s : State) (r : Nat) : Nat := s.num (ksAddr r + 26) 2
/-- The records of the partitions' key tables. -/
def ksRecs : List Nat := (List.range 976).map (· + ksTable)
/-- The records a partition holds (R385). -/
def State.ksHeld (s : State) (p : Nat) : Nat := (ksRecs.filter fun r => s.ksKind r ≠ 0 && s.ksPart r = p).length
/-- A partition's record of a kind with a reference. -/
def State.ksFind (s : State) (p kind ref : Nat) : Option Nat :=
  ksRecs.find? fun r => decide (s.ksKind r = kind) && decide (s.ksPart r = p) && decide (s.ksRef r = ref)
/-- The lowest free record, where the partition is below its share. -/
def State.ksFree (s : State) (p : Nat) : Option Nat :=
  if s.ksHeld p < s.get (KEY_TQUOTAp_QUOTA p) then ksRecs.find? fun r => s.ksKind r = 0 else none
/-- Writing a record. -/
def State.ksPut (s : State) (r kind p ref use : Nat) (data : List Byte) : State :=
  s.store (ksAddr r) ((data ++ List.replicate 24 0).take 24 ++ octets 1 kind ++ octets 1 p ++ octets 2 ref ++ octets 4 use)

/-- The installer key, P0's owner key: SV's record 0, wrapped under the DUK (R384). -/
def State.installerKey (s : State) : Option (List Byte) := Config.keyUnwrap Config.svRecordKey (s.octs (ksAddr 0) 24)

/-- A partition's owner key, unwrapped under the installer key (R384). -/
def State.ownerKey (s : State) (p : Nat) : Option (List Byte) :=
  if p = 0 then s.installerKey
  else match s.installerKey with
    | some k => Config.keyUnwrap k (s.octs (ksAddr p) 24)
    | none => none

/-- The wrapped octets of a key of a partition; none where it is not held. -/
def State.wrappedKey (s : State) (p : Nat) : KRef → Option (List Byte)
  | .owner => some (s.octs (ksAddr p) 24)
  | .cur li => some (s.octs (ntFirst + 64 * s.entOf p li) 24)
  | .next li => (s.ksFind p 5 li).map fun r => s.octs (ksAddr r) 24
  | .gen n => match s.ksFind p 2 n with
    | some r => some (s.octs (ksAddr r) 24)
    | none => match s.ksFind p 3 n, s.ksFind p 4 n with
      | some r, some r' => some (s.octs (ksAddr r) 24 ++ s.octs (ksAddr r') 16)
      | _, _ => none

/-- A key of a partition, unwrapped under its owner key. -/
def State.plainKey (s : State) (p : Nat) (k : KRef) : Option (List Byte) :=
  match k with
  | .owner => s.ownerKey p
  | _ => match s.ownerKey p, s.wrappedKey p k with
    | some o, some w => Config.keyUnwrap o w
    | _, _ => none

/-! ## Key slots (R386) -/

/-- Slots a partition holds. -/
def State.slotsOf (s : State) (p : Nat) : Nat := (s.key.slots.filter fun x => x.p = p).length

/-- Zeroing the slots of some keys. -/
def State.zeroSlots (s : State) (f : KSlot → Bool) : State :=
  { s with key := { s.key with slots := s.key.slots.filter fun x => !f x } }

/-- The list without its last element of a partition. -/
def dropLastOf (p : Nat) : List KSlot → List KSlot
  | [] => []
  | x :: t => if x.p = p && !(t.any fun y => y.p = p) then t else x :: dropLastOf p t

/-- Putting a key into a slot of its partition: the least recently used is zeroed where KSLOTQ are held. -/
def State.cache (s : State) (p : Nat) (k : KRef) (key : List Byte) : State :=
  let rest := s.key.slots.filter fun x => !decide (x.p = p ∧ x.ref = k)
  let rest := if (s.part p).desc.kslotQ ≤ (rest.filter fun x => x.p = p).length then dropLastOf p rest else rest
  { s with key := { s.key with slots := { p := p, ref := k, key := key } :: rest } }

/-- Block operations of the cores (R368). -/
def State.blocks (s : State) (n : Nat) : State := s.set SEC_BLKCNT_COUNT (s.get SEC_BLKCNT_COUNT + n)

/-- Blocks of one CCM* operation (R375): B0, the authenticated data with its length, the payload twice, the MIC. -/
def ccmBlocks (aad pay : Nat) : Nat := 2 + ceilDiv (2 + aad) 16 + 2 * ceilDiv pay 16

/-- Bringing a key into a slot: from its slot, or unwrapped under the owner key, which takes a slot
itself; none where it does not unwrap. -/
def State.useKey (s : State) (p : Nat) (k : KRef) : Option (List Byte × State) :=
  match s.key.slots.find? fun x => decide (x.p = p ∧ x.ref = k) with
  | some x => some (x.key, s.cache p k x.key)
  | none => match s.ownerKey p, s.plainKey p k with
    | some o, some key =>
      let n := if s.key.slots.any fun x => decide (x.p = p ∧ x.ref = .owner) then 0 else 12
      some (key, ((s.cache p .owner o).cache p k key).blocks (n + 3 * (key.length / 4)))
    | _, _ => none

/-- Whether a partition can use keys: 2 slots under KSLOTQ, KEY_CTL.EN 1 (R386, R619). -/
def State.keysOn (s : State) (p : Nat) : Bool := decide (2 ≤ (s.part p).desc.kslotQ) && s.flag KEY_CTL_EN

/-! ## Usage counts (R387) -/

/-- LIMIT of a partition. -/
def State.keyLimit (s : State) (p : Nat) : Nat := s.get (KEY_ULIM_LIMIT.at p)
/-- The 90 % mark of a limit. -/
def keyMark (limit : Nat) : Nat := ceilDiv (9 * limit) 10

/-- Where a key's usage count lies. -/
def State.countAt (s : State) (p : Nat) : KRef → Option Nat
  | .owner => none
  | .cur li => some (ntFirst + 64 * s.entOf p li + 56)
  | .next li => (s.ksFind p 5 li).map fun r => ksAddr r + 28
  | .gen n => match s.ksFind p 2 n with
    | some r => some (ksAddr r + 28)
    | none => (s.ksFind p 3 n).map fun r => ksAddr r + 28

/-- A key's usage count. -/
def State.keyCount (s : State) (p : Nat) (k : KRef) : Nat :=
  match s.countAt p k with | some a => s.num a 4 | none => 0

/-- EV_KEY_LIMIT for a key at or above the mark, once (R387). -/
def State.keyNote (s : State) (p : Nat) (k : KRef) : State :=
  if keyMark (s.keyLimit p) ≤ s.keyCount p k && !s.key.noted.contains (p, k) then
    ({ s with key := { s.key with noted := (p, k) :: s.key.noted } }).raise p .keyLimit
  else s

/-- Forgetting that EV_KEY_LIMIT was raised for a key. -/
def State.keyUnnote (s : State) (p : Nat) (k : KRef) : State :=
  { s with key := { s.key with noted := s.key.noted.filter fun x => x ≠ (p, k) } }

/-! ## Counter records (R388, R517 to R519) -/

/-- The first address of the node-table checkpoint (R514). -/
def ckFirst : Nat := 0x000D4000
/-- Octets 36 to 39 of a record. -/
def State.ckOwner (s : State) (r : Nat) : Nat := s.num (ckFirst + 64 * r + 36) 4
/-- Whether a record is used. -/
def State.ckUsed (s : State) (r : Nat) : Bool := bits (s.num (ckFirst + 64 * r + 34) 2) 14 2 ≠ 0
/-- LIDX of a record. -/
def State.ckLidx (s : State) (r : Nat) : Nat := bits (s.ckOwner r) 7 9 * 16 + bits (s.ckOwner r) 20 4
/-- The partition of a record. -/
def State.ckPart (s : State) (r : Nat) : Nat := bits (s.ckOwner r) 0 5
/-- The records' numbers. -/
def ckRecs : List Nat := List.range 1536
/-- The record of an entry; none for a volatile entry (R518). -/
def State.ckFind (s : State) (p li : Nat) : Option Nat :=
  ckRecs.find? fun r => s.ckUsed r && decide (s.ckPart r = p) && decide (s.ckLidx r = li)
/-- The records a partition holds. -/
def State.ckHeld (s : State) (p : Nat) : Nat := (ckRecs.filter fun r => s.ckUsed r && decide (s.ckPart r = p)).length

/-- A field of an entry's record: RXLOW 48, TXRES 52, KURES 56. -/
def State.ckFld (s : State) (r off : Nat) : Nat := s.num (ckFirst + 64 * r + off) 4

/-- Whether a counter record of an entry waits at NVC. -/
def State.ckWaits (s : State) (p li : Nat) : Bool :=
  s.nvq.any fun q => match q with | .counter p' i _ => p' = p && i = li | _ => false

/-- ASC requests a counter record (R388). -/
def State.ckAsk (s : State) (p li : Nat) : State :=
  if s.ckWaits p li then s else { s with nvq := s.nvq ++ [.counter p li false] }

/-- ASC requests a counter record where a counter nears its reservation (R388); not for a volatile entry (R518). -/
def State.ckCheck (s : State) (p li : Nat) : State :=
  match s.ckFind p li with
  | none => s
  | some r =>
    let ph := s.entOf p li
    if s.ckFld r 52 ≤ s.ent ph 52 4 + 1024 || s.ckFld r 56 ≤ s.ent ph 56 4 + 1024 || s.ckFld r 48 + 16 < s.ent ph 48 4 then
      s.ckAsk p li
    else s

/-- ASC requests a record of an entry that has one: a change of VER (R519). -/
def State.ckAskHeld (s : State) (p li : Nat) : State := if (s.ckFind p li).isSome then s.ckAsk p li else s

/-- Whether an invocation of an association's key waits: it would bring KUSE to KURES (R388). -/
def State.useHolds (s : State) (p li : Nat) : Bool :=
  match s.ckFind p li with
  | none => false
  | some r => decide (s.ckFld r 56 ≤ s.ent (s.entOf p li) 56 4 + 1)

/-- Whether the waits of R388 hold back the counter value `ctr` and an invocation at the count `use`. -/
def State.ckHolds (s : State) (p li ctr use : Nat) : Bool :=
  match s.ckFind p li with
  | none => false
  | some r => decide (s.ckFld r 52 ≤ ctr) || decide (s.ckFld r 56 ≤ use + 1)

/-- One invocation of a key (R387): its count rises, EV_KEY_LIMIT at the mark, a counter record where due. -/
def State.invoke (s : State) (p : Nat) (k : KRef) : State :=
  match s.countAt p k with
  | none => s
  | some a =>
    let s := (s.putNum a 4 (min (s.num a 4 + 1) (s.keyLimit p))).keyNote p k
    match k with | .cur li => s.ckCheck p li | _ => s

/-! ## Next keys and promotion (R390, R391) -/

/-- Zeroing an association's next key: its record, its slot, NKEY. -/
def State.dropNext (s : State) (p li : Nat) : State :=
  let s := match s.ksFind p 5 li with | some r => s.zero (ksAddr r) 32 | none => s
  let s := (s.zeroSlots fun x => decide (x.p = p ∧ x.ref = .next li)).keyUnnote p (.next li)
  s.putFlag (s.entOf p li) 11 1 0

/-- A promotion (R391), with RXCNT set to `rx`. -/
def State.promote (s : State) (p li rx : Nat) : State :=
  match s.ksFind p 5 li with
  | none => s
  | some r =>
    let ph := s.entOf p li
    let use := s.num (ksAddr r + 28) 4
    let s := s.store (ntFirst + 64 * ph) (s.octs (ksAddr r) 24)
    let s := (s.putFlag ph 10 1 (1 - s.entFlag ph 10 1)).dropNext p li
    let s := s.zeroSlots fun x => decide (x.p = p ∧ x.ref = .cur li)
    let s := ((s.putEnt ph 56 4 use).putEnt ph 52 4 0).putEnt ph 48 4 rx
    let s := (s.keyUnnote p (.cur li)).keyNote p (.cur li)
    if (s.ckFind p li).isSome then (s.updAsc ph fun e => { e with promo := true }).ckAsk p li else s

/-! ## CCM* of a frame (R154, R164, R376) -/

/-- MIC octets of a SECLVL (R153). -/
def micLen (lvl : Nat) : Nat := match lvl % 4 with | 1 => 4 | 2 => 8 | 3 => 16 | _ => 0

/-- The nonce (R376): long address and counter most significant octet first, then the level. -/
def ccmNonce (laddr ctr lvl : Nat) : List Byte :=
  (octets 8 laddr).reverse ++ (octets 4 ctr).reverse ++ [BitVec.ofNat 8 lvl]

/-- The payload of a secured frame with its MIC verified: header, then ciphertext or payload with MIC. -/
def ccmCheck (key : List Byte) (laddr ctr lvl : Nat) (hdr body : List Byte) : Option (List Byte) :=
  let m := micLen lvl
  if 5 ≤ lvl then Config.ccmOpen key (ccmNonce laddr ctr lvl) hdr body m
  else
    let pay := body.take (body.length - m)
    (Config.ccmOpen key (ccmNonce laddr ctr lvl) (hdr ++ pay) (body.drop (body.length - m)) m).map fun _ => pay

/-- The payload and MIC of a frame to send. -/
def ccmApply (key : List Byte) (laddr ctr lvl : Nat) (hdr pay : List Byte) : List Byte :=
  let m := micLen lvl
  if 5 ≤ lvl then Config.ccmSeal key (ccmNonce laddr ctr lvl) hdr pay m
  else pay ++ Config.ccmSeal key (ccmNonce laddr ctr lvl) (hdr ++ pay) [] m

end Sys2Proof.Machine
end

