-- ==== Sys2Proof/Machine/RxOps.lean ====
section
/-!
DEFINITION. Shared operations of a received frame: its PHR and header (R148 to R153, R162, R165), the
check values (R180), the receive ring (R618), matching (R244), the acknowledgement (R227 to R229),
release (R21, R182, R382).
-/

namespace Sys2Proof.Machine

open Reg

/-! ## PHR (R148, R149, R165) -/

/-- The CRC of R149 over PHR bits 15:0, as PHR bits 23:16 hold it. -/
def phrCrc (phr : Nat) : Nat := reverseBits 8 ((List.range 16).foldl (fun r i => crcBit 8 7 r (phr.testBit i)) 0)

/-- LEN of a PHR: bits 10:0, the LEN octet in format 1. -/
def phrLen (fmt phr : Nat) : Nat := if fmt = 1 then bits phr 0 8 else bits phr 0 11
/-- FCS octets of a frame (R165, R180). -/
def fcsLen (fmt fcst : Nat) : Nat := if fmt = 1 then 2 else if fmt = 2 then (if fcst = 1 then 4 else 2) else if fcst = 1 then 2 else 4
/-- FCST of a PHR; in format 3 the FCS type, bit 12 in the order of the standard's PHR, mode switch in bit 15. -/
def phrFcst (fmt phr : Nat) : Nat := if fmt = 2 then bits phr 15 1 else if fmt = 3 then bits phr 12 1 else 0
/-- Whether a PHR names whitening. -/
def phrWht (fmt phr : Nat) : Bool := if fmt = 2 then bit phr 14 else if fmt = 3 then bit phr 11 else false

/-! ## Headers (R151 to R153, R162, R181) -/

/-- Octets of an address mode. -/
def addrLen (m : Nat) : Nat := if m = 1 then 2 else if m = 2 then 8 else 0

/-- The header of a native frame, and whether it ends the frame under R181. -/
def mhrNative (o : List Byte) (len fcst : Nat) : Mhr × Bool :=
  let fc := ofOctets (o.take 2)
  let dl := addrLen (bits fc 10 2)
  let sl := addrLen (bits fc 8 2)
  let sec := bit fc 7
  let sc := if sec then ofOctets ((o.drop (5 + dl + sl)).take 1) else 0
  let hl := 5 + dl + sl + if sec then 5 else 0
  let h : Mhr := {
    type := bits fc 0 3, pver := bits fc 3 3, ackReq := bit fc 6, sec := sec, pend := bit fc 12
    nid := ofOctets ((o.drop 2).take 2), seq := ofOctets ((o.drop 4).take 1)
    dam := bits fc 10 2, dst := ofOctets ((o.drop 5).take dl)
    sam := bits fc 8 2, src := ofOctets ((o.drop (5 + dl)).take sl)
    kid := bits sc 3 1, lvl := bits sc 0 3
    ctr := if sec then ofOctets ((o.drop (6 + dl + sl)).take 4) else 0, hlen := hl }
  (h, 6 ≤ bits fc 0 3 || bits fc 10 2 = 3 || bits fc 8 2 = 3 || bits fc 13 3 ≠ 0 || bits sc 0 3 = 4 || bits sc 4 4 ≠ 0 ||
    decide (len < hl + micLen (bits sc 0 3) + fcsLen 2 fcst))

/-- The header of a format 1 frame (R162), octets after LEN, and whether it ends the frame under R181. -/
def mhrForerunner (o : List Byte) (len nsync : Nat) : Mhr × Bool :=
  let fc := ofOctets (o.take 1)
  let h : Mhr := {
    type := bits fc 6 2, ackReq := bit fc 5, sec := bit fc 4, pend := bit fc 3
    nid := nsync, seq := ofOctets ((o.drop 5).take 1)
    dam := 1, dst := ofOctets ((o.drop 1).take 2).reverse
    sam := 1, src := ofOctets ((o.drop 3).take 2).reverse
    lvl := if bit fc 4 then 5 else 0, ctr := ofOctets ((o.drop 5).take 1), hlen := 6 }
  (h, bits fc 0 3 ≠ 0 || (bit fc 4 && decide (len < 12)))

/-- Whether a frame is secured (R154). -/
def RxFrame.secured (f : RxFrame) : Bool := f.hdr.sec && f.hdr.lvl ≠ 0

/-! ## Check values (R163, R180) -/

/-- Whether the FCS at the end of a PSDU passes; the format 1 CRC covers its LEN octet too. -/
def fcsOk (fmt fcst len : Nat) (psdu : List Byte) : Bool :=
  let n := fcsLen fmt fcst
  let d := psdu.take (psdu.length - n)
  let v := psdu.drop (psdu.length - n)
  if fmt = 1 then ofOctets v.reverse = crc 16 0x8005 0xFFFF false false 0 (BitVec.ofNat 8 len :: d)
  else if n = 2 then ofOctets v = crc 16 0x1021 0 true true 0 d
  else if fmt = 2 then ofOctets v = crc32c d
  else ofOctets v = crc32 d

/-! ## The receive ring (R618) -/

/-- Blocks of a record with a PSDU of `total` octets. -/
def recBlocks (total : Nat) : Nat := ceilDiv (64 + total) 128

/-- Blocks skipped before a record of `n` blocks, where it would wrap. -/
def State.ringSkip (s : State) (p n : Nat) : Nat :=
  let size := s.get (PRT_RXRING_SIZE.at p)
  let wr := s.get (PRT_RXPTR_WR.at p)
  if size < wr + n then size - wr else 0

/-- Whether the ring has room for a record of `n` blocks. -/
def State.ringRoom (s : State) (p n : Nat) : Bool :=
  let size := s.get (PRT_RXRING_SIZE.at p)
  let used := (s.get (PRT_RXPTR_WR.at p) + size - s.get (PRT_RXPTR_RD.at p)) % size
  size ≠ 0 && decide (n + s.ringSkip p n + used + 1 ≤ size)

/-- The partition address of a block of the ring. -/
def State.ringAddr (s : State) (p b : Nat) : Nat := pktFirst + 128 * (s.get (PRT_RXRING_BASE.at p) + b)

/-- Writing a record: header octets 0 to 35, the PSDU, the image its event goes to. -/
def State.ringPut (s : State) (p : Nat) (hdr psdu : List Byte) (imgB : Bool) : State :=
  let size := s.get (PRT_RXRING_SIZE.at p)
  let n := recBlocks psdu.length
  let k := s.ringSkip p n
  let wr := s.get (PRT_RXPTR_WR.at p)
  let s := if k = 0 then s else
    s.winStore p (s.ringAddr p wr) (List.replicate 36 0 ++ octets 2 k ++ octets 1 1 ++ List.replicate 25 0)
  let at' := if k = 0 then wr else 0
  let rec' := hdr ++ octets 2 n ++ octets 1 (if imgB then 2 else 0) ++ List.replicate 25 0 ++ psdu
  let s := s.winStore p (s.ringAddr p at') (rec' ++ List.replicate (128 * n - rec'.length) 0)
  s.set (PRT_RXPTR_WR.at p) ((at' + n) % size)

/-- Octets 0 to 35 of a record's header (R429). -/
def RxFrame.header (f : RxFrame) (total : Nat) : List Byte :=
  let b := fun (x : Bool) (i : Nat) => if x then 2 ^ i else 0
  octets 1 f.status ++
  octets 1 (f.fmt + b (f.fmt ≠ 3 && f.entry.isNone) 2 + b (f.fmt = 3) 3 + b f.cap 4 + b f.sic 5 + b f.oneBr 6 + b f.sfdc 7) ++
  octets 1 (f.slot + b (f.window = some true) 7) ++
  octets 1 (f.hyp + 4 * f.nidx + 16 * (if f.hdr.sec then f.hdr.lvl else 0)) ++
  octets 8 f.stamp ++ octets 2 (wrap 16 f.rssi) ++
  octets 2 (match f.rssiA with | some v => wrap 16 v | none => 0x8000) ++
  octets 2 (match f.rssiB with | some v => wrap 16 v | none => 0x8000) ++
  octets 2 (wrap 16 f.snr) ++ octets 1 f.lqi ++ octets 1 0 ++
  octets 2 (match f.entry with | some li => li | none => 0xFFFF) ++
  octets 4 (wrap 32 f.foff) ++ octets 4 (if f.secured then f.ctr else 0) ++ octets 2 total ++ octets 2 0

/-! ## Matching (R22 step 4, R244, R260) -/

/-- The position of a network ID in a list. -/
def nidIdx (l : List Nat) (nid : Nat) : Option Nat := l.findIdx? (· = nid)

/-- The partition and the index a network ID selects; a partition being purged serves none. -/
def State.nidOwner (s : State) (nid : Nat) : Option (Nat × Nat) :=
  match s.live.find? fun p => s.pstate p ≠ 5 && (s.part p).desc.nids.contains nid with
  | some p => (nidIdx (s.part p).desc.nids nid).map fun i => (p, i)
  | none => none

/-- The coordinator long address of a partition. -/
def State.coordAddr (s : State) (p : Nat) : Nat := s.get (ASC_CLADDRL_LADDR.at p) + 2 ^ 32 * s.get (ASC_CLADDRH_LADDR.at p)

/-- The association a source address matches, by local index (R244). -/
def State.lookup (s : State) (p nidx sam src : Nat) : Option Nat :=
  (s.entsOf p).find? fun li =>
    let ph := s.entOf p li
    if sam = 1 then s.entNidx ph = nidx && s.entSaddr ph = src else sam = 2 && s.ent ph 26 8 = src

/-- Whether a native frame's version is refused (R260). -/
def State.verRefused (s : State) (p li pver : Nat) : Bool :=
  let ph := s.entOf p li
  let v := s.entVer ph
  pver < s.get (AIR_BCNP_VERLO.at p) || s.get (AIR_BCNP_VERHI.at p) < pver || pver < v || v + 1 < pver ||
    (pver = v + 1 && bit (s.ent ph 38 2) 3)

/-- Whether a frame's destination is the coordinator (R227, R244, R587). -/
def State.toCoord (s : State) (p : Nat) (h : Mhr) : Bool :=
  (h.dam = 1 && h.dst = 0) || (h.dam = 2 && s.coordAddr p ≠ 0 && h.dst = s.coordAddr p)

/-- The matching transmit profile of a partition for a modulation, rate and deviation (R227). -/
def State.matchProf (s : State) (p mod rate dev : Nat) : Option Nat :=
  (List.range 16).find? fun n =>
    (s.get (TXM_PROFnC_PARTMASK n)).testBit p && s.get (TXM_PROFnA_MOD n) = mod && s.get (TXM_PROFnA_RATE n) = rate &&
      (mod = 2 || s.get (TXM_PROFnB_DEV n) = dev)

/-- The counter of a received frame: as carried, or inferred in format 1 (R586). -/
def rxCounter (fmt ctr rxcnt : Nat) : Nat :=
  if fmt ≠ 1 then ctr
  else
    let lo := rxcnt - 1
    lo + (ctr + 256 - lo % 256) % 256

/-! ## The acknowledgement (R227 to R229, R587) -/

/-- The end of a frame in fractions: its stamp and the symbols after its sync word (R227). -/
def RxFrame.endAt (f : RxFrame) (mod rate : Nat) : Nat :=
  let b := bitsPerSym mod
  f.stamp + (bitsAfter f.fmt f.code f.len b - 32) / b * 640000000 / rate

/-- The channel centre of a slot as a frequency word, to the nearest code (R55, R228). -/
def State.slotWord (s : State) (k : Nat) : Nat := ((2 * s.slotCentre k + 15625) / 31250).toNat

/-- Marking that a frame's acknowledgement cannot be sent (R225). -/
def State.missAck (s : State) (fid : Nat) : State :=
  match s.frame fid with | some f => s.setFrame fid (some { f with ackMiss := true }) | none => s

/-- The airtime 3 octets add to a group frame, in ticks (R229). -/
def groupCost (gcode rate b : Nat) : Nat := ceilDiv ((npsdu gcode 13 - npsdu gcode 10) * 10000000) (b * rate)

/-- Reserving an immediate acknowledgement or a group entry for a frame matched to an association. -/
def State.ackReserve (s : State) (fid : Nat) (f : RxFrame) (p li : Nat) : State :=
  let d := s.desc f.slot
  let mod := hypMod d f.hyp
  let rate := hypRate d f.hyp
  match s.matchProf p mod rate (hypDev d f.hyp) with
  | none => s
  | some n =>
    if !f.hdr.ackReq || !s.toCoord p f.hdr || !s.flag (AIR_ACKCFG_EN.at p) then s
    else if !s.airOn then s.missAck fid
    else if f.fmt = 2 && s.flag (AIR_ACKGRP_GEN.at p) && rate < s.get (AIR_ACKGRP_GRPBELOW.at p) then
      let a := groupCost (s.get (AIR_GACKCFG_GCODE.at p)) rate (bitsPerSym mod)
      if 128 ≤ (s.air.gents.filter fun g => g.p = p).length || (s.part p).level < ((a : Nat) : Rat) then s.missAck fid
      else
        let e := f.endAt mod rate
        let s := s.updPart p fun P => { P with level := P.level - ((a : Nat) : Rat) }
        let g : GEnt := { p := p, fid := fid, saddr := s.entSaddr (s.entOf p li), seq := f.hdr.seq, rate := rate, air := a,
                          endT := e / 64, hyp := f.slot * 4 + f.hyp }
        ({ s with air := { s.air with gents := s.air.gents ++ [g] } }).set (AIR_PACK_GPEND.at p) (s.get (AIR_PACK_GPEND.at p) + 1)
    else
      let e := f.endAt mod rate
      let turn := if f.fmt = 1 then 2500 else s.get (AIR_ACKCFG_TURN.at p)
      let t : Tx := {
        kind := .ack fid, p := p, entry := some li, prof := n, freq := s.slotWord f.slot, fmt := f.fmt
        codeF := f.code, wht := f.wht, fcst := 0, pre := if f.fmt = 1 then s.get SYS_FRCFG_ACKPRE else s.get (AIR_ACKCFG_PRE.at p)
        len := if f.fmt = 1 then 8 else 13, sync := d 2, seq := f.hdr.seq
        body := octets 2 f.hdr.nid ++ octets 4 (if f.secured then f.ctr else 0), ts := e + turn * 64, after := e, sub := s.tick, host := false }
      let c := s.txSnap n
      let a := t.airtime c
      let t0 := t.ts - (c.ramp + c.lead) * 64
      if t0 < e || t0 < e + 120 * 64 then s.missAck fid
      else match s.reserve t a with
        | some s => s
        | none => s.missAck fid

/-- A frame's acknowledgement may go: its tag has verified (R21). One that is no longer reserved is not sent. -/
def State.ackCommit (s : State) (fid : Nat) (f : RxFrame) : State :=
  let s := if f.ackMiss then (match f.part with | some p => s.ackNotSent p | none => s) else s
  { s with
    txs := s.txs.map fun t => if t.kind = .ack fid then { t with ok := true } else t
    air := { s.air with gents := s.air.gents.map fun g => if g.fid = fid then { g with ok := true } else g } }

/-! ## Acknowledgements from nodes (R245, R427) -/

/-- A TYPE 1 frame of an association that carries `ctr`: it answers the frames that wait for it, and is a
contact where `ctr` is the counter of the last secured frame sent. -/
def State.ackFromNode (s : State) (p li : Nat) (f : RxFrame) (ctr : Nat) : State :=
  let ph := s.entOf p li
  let same := fun (n : Nat) => if f.fmt = 1 then n % 256 = ctr % 256 else n = ctr
  let s := { s with txs := s.txs.filter fun t => !((t.stage = TxStage.acked && t.p = p && t.entry = some li) &&
    (if f.fmt = 1 then same (t.ctr.getD 0) else t.seq = f.hdr.seq && same (t.ctr.getD 0))) }
  match (s.ascEnt ph).lastTx with
  | some n => if f.hdr.sam = 1 && same n then s.contact ph f.stamp else s
  | none => s

/-! ## Quarantine and release (R21, R22, R182, R382) -/

/-- The number of the first frame in quarantine. -/
def quarFirst : Nat := 256

/-- Moving a frame that has ended into quarantine: its slot is free, its reservation follows it. -/
def State.quarantine (s : State) (fid : Nat) (f : RxFrame) : Nat × State :=
  let q := quarFirst + s.rxNext
  let s := (s.setFrame fid none).setFrame q (some f)
  let s := { s with
    rxNext := s.rxNext + 1
    trl := { dec := s.trl.dec.filter (fun e => e.2 ≠ some fid), wait := s.trl.wait.filter (· ≠ fid) }
    txs := s.txs.map fun t => if t.kind = .ack fid then { t with kind := .ack q } else t
    air := { s.air with gents := s.air.gents.map fun g => if g.fid = fid then { g with fid := q } else g } }
  (q, s)

/-- Releasing a frame with a status: its record is being copied (R182, R618). -/
def State.rxDone (s : State) (q : Nat) (f : RxFrame) (status : Nat) (psdu : List Byte) : State :=
  let s := if status = 0 then s else s.dropAck q
  s.setFrame q (some { f with stage := .done, status := status, psdu := psdu })

/-- The image that receives a frame of an association now (R262). -/
def State.rxImg (s : State) (p : Nat) (entry : Option Nat) : Bool :=
  match entry with | some li => s.entImg (s.entOf p li) | none => false

/-- Where the key that a frame began with stands now: still the next key, KEY, or replaced (R391, R395). -/
def State.rxKey (s : State) (p li : Nat) (f : RxFrame) : Option KRef :=
  if f.usedNext && s.entFlag (s.entOf p li) 11 1 = 1 && s.wrappedKey p (.next li) = some f.wrapped then some (.next li)
  else if s.wrappedKey p (.cur li) = some f.wrapped then some (.cur li)
  else none

/-- The effects of a verified frame on its association (R245, R261, R382, R391): one whose key has been replaced
leaves the counters and promotes nothing. -/
def State.rxAccept (s : State) (p li : Nat) (f : RxFrame) : State :=
  let ph := s.entOf p li
  let n := f.ctr
  let s := match s.rxKey p li f with
    | some (.next _) => s.promote p li (n + 1)
    | some _ => s.putEnt ph 48 4 (n + 1)
    | none => s
  let s := if s.ent ph 48 4 = 0xFFFFFFFF then s.raise p .counterEnd else s
  let s := if f.fmt = 2 && f.hdr.pver = s.entVer ph + 1 then
      ((s.putEnt ph 38 2 (putBits (s.ent ph 38 2) 0 3 f.hdr.pver)).raise p .assoc).ckAskHeld p li
    else s
  (s.contact ph f.stamp).ckCheck p li

/-- Whether a frame waits in quarantine for a counter record (R388). -/
def State.rxHeld (s : State) (p li : Nat) (f : RxFrame) : Bool :=
  match s.ckFind p li with
  | some r => (s.rxKey p li f).isSome && decide (s.ckFld r 48 + 32 < f.ctr + 1)
  | none => false

/-- Release of a frame in quarantine whose FCS has passed (R21, R22 steps 5 and 6, R25, R382: a fresh
frame under KEY is judged again against RXCNT as it stands); `force`: its counter record is being written. -/
def State.rxRelease (s : State) (q : Nat) (f : RxFrame) (force : Bool) : State :=
  match f.part with
  | none => s.endFrame q
  | some p =>
    if (s.part p).rst = some .soft then s.setFrame q (some { f with stage := .held })
    else match f.entry, f.secured with
      | none, _ => s.rxDone q f 0 f.psdu
      | some li, false =>
        let s := s.ackCommit q f
        let s := if f.hdr.type = 1 then s.ackFromNode p li f (if f.fmt = 1 then f.hdr.ctr else ofOctets ((f.psdu.drop f.hdr.hlen).take 4)) else s
        s.rxDone q { f with imgB := s.rxImg p (some li) } 0 f.psdu
      | some li, true =>
        let kcur := decide (s.rxKey p li f = some (.cur li))
        let rx := s.ent (s.entOf p li) 48 4
        if f.verdict = some false then
          ((s.count (SEC_PAUTH_MIC.at p) 1)).rxDone q f Code.authFail.num []
        else if f.repeated || (kcur && decide (f.ctr + 1 = rx)) then
          (s.ackCommit q f).set PKT_RXREG_INUSE (s.get PKT_RXREG_INUSE - f.blocks) |>.setFrame q none
        else if kcur && decide (f.ctr < rx) then
          (s.count (SEC_PAUTH_STALE.at p) 1).rxDone q f Code.authFail.num []
        else if !force && s.rxHeld p li f then
          ((s.ackCommit q f).setFrame q (some { f with stage := .held, ackMiss := false })).ckAsk p li
        else
          let s := (s.ackCommit q f).rxAccept p li f
          let s := if f.hdr.type = 1 then s.ackFromNode p li f (if f.fmt = 1 then f.hdr.ctr else ofOctets ((f.psdu.drop f.hdr.hlen).take 4)) else s
          s.rxDone q { f with imgB := s.rxImg p (some li) } 0 f.psdu

end Sys2Proof.Machine
end

