-- ==== Sys2Proof/Machine/Coding.lean ====
section
/-!
DEFINITION. What goes on air (R144, R145, R147 to R165, R189, R190): the bits of a frame of each format, coded,
whitened and in their order, and the deviation the mapper gives each symbol.
-/

namespace Sys2Proof.Machine

open Reg

/-- The sequence of R158: its last 9 values, oldest first, and how many more. -/
def whiteFrom : List Bool → Nat → List Bool
  | s0 :: l, n + 1 => s0 :: whiteFrom (l ++ [s0 != l.getD 4 false]) n
  | _, _ => []

/-- The first `n` bits of the whitening sequence, seed 0x1FF. -/
def whiteSeq (n : Nat) : List Bool := whiteFrom (List.replicate 9 true) n

/-- PSDU bits with the whitening sequence (R158). -/
def whiten (l : List Bool) : List Bool := List.zipWith (fun a b => a != b) l (whiteSeq l.length)

/-- The two code bits of an input bit and the six before it, latest first (R155). -/
def codePair (u : Bool) (h : List Bool) : Bool × Bool :=
  let d := fun i => h.getD i false
  ([u, d 0, d 1, d 2, d 5].foldl xor false, [u, d 1, d 2, d 4, d 5].foldl xor false)

/-- The rate 1/2 stream of the native code from a state (R155). -/
def convFrom : List Bool → List Bool → List (Bool × Bool)
  | _, [] => []
  | h, u :: l => codePair u h :: convFrom ((u :: h).take 6) l

/-- The rate 1/2 stream from the zero state, tail bits included (R155). -/
def conv (l : List Bool) : List (Bool × Bool) := convFrom [] (l ++ List.replicate 6 false)

/-- A coded stream with every code bit kept: c0 before c1 (R155). -/
def whole (l : List (Bool × Bool)) : List Bool := l.flatMap fun c => [c.1, c.2]

/-- Punctured to rate 2/3: of two columns c0 c1, c0 (R156). -/
def punct23 : List (Bool × Bool) → List Bool
  | a :: b :: l => [a.1, a.2, b.1] ++ punct23 l
  | [a] => [a.1, a.2]
  | [] => []

/-- Punctured to rate 3/4: of three columns c0 c1, c0, c1 (R156). -/
def punct34 : List (Bool × Bool) → List Bool
  | a :: b :: c :: l => [a.1, a.2, b.1, c.2] ++ punct34 l
  | [a, b] => [a.1, a.2, b.1]
  | [a] => [a.1, a.2]
  | [] => []

/-- A block of 128 code bits as it is sent (R157). -/
def interleave (c : List Bool) : List Bool := (List.range 128).map fun j => c.getD (8 * (j % 16) + j / 16) false

/-- The interleaved stream, block by block; the pad bits after the tail code to zeros (R157). -/
def interBlocks (c : List Bool) : List Bool :=
  (List.range (ceilDiv c.length 128)).flatMap fun i => interleave ((c.drop (128 * i)).take 128)

/-- The native PSDU on air (R155 to R158). -/
def psduBits (code : Nat) (wht : Bool) (psdu : List Byte) : List Bool :=
  let b := psdu.flatMap (octBits true)
  let b := if wht then whiten b else b
  match code with
  | 0 => b
  | 1 => whole (conv b)
  | 2 => punct23 (conv b)
  | 3 => punct34 (conv b)
  | _ => interBlocks (whole (conv b))

/-- The PHR of a native frame, its check in bits 23:16 (R148, R149). -/
def phrWord (len code fcst : Nat) (wht : Bool) : Nat :=
  let m := fcst * 32768 + wht.toNat * 16384 + code * 2048 + len
  phrCrc m * 65536 + m

/-- The low `n` bits of a number, lowest first and highest first. -/
def bitsUp (n w : Nat) : List Bool := (List.range n).map fun i => w.testBit i
def bitsDown (n w : Nat) : List Bool := (bitsUp n w).reverse

/-- A run of `n` preamble bits that ends on 1 (R145). -/
def alternating (n : Nat) : List Bool := (List.range n).map fun i => (n - i) % 2 = 1

/-- The preamble symbols on air: in a 4-level modulation the outer symbols 0b11 and 0b01, the last 0b01
(R145, R189). -/
def preambleBits (b n : Nat) : List Bool :=
  if b = 2 then (alternating n).flatMap fun x => [!x, true] else alternating n

/-- What follows a frame's preamble on air, its sync word given (R147, R161, R165). A coded format 3 frame is coded
as the standard has it. PRESUMED: the order of a format 3 PHR's bits is the standard's, highest first. -/
def afterPreamble (fmt code fcst : Nat) (wht : Bool) (f3 sync : Nat) (psdu : List Byte) : List Bool :=
  if fmt = 1 then
    bitsDown 32 sync ++ whole (conv ((BitVec.ofNat 8 psdu.length :: psdu).flatMap (octBits false)))
  else if fmt = 2 then
    bitsDown 32 sync ++ whole (conv (bitsUp 24 (phrWord psdu.length code fcst wht))) ++ psduBits code wht psdu
  else
    let b := psdu.flatMap (octBits true)
    let phr := bitsDown 16 (fcst * 4096 + wht.toNat * 2048 + psdu.length)
    if code = 0 then bitsDown 16 (bits sync 0 16) ++ phr ++ (if wht then whiten b else b)
    else bitsDown 16 (bits sync 16 16) ++ Config.sunFskCode f3 wht (phr ++ b)

/-- Symbols of a bit stream: one bit each, or two with the first the more significant and a zero pad bit (R144, R159). -/
def symbolsOf (b : Nat) : List Bool → List Nat
  | [] => []
  | [x] => [if b = 2 then 2 * x.toNat else x.toNat]
  | x :: y :: l => if b = 2 then (2 * x.toNat + y.toNat) :: symbolsOf b l else x.toNat :: symbolsOf b (y :: l)

/-- The deviation of a symbol in FREQ codes (R189, R190): `x = round(level * 2^24 / 32 MHz)`, a half going up. A format 3
frame's 4-level mapping is the standard's, `Config.sunFskLevel`. -/
def symbolDev (fmt mod rate dev sym : Nat) : Int :=
  -- the level times 2^24 over 32 MHz as a fraction: DEV counts 4 Hz; MSK has Rs / 4, and RATE counts 0.1 symbols a second
  let f : Int × Int :=
    if mod = 2 then ((if sym = 1 then (rate : Int) else -(rate : Int)), 40)
    else if mod < 2 then ((if sym = 1 then (4 * dev : Int) else -(4 * dev : Int)), 1)
    else ((if fmt = 3 then Config.sunFskLevel sym else [1, 3, -1, -3].getD sym 0) * (4 * dev : Int), 3)
  (2 * f.1 * 16777216 + f.2 * 32000000) / (2 * f.2 * 32000000)

/-- The deviations of a frame's symbols on air, from the first of the burst or the preamble to the last (R147, R159, R161,
R165, R190, R234). PRESUMED: a format 3 preamble is the run of R145. -/
def Tx.onAir (t : Tx) (f3 sync : Nat) : List Int :=
  let c := t.snap
  let mod := profMod c.profA
  let b := bitsPerSym mod
  let pre := t.wb + if t.fmt = 1 then max t.pre 32 else t.pre
  (symbolsOf b (preambleBits b pre ++ afterPreamble t.fmt t.codeF t.fcst t.wht f3 sync t.psdu)).map
    (symbolDev t.fmt mod (profRate c.profA) (bits c.profB 0 15))

end Sys2Proof.Machine
end

