-- ==== Sys2Proof/Machine/TxOps.lean ====
section
/-!
DEFINITION. Shared operations of a frame's transmission: its PSDU (R184, R228, R231, R233, R258, R427,
R587), the mask monitor's coverage (R203), the start of the transmit interval (R93 to R95, R196 to R199).
-/

namespace Sys2Proof.Machine

open Reg

/-! ## Coverage (R77, R200, R203) -/

/-- A segment's range in units of 1/8192 Hz about a carrier word. -/
def segRange (freq seg : Nat) : Int × Int :=
  (carrierU freq + sext 12 seg * 8192000, carrierU freq + sext 12 (seg / 4096) * 8192000)

/-- COVER of a mask for a carrier, chain B tuned to `lo`: 0 none, 1 partial, 2 full. A carrier outside
the usable span gives none (R95). -/
def coverage (freq lo : Nat) (segs : List (Nat × Nat)) : Nat :=
  let a := carrierU lo - 1606250 * 8192
  let z := carrierU lo + 1593750 * 8192
  let on := (segs.filter fun g => bit g.1 31).map fun g => segRange freq g.1
  if carrierU freq < a ∨ z < carrierU freq then 0
  else if on.all fun r => decide (a ≤ r.1 ∧ r.2 ≤ z) then 2
  else if on.any fun r => decide (r.1 < r.2 ∧ r.1 < z ∧ a < r.2) then 1
  else 0

/-! ## The PSDU of a frame (R184) -/

/-- A PSDU with its FCS (R163, R180). -/
def withFcs (fmt fcst len : Nat) (d : List Byte) : List Byte :=
  if fmt = 1 then d ++ (octets 2 (crc 16 0x8005 0xFFFF false false 0 (BitVec.ofNat 8 len :: d))).reverse
  else if fcsLen fmt fcst = 2 then d ++ octets 2 (crc 16 0x1021 0 true true 0 d)
  else if fmt = 2 then d ++ octets 4 (crc32c d)
  else d ++ octets 4 (crc32 d)

/-- Frame control of a native frame (R152). -/
def frameCtl (type pver dam sam : Nat) (sec ackReq pend : Bool) : List Byte :=
  octets 2 (type + 8 * pver + 64 * ackReq.toNat + 128 * sec.toNat + 256 * sam + 1024 * dam + 4096 * pend.toNat)

/-- The network ID of an index of a partition. -/
def State.nidOf (s : State) (p i : Nat) : Nat := (s.part p).desc.nids.getD i 0

/-- The header of a frame to an association: data (R427) or resynchronisation (R258), or format 1 (R162). -/
def State.assocHdr (s : State) (t : Tx) (li ctr : Nat) : List Byte :=
  let ph := s.entOf t.p li
  let pend := decide (s.entFlag ph 12 1 = 1)
  if t.fmt = 1 then
    octets 1 (32 * t.ackReq.toNat + 16 * (decide (t.lvl ≠ 0)).toNat + 8 * pend.toNat) ++
      (octets 2 (s.entSaddr ph)).reverse ++ octets 2 0 ++ octets 1 ctr
  else
    let sec := t.lvl ≠ 0
    frameCtl (if t.kind = .resync then 5 else 0) (s.entVer ph) 1 1 sec t.ackReq (pend && t.kind ≠ .resync) ++
      octets 2 (s.nidOf t.p (s.entNidx ph)) ++ octets 1 t.seq ++ octets 2 (s.entSaddr ph) ++ octets 2 0 ++
      (if sec then octets 1 (t.lvl + 8 * s.entFlag ph 10 1) ++ octets 4 ctr else [])

/-- The counter and the key of a secured frame are taken at T0 (R24, R383, R387). -/
def State.takeCounter (s : State) (p li : Nat) : Nat × State :=
  let ph := s.entOf p li
  let n := s.ent ph 52 4
  let s := (s.putEnt ph 52 4 (n + 1)).updAsc ph fun e => { e with lastTx := some n }
  let s := if n + 1 = 0xFFFFFFFF then s.raise p .counterEnd else s
  (n, (s.invoke p (.cur li)).ckCheck p li)

/-- The PSDU of a frame to an association, secured where it asks for it. -/
def State.assocPsdu (s : State) (t : Tx) (li : Nat) (pay : List Byte) : List Byte × Option Nat × State :=
  let ph := s.entOf t.p li
  if t.lvl = 0 then (s.assocHdr t li (s.ent ph 52 4 % 256) ++ pay, none, s)
  else
    let lvl := if t.fmt = 1 then 5 else t.lvl
    let r := s.takeCounter t.p li
    let hdr := s.assocHdr t li r.1
    match r.2.useKey t.p (.cur li) with
    | some (key, s) =>
      let body := ccmApply key (s.coordAddr t.p) r.1 lvl hdr pay
      (hdr ++ body, some r.1, s.blocks (if 5 ≤ lvl then ccmBlocks hdr.length pay.length else ccmBlocks (hdr.length + pay.length) 0))
    | none => (hdr ++ pay ++ List.replicate (micLen lvl) 0, some r.1, r.2)

/-- Ticks from a tick to the next group instant of a partition (R230). -/
def State.groupNext (s : State) (p tick : Nat) : Nat :=
  let per := s.get (AIR_GACKCFG_GPER.at p) * 1000
  (((s.get (AIR_GOFS_OFS.at p) : Int) - tick) % (per : Int)).toNat

/-- The PSDU as sent, the counter consumed, and the state after it: what depends on T0 is filled in. -/
def State.txPsdu (s : State) (t : Tx) : List Byte × Option Nat × State :=
  let fin := fun (r : List Byte × Option Nat × State) => (withFcs t.fmt t.fcst t.len r.1, r.2)
  let tick := octets 6 (t.stamp / 64)
  match t.kind, t.entry with
  | .submit, some li => fin (s.assocPsdu t li t.body)
  | .submit, none => fin (t.body, none, s)
  | .resync, some li => fin (s.assocPsdu t li (tick ++ octets 4 (s.ent (s.entOf t.p li) 60 4)))
  | .ack _, some li =>
    let ph := s.entOf t.p li
    let pend := decide (s.entFlag ph 12 1 = 1)
    if t.fmt = 1 then
      fin (octets 1 (64 + 8 * pend.toNat) ++ (octets 2 (s.entSaddr ph)).reverse ++ octets 2 0 ++ octets 1 t.seq, none, s)
    else
      fin (frameCtl 1 (s.entVer ph) 1 0 false false pend ++ t.body.take 2 ++ octets 1 t.seq ++ octets 2 (s.entSaddr ph) ++ t.body.drop 2, none, s)
  | .beacon, _ =>
    let g := if s.inCol then t.after / 64 - t.stamp / 64 else s.groupNext t.p (t.stamp / 64)
    let gn := if bit (ofOctets ((t.body.drop 7).take 1)) 3 then octets 4 g else octets 4 0
    fin (t.body.take 9 ++ tick ++ (t.body.drop 15).take 8 ++ gn ++ t.body.drop 27, none, s)
  | _, _ => fin (t.body, none, s)

/-! ## The transmit interval (R93 to R95, R196, R199) -/

/-- Symbols of a frame, in fractions. -/
def symTime (n rate : Nat) : Nat := n * 640000000 / rate

/-- Bits of a frame's sync word. -/
def syncBits (fmt : Nat) : Nat := if fmt = 3 then 16 else 32

/-- Chain B takes up the monitor (R94, R95): its gain index is measured and so free; under FOLLOW it is tuned
to the carrier. -/
def State.monitorStart (s : State) (freq : Nat) : State :=
  let follow := s.flag RXB_MONCTL_TUNE && !s.combined
  let held := if s.air.lbtRet.isSome then s.txm.heldFreq else s.get (SYNx_FREQ_FREQ 1)
  let g := s.free 4
  let s := { g.2 with txm := { g.2.txm with
    heldGain := g.2.get (RXx_STAT_GAIN 1), heldFreq := held, follow := follow, maskN := [], maskBad := 0,
    unchecked := false, perEnd := 0, mon := !follow && g.2.flag (SYNx_STAT_LOCK 1) } }
  let s := s.sets [(RXx_STAT_MON 1, 1), (RXB_MONSTAT_MONGAIN, g.1 % 12), (RXx_STAT_GAIN 1, g.1 % 12)]
  if follow then (s.freqCommand 1 freq).2 else s

/-- The sync word of a frame: an acknowledgement's and a Col frame's own, else that of its network ID (R228, R235). -/
def State.txSync (s : State) (t : Tx) : Nat :=
  match t.kind with
  | .ack _ => t.sync
  | _ => if s.inCol then t.sync else s.get ((AIR_TXSYNCn_SYNC t.sync).at t.p)

/-- The start of a frame's transmit interval at T0 (R196, R199, R328): snapshot, power, PSDU, blanking. -/
def State.intervalStart (s : State) (t : Tx) : State :=
  let c := if t.fixed then t.snap else s.txSnap t.prof
  let t := { t with snap := c }
  let now := s.tbs.now
  let ts := if t.fixed then t.ts else now + (c.lead + c.ramp) * 64
  let rate := profRate c.profA
  let b := bitsPerSym (profMod c.profA)
  let pre := if t.fmt = 1 then max t.pre 32 else t.pre
  let t := { t with start := now, ts := ts, air := t.airtime c, stamp := ts + symTime (t.wb + pre + syncBits t.fmt / b) rate }
  let col := s.inCol
  let asked := if col then min (s.powerAsked t) 68 else s.powerAsked t
  let pwr := min asked s.supplyLimit
  let r := s.txPsdu t
  let t := { t with power := pwr, psdu := r.1, ctr := r.2.1, stage := .onAir }
  let t := { t with mod := t.onAir (s.get PKT_F3CFG_ILV * 2 + s.get PKT_F3CFG_RSC) (s.txSync t) }
  let s := (r.2.2.txUpd t.id fun _ => t).unbind
  let s := if col then s.set COL_STAT_TXON 1 else (((s.blankAll).latch 33 3).latch 34 3).monitorStart t.freq
  let lo := if s.txm.follow then t.freq else s.get (SYNx_FREQ_FREQ 1)
  let cov := coverage t.freq lo c.segs
  s.sets [(TXM_STAT_ACTIVE, 1), (TXM_STAT_PHASE, 1), (TXM_LASTREP_PROF, t.prof), (TXM_LASTREP_PWR, pwr), (TXM_LASTREP_PWRCUT, 0),
    (TXM_LASTREP_PWRLIM, (decide (s.supplyLimit < asked)).toNat), (TXM_LASTREP_COVER, cov), (RXB_MONSTAT_COVER, cov)]

/-- The pattern on TRSW and FEM2 to FEM0 (R196, R199): in COL the Col link uses RXPAT and TXPATA. -/
def State.femPins (s : State) : Nat :=
  match s.txAir with
  | some t => if bit t.snap.profA 25 && !s.inCol then bits t.snap.femPat 8 4 else bits t.snap.femPat 4 4
  | none =>
    if s.pwr.lockdown || s.pwr.sleep.isSome && !s.flag COL_STAT_RXON then s.get TXM_FEMPAT_OFFPAT else s.get TXM_FEMPAT_RXPAT

end Sys2Proof.Machine
end

