-- ==== Sys2Proof/Machine/EngOps.lean ====
section
/-!
DEFINITION. Shared operations of images and contexts (spec/12): a context at its entry (R291), the switch
of images (R350), the dual-image window (R352 to R354).
-/

namespace Sys2Proof.Machine

open Reg

/-- A context at an entry: registers, flags and CYC 0 (R291). -/
def Prog.enter (g : Prog) (entry : Word) : Prog :=
  { g with g := [], pc := entry, z := false, n := false, c := false, v := false, t := false, cyc := 0,
           run := .ready, wdog := 0, out := [], outOpen := false }

/-- A context that runs nothing. -/
def Prog.stop (g : Prog) : Prog := { g with run := .idle }
/-- A context stopped by a fault: the halts it has are dropped (R571). -/
def Prog.failed (g : Prog) (c : Nat) : Prog :=
  { g with run := .idle, fcause := c, halted := false, haltPend := false, stepping := false, cause := 0 }

/-- Asking for the configuration area to be written (R514, R536). -/
def State.askConfig (s : State) : State :=
  if s.nvq.contains NvReq.config then s else { s with nvq := s.nvq ++ [NvReq.config] }

/-- An image slot of a partition. -/
def Part.slot (P : Part) (i : Nat) : ImgSlot := if i = 0 then P.slot0 else P.slot1
/-- A partition with an image slot changed. -/
def Part.putSlot (P : Part) (i : Nat) (x : ImgSlot) : Part := if i = 0 then { P with slot0 := x } else { P with slot1 := x }
/-- The slot of the active image, of image A in a window (ENG_IMG.ACTSLOT). -/
def State.actSlot (s : State) (p : Nat) : Nat := s.get (ENG_IMG_ACTSLOT.at p)
/-- Changing the state of an image slot. -/
def State.slotSt (s : State) (p i : Nat) (st : ImgState) : State :=
  s.updPart p fun P => P.putSlot i { P.slot i with st := st }

/-- Copying an image's code into the code window at an offset; the rest of the window from there on is zeroed (R350, R352). -/
def State.copyCode (s : State) (p i ofs : Nat) : State :=
  let P := s.part p
  let x := P.slot i
  let s := s.zero (P.codeBase + ofs) (P.desc.codeG * 4096 - ofs)
  s.copy (x.base + 64) (P.codeBase + ofs) x.hdr.codeLen

/-- Copying an image's initialised data to DATAOFS. -/
def State.copyData (s : State) (p i : Nat) : State :=
  let P := s.part p
  let x := P.slot i
  s.copy (x.base + 64 + x.hdr.codeLen) (P.dataBase + x.hdr.dataOfs) x.hdr.dataLen

/-- The entry address of an image, as its context sees it. -/
def ImgSlot.entryPc (x : ImgSlot) : Word := BitVec.ofNat 32 x.hdr.entry

/-- The digest of an image's header and body, as a seal holds it (R536). -/
def State.imgDigest (s : State) (x : ImgSlot) : List Byte := Config.sha256 (s.octs x.base (64 + x.hdr.codeLen + x.hdr.dataLen))

/-- Whether a slot meets its seal (R536). -/
def State.sealHolds (s : State) (x : ImgSlot) : Bool := decide (x.sealD = some (s.imgDigest x))

/-- A partition's slot that fails its seal is REJECTED, and the failure logged (R536). -/
def State.sealReject (s : State) (p i : Nat) : State :=
  (s.slotSt p i .rejected).scree 19 0x0314 2 (octets 1 p ++ octets 1 i ++ octets 1 1)

/-- Loading an image as the partition's only one and starting its context (R350 steps 2 to 4). -/
def State.loadImage (s : State) (p i : Nat) (keep : Bool) : State :=
  let P := s.part p
  let x := P.slot i
  let s := s.copyCode p i 0
  let s := if keep then s else (s.zero P.dataBase (P.desc.dataG * 4096)).copyData p i
  let s := s.updProg p fun g => { g.enter x.entryPc with codeOfs := 0, slot := i }
  (s.set (PEC_EEN_EEN.at p) 0).set (ENG_IMG_ACTSLOT.at p) i

/-- A SWITCH (R350): the old slot becomes VERIFIED, the new one ACTIVE. -/
def State.imageSwitch (s : State) (p i : Nat) : State :=
  let old := s.actSlot p
  let keep := ((s.part p).slot i).hdr.keepData
  let s := if old ≠ i && ((s.part p).slot old).st = .active then s.slotSt p old .verified else s
  let s := s.loadImage p i keep
  let s := s.scree 19 0x0601 0 (octets 1 1 ++ octets 4 ((s.part p).slot i).hdr.version) (p + 32)
  ((s.slotSt p i .active).raise p .imageSwitch).askConfig

/-- Whether a window may open for image B in slot `i` (R352). -/
def State.dualFits (s : State) (p i : Nat) : Bool :=
  let P := s.part p
  let a := (P.slot (s.actSlot p)).hdr
  let b := (P.slot i).hdr
  decide (ceilDiv a.codeLen 4096 * 4096 + b.codeLen ≤ P.desc.codeG * 4096) &&
    (decide (a.dataOfs + a.dataSize ≤ b.dataOfs) || decide (b.dataOfs + b.dataSize ≤ a.dataOfs))

/-- A dual-image window opens (R352). -/
def State.dualOpen (s : State) (p i endBnd : Nat) (endAct : Bool) : State :=
  let P := s.part p
  let a := (P.slot (s.actSlot p)).hdr
  let x := P.slot i
  let ob := ceilDiv a.codeLen 4096 * 4096
  if !s.dualFits p i then s
  else
    let s := s.copyCode p i ob
    let s := (s.zero (P.dataBase + x.hdr.dataOfs) x.hdr.dataSize).copyData p i
    let s := s.updProg (64 + p) fun _ => { Prog.enter {} x.entryPc with codeOfs := ob, slot := i }
    let s := s.sets [(PEC_PEND_PEND.at (32 + p), 0), (PEC_EEN_EEN.at (32 + p), 0), (PEC_OVF_OVF.at (32 + p), 0),
      (ENG_DUAL_ENDLEFT.at p, endBnd)]
    let s := s.slotSt p i .imageB
    s.updPart p fun P => { P with dual := some { ob := ob, slotA := s.actSlot p, slotB := i, endAct := endAct } }

/-- Zeroing an image's data area. -/
def State.zeroArea (s : State) (p i : Nat) : State :=
  let P := s.part p
  let x := P.slot i
  s.zero (P.dataBase + x.hdr.dataOfs) x.hdr.dataSize

/-- A window ends in favour of image A (REVERT) or B (COMMIT, `b`) (R354). -/
def State.dualEnd (s : State) (p : Nat) (b : Bool) : State :=
  match (s.part p).dual with
  | none => s
  | some d =>
    let gone := if b then d.slotA else d.slotB
    let s := (s.zeroArea p gone).slotSt p gone .verified
    let s := if b then
        let s := (s.updProg p fun _ => { s.prog (64 + p) with run := (s.prog (64 + p)).run }).slotSt p d.slotB .active
        s.sets [(ENG_IMG_ACTSLOT.at p, d.slotB), (PEC_PEND_PEND.at p, s.get (PEC_PEND_PEND.at (32 + p))),
          (PEC_EEN_EEN.at p, s.get (PEC_EEN_EEN.at (32 + p))), (PEC_OVF_OVF.at p, s.get (PEC_OVF_OVF.at (32 + p)))]
      else s
    let s := s.updProg (64 + p) fun _ => {}
    let s := s.sets [(PEC_PEND_PEND.at (32 + p), 0), (PEC_EEN_EEN.at (32 + p), 0), (PEC_OVF_OVF.at (32 + p), 0), (ENG_DUAL_ENDLEFT.at p, 0)]
    let s := s.updPart p fun P => { P with
      dual := none
      tickets := (P.tickets.filter fun t => t.imgB = b).map fun t => { t with imgB := false } }
    (s.raise p .imageSwitch).askConfig

/-- What image activations and windows do at a beacon boundary for a partition (R349, R354). -/
def State.imageBoundary (s : State) (p : Nat) : State :=
  let P := s.part p
  let s := if P.dual.isSome && s.get (ENG_DUAL_ENDLEFT.at p) ≠ 0 then
      s.set (ENG_DUAL_ENDLEFT.at p) (s.get (ENG_DUAL_ENDLEFT.at p) - 1) else s
  let s' := s.updPart p fun P => { P with act := none }
  match P.act with
  | some (.switch i) =>
    if (P.slot i).st ≠ .verified then s' else if s.sealHolds (P.slot i) then s'.imageSwitch p i else s'.sealReject p i
  | some (.dual i n e) =>
    if (P.slot i).st ≠ .verified || P.dual.isSome then s'
    else if s.sealHolds (P.slot i) then s'.dualOpen p i n e else s'.sealReject p i
  | some .commit => s'.dualEnd p true
  | some .revert => s'.dualEnd p false
  | some (.start _) => s
  | none =>
    match P.dual with
    | some d => if s.get (ENG_DUAL_ENDLEFT.at p) = 0 then s.dualEnd p d.endAct else s
    | none => s

/-- A STOPPED partition starts a VERIFIED image (R349). -/
def State.imageStart (s : State) (p i : Nat) : State :=
  let s := s.updPart p fun P => { P with act := none }
  if s.pstate p = PState.stopped.num && ((s.part p).slot i).st = .verified then
    if s.sealHolds ((s.part p).slot i) then (s.imageSwitch p i).set (PRT_PSTATp_STATE p) PState.running.num else s.sealReject p i
  else s

end Sys2Proof.Machine
end

