-- ==== Sys2Proof/Machine/Txm.lean ====
section
/-!
DEFINITION. The transmitter (spec/07_transmit.md): profiles, custom taps, front-end patterns, the steps
of a transmit interval, the mask monitor.
-/

namespace Sys2Proof.Machine

open Reg

/-! ## Shaping and profiles (R185, R190 to R192) -/

/-- G of a SHAPE with the current custom sets, in 1/2048. -/
def State.shapeGain (s : State) (shape : Nat) : Nat :=
  match shape with
  | 3 => peakGain true shape3
  | 4 => peakGain s.txm.imp0 s.txm.taps0
  | 5 => peakGain s.txm.imp1 s.txm.taps1
  | _ => 2048

/-- REASON of a profile (R185): the first failing check, 0 where it passes. -/
def State.profReason (s : State) (a b : Nat) : Nat :=
  let mod := bits a 29 3
  let shape := bits a 26 3
  let rate := bits a 0 20
  let dev := bits b 0 15
  if 4 < mod || 5 < shape then 1
  else if ((mod = 0 || mod = 2 || mod = 3) && shape ≠ 0) || ((mod = 1 || mod = 4) && shape = 0) then 2
  else if rate < 3000 || 1000000 < rate then 3
  else if mod ≠ 2 && (dev = 0 || decide (150000 * 2048 < 4 * dev * s.shapeGain shape)) then 4
  else if 84 < bits b 17 7 then 5
  else 0

/-- A write of a word of a profile (R185): 0 A, 1 B, 2 C; reserved encodings leave their fields (R6). -/
def State.writeProf (s : State) (n k w : Nat) : State :=
  let a := if k = 0 then w else s.profA n
  let b := if k = 1 then w else s.profB n
  let m := s.get (TXM_PROFnC_PARTMASK n)
  let check := if k = 2 then w ≠ 0 else m ≠ 0
  let r := if check then s.profReason a b else 0
  if r ≠ 0 then s.sets [(TXM_STAT_PROFREJ, 1), (TXM_STAT_REASON, r)]
  else
    let s := s.set TXM_STAT_PROFREJ 0
    let put := fun (s : State) (F : Fld) (v : Nat) => if F.allows v then s.set F v else s
    match k with
    | 0 => put (put (put (put (put s (TXM_PROFnA_MOD n) (bits w 29 3)) (TXM_PROFnA_SHAPE n) (bits w 26 3)) (TXM_PROFnA_FEMSEL n) (bits w 25 1))
        (TXM_PROFnA_MASKSEL n) (bits w 24 1)) (TXM_PROFnA_RATE n) (bits w 0 20)
    | 1 => put (put (put s (TXM_PROFnB_RAMPT n) (bits w 27 5)) (TXM_PROFnB_PWR n) (bits w 17 7)) (TXM_PROFnB_DEV n) (bits w 0 15)
    | _ => s.set (TXM_PROFnC_PARTMASK n) w

/-- PROFILE_WRITE (R185). -/
def execProfileWrite (n : Fin 16) (k : Fin 3) (w : Word) (s : State) : Host.Outcome State Fault Refusal := .next (s.writeProf n k w.toNat)

/-- The written taps of a custom set, c[0] to c[31]. -/
def State.tapsWritten (s : State) (x : Nat) : List Int :=
  (List.range 16).flatMap fun w => [sext 12 (s.get (TXM_TAPsw_CEVEN x w)), sext 12 (s.get (TXM_TAPsw_CODD x w))]

/-- Whether a gain keeps every enabled profile that uses a custom set within 150 kHz (R192). -/
def State.tapsFit (s : State) (x g : Nat) : Bool :=
  (List.range 16).all fun n =>
    s.get (TXM_PROFnC_PARTMASK n) = 0 || s.get (TXM_PROFnA_SHAPE n) ≠ 4 + x ||
      decide (4 * s.get (TXM_PROFnB_DEV n) * g ≤ 150000 * 2048)

/-- The commit of a custom set (R192). -/
def State.tapCommit (s : State) (x : Nat) : State :=
  let imp := s.flag (if x = 0 then TXM_TAPCTL_INMODE0 else TXM_TAPCTL_INMODE1)
  let c := s.tapsWritten x
  let g := peakGain imp c
  if s.tapsFit x g then
    let s := if x = 0 then { s with txm := { s.txm with taps0 := c, imp0 := imp } } else { s with txm := { s.txm with taps1 := c, imp1 := imp } }
    s.sets [(TXM_STAT_TAPREJ, 0), (if x = 0 then TXM_TAPG_G0 else TXM_TAPG_G1, g)]
  else s.sets [(TXM_STAT_TAPREJ, 1), (TXM_STAT_REASON, 4)]

/-- A write of TXM_TAPCTL (R192): the input modes, then the commits, set 0 first. -/
def State.writeTapctl (s : State) (w : Nat) : State :=
  let s := s.sets [(TXM_TAPCTL_INMODE1, bits w 9 1), (TXM_TAPCTL_INMODE0, bits w 8 1)]
  let s := if bit w 0 then s.tapCommit 0 else s
  if bit w 1 then s.tapCommit 1 else s

/-- TAP_COMMIT (R192). -/
def execTapCommit (w : Word) (s : State) : Host.Outcome State Fault Refusal := .next (s.writeTapctl w.toNat)

/-- FEM_PATTERN_WRITE (R199): the patterns; the pins follow them (`State.femPins`). -/
def execFemPatternWrite (w : Word) (s : State) : Host.Outcome State Fault Refusal :=
  .next (s.sets [(TXM_FEMPAT_OFFPAT, bits w.toNat 12 4), (TXM_FEMPAT_TXPATB, bits w.toNat 8 4),
    (TXM_FEMPAT_TXPATA, bits w.toNat 4 4), (TXM_FEMPAT_RXPAT, bits w.toNat 0 4)])

/-! ## The steps of an interval (R196, R198, R199) -/

/-- T_S of the frame on air, as driven. -/
def Tx.tsAt (t : Tx) : Nat := t.ts
/-- The end of its last symbol, in fractions. -/
def Tx.symEnd (t : Tx) : Nat := t.ts + symTime (t.syms (profMod t.snap.profA)) (profRate t.snap.profA)

/-- RAMP_UP_START (R196): LEAD after T0, the PA gate still open (R64). -/
def execRampUpStart (s : State) : Host.Outcome State Fault Refusal :=
  .next (match s.txAir with
    | some t =>
      if s.get TXM_STAT_PHASE = 1 && decide (t.start + t.snap.lead * 64 ≤ s.tbs.now) && s.gateFor t.freq then
        let s := s.sets [(TXM_STAT_PHASE, 2), (SYNx_STAT_DEVCLIP 2, 0)]
        { s with txm := { s.txm with perEnd := if s.txm.mon then s.tbs.now + (bits t.snap.maskCtl 0 4 + 1) * 2560 else 0 } }
      else s
    | none => s)

/-- SYMBOLS_END (R196): the last symbol ends, ramp-down starts. -/
def execSymbolsEnd (s : State) : Host.Outcome State Fault Refusal :=
  .next (match s.txAir with
    | some t => if s.get TXM_STAT_PHASE = 2 && decide (t.symEnd ≤ s.tbs.now) then s.clipNote.set TXM_STAT_PHASE 4 else s
    | none => s)

/-- What waited for the PA to turn off starts (R58, R63, R69). -/
def State.paOff (s : State) : State :=
  let y := s.synth 2
  let s := (s.updSynth 2 fun y => { y with heldWord := none }).set (SYNx_STAT_PENDING 2) 0
  let s := match y.heldWord with | some w => s.synTake 2 w | none => s
  let s := if y.heldOff then s.synStop 2 else s
  s.carrierSteps

/-- RAMP_DOWN_END (R196): the PA turns off; a forced ramp-down has no fixed length. -/
def execRampDownEnd (s : State) : Host.Outcome State Fault Refusal :=
  .next (match s.txAir with
    | some t =>
      if s.get TXM_STAT_PHASE = 4 && (t.out.isSome || decide (t.symEnd + t.snap.ramp * 64 ≤ s.tbs.now)) then
        ((s.txUpd t.id fun u => { u with ended := s.tbs.now }).set TXM_STAT_PHASE 5).paOff
      else s
    | none => s)

/-- TRANSMIT_INTERVAL_END (R197): TAIL after ramp-down the pins return and the interval is charged; under
FOLLOW SYNB goes back to its plan frequency (R95). -/
def execTransmitIntervalEnd (s : State) : Host.Outcome State Fault Refusal :=
  .next (match s.txAir with
    | some t =>
      if s.get TXM_STAT_PHASE = 5 && decide (t.ended + t.snap.tail * 64 ≤ s.tbs.now) then s.intervalEnd else s
    | none => s)

/-- BLANKING_END (R93, R95, R222): 12 ticks after the interval the slots detect again; after a FOLLOW or LBT
retune slots 64 to 127 do so 12 ticks after SYNB has locked. -/
def execBlankingEnd (s : State) : Host.Outcome State Fault Refusal :=
  .next (
    let s := if s.txm.blank && !s.flag TXM_STAT_ACTIVE && decide (s.txm.ivEnd + 768 ≤ s.tbs.now) then
        let t := s.air.blkT + (s.tbs.now - s.txm.blankFrom)
        let s := { s with
          txm := { s.txm with blank := false, clearAt := s.tbs.now }
          air := { s.air with blkT := t } }
        ((s.sets [(AIR_BLKTIME_MS, min (t / 64000) 0xFFFFFFFF), (RXx_STAT_PROT 0, 0)]).rxStat 0).rxStat 1
      else s
    if (s.chn 1).follow && s.flag (SYNx_STAT_LOCK 1) && !s.txm.follow && s.air.lbtRet.isNone &&
        decide ((s.chn 1).lockAt + 768 ≤ s.tbs.now) then
      ((s.updChain 1 fun c => { c with follow := false, upAt := s.tbs.now }).rxStat 1)
    else s)

/-! ## The mask monitor (R200 to R202) -/

/-- Whether a period is checked by a segment's WHEN: body, ramps, whole interval. -/
def Tx.when' (t : Tx) (w a z : Nat) : Bool :=
  let ramp := t.snap.ramp * 64
  match w with
  | 0 => decide (t.ts ≤ a ∧ z ≤ t.symEnd)
  | 1 => decide ((a < t.ts ∧ t.ts - ramp < z) ∨ (a < t.symEnd + ramp ∧ t.symEnd < z))
  | _ => true

/-- Whether a bin's mean power in a period breaks a limit of the mask (R200): 0.25 dBm. -/
def Tx.breaks (t : Tx) (lo a z bin : Nat) (v : Int) : Bool :=
  let f := carrierU lo + ((bin : Int) - 160) * binU
  t.snap.segs.any fun g =>
    let r := segRange t.freq g.1
    bit g.1 31 && t.when' (bits g.1 29 2) a z && decide (r.1 ≤ f ∧ f < r.2) &&
      decide ((if bit g.1 28 then sext 16 g.2 else sext 16 g.2 + 2 * (t.power : Int) - 80) < v)

/-- A violation under the policy in force (R199, R202). -/
def State.maskViolation (s : State) (t : Tx) (policy : Nat) : State :=
  if s.txm.maskBad ≠ 0 then s
  else if policy = 2 && decide (s.tbs.now < t.symEnd) then
    let s := (s.count TXM_MASKCNT_MUTED 1).scree 11 0x0302 1 (octets 1 t.prof ++ octets 4 t.freq)
    ({ s with txm := { s.txm with maskBad := 2 } }).txAbort .checkFail false
  else
    let s := s.count TXM_MASKCNT_FLAGGED 1
    { s with txm := { s.txm with maskBad := 1 } }

/-- MASK_PERIOD_END (R201): the mean power of each bin over the period. -/
def execMaskPeriodEnd (pw : List (Nat × Int)) (s : State) : Host.Outcome State Fault Refusal :=
  .next (match s.txAir with
    | none => s
    | some t =>
      let per := (bits t.snap.maskCtl 0 4 + 1) * 2560
      let policy := max (bits t.snap.maskCtl 8 2) (match s.air.prof with | some r => bits r.flags 2 2 | none => 0)
      if !s.txm.mon || !s.flag RXB_MONCTL_EN || s.get TXM_STAT_PHASE < 2 || s.tbs.now < s.txm.perEnd then s
      else
        let z := if s.txm.perEnd = 0 then s.tbs.now else s.txm.perEnd
        let lo := s.get (SYNx_FREQ_FREQ 1)
        let bad := (pw.filter fun e => decide (32 ≤ e.1 ∧ e.1 ≤ 287) && t.breaks lo (z - per) z e.1 e.2).map Prod.fst
        let runs : Tab Nat := bad.foldl (fun m k => Tab.set 0 m k (Tab.get 0 s.txm.maskN k + 1)) []
        let s := { s with txm := { s.txm with maskN := runs, perEnd := z + per } }
        if policy ≠ 0 && runs.any fun e => decide (bits t.snap.maskCtl 4 4 + 1 ≤ e.2) then s.maskViolation t policy else s)

end Sys2Proof.Machine
end

