-- ==== Sys2Proof/Machine/Air.lean ====
section
/-!
DEFINITION. Air access (spec/08_air_access.md): beacon boundaries, the regulatory profile, admission,
listen-before-talk, release to the sequencer, group acknowledgements and beacons.
-/

namespace Sys2Proof.Machine

open Reg

/-! ## The regulatory profile (R208 to R213) -/

/-- A field of a regulatory image. -/
def imgNum (o : List Byte) (a n : Nat) : Nat := ofOctets ((o.drop a).take n)

/-- The length of an image from its NB and NC (R208). -/
def regLen (o : List Byte) : Nat := 16 + 20 * imgNum o 4 1 + 8 * imgNum o 5 1 + 64

/-- The profile an image spells (R208). -/
def regParse (o : List Byte) : RegProf :=
  let nb := imgNum o 4 1
  { profid := imgNum o 2 2, flags := imgNum o 6 1, hop := imgNum o 8 4, seqno := imgNum o 12 4
    bands := (List.range nb).map fun j =>
      let a := 16 + 20 * j
      { flo := imgNum o a 4, fhi := imgNum o (a + 4) 4, duty := imgNum o (a + 8) 4, pmax := imgNum o (a + 12) 1,
        lbtthr := imgNum o (a + 13) 1, lbtwin := imgNum o (a + 14) 2, maxon := imgNum o (a + 16) 2, minoff := imgNum o (a + 18) 2 }
    chans := (List.range (imgNum o 5 1)).map fun i =>
      let a := 16 + 20 * nb + 8 * i
      { freq := bits (imgNum o a 4) 0 29, width := bits (imgNum o a 4) 29 3, dwell := imgNum o (a + 4) 2 } }

/-- RANGE of a sub-band, its overlaps aside (R209). -/
def Band.bad (b : Band) : Bool :=
  decide (b.fhi ≤ b.flo) || !freqOk b.flo || !freqOk (b.fhi - 1) || freqRange b.flo != freqRange (b.fhi - 1) ||
    decide (1000000 < b.duty) || decide (84 < b.pmax) || (b.lbtthr ≠ 0 && (b.lbtthr < 60 || 100 < b.lbtthr)) ||
    b.lbtwin < 5 || 10000 < b.lbtwin

/-- Whether two elements of a list meet a relation. -/
def anyPair {α : Type} (f : α → α → Bool) : List α → Bool
  | [] => false
  | a :: t => t.any (f a) || anyPair f t

/-- REASON of an image that could be read whole (R209), in the order of its checks; 0 where it passes. -/
def regReason (o : List Byte) (installed : Option RegProf) : Nat :=
  let r := regParse o
  let n := regLen o
  let res := (List.range (imgNum o 5 1)).any fun i => imgNum o (16 + 20 * imgNum o 4 1 + 8 * i + 6) 2 ≠ 0
  if !Config.ecdsaVerify Config.regulatoryKey (o.take (n - 64)) ((o.drop (n - 64)).take 64) then 1
  else if imgNum o 0 2 ≠ 1 || (r.hop = 0 && r.chans ≠ []) || bits r.flags 2 2 = 3 || bits r.flags 1 1 ≠ 0 || bits r.flags 4 4 ≠ 0 ||
      imgNum o 7 1 ≠ 0 || res then 2
  else if (match installed with | some p => decide (r.seqno ≤ p.seqno) | none => false) then 3
  else if r.bands.any Band.bad || anyPair (fun a b : Band => decide (a.flo < b.fhi ∧ b.flo < a.fhi)) r.bands then 4
  else if r.chans.any (fun c => (r.bandOf c.freq).isNone || decide (4 < c.width)) ||
      anyPair (fun a b : DwellCh => a.freq = b.freq) r.chans then 5
  else 0

/-- A refused load (R209, R218). -/
def State.regRefuse (s : State) (reason : Nat) (now : Bool) : State :=
  let s := s.sets [(AIR_REGSTAT_ERR, 1), (AIR_REGSTAT_REASON, reason)]
  (if now then s.set AIR_REGSTAT_NOWREJ 1 else s).raise 0 .regulatory

/-- A load of the image at an address of P0 (R209): from P0's data or packet window; `pkt`: from the packet
window only, as a regulatory-load message names it. -/
def State.regLoad (s : State) (a : Nat) (now pkt : Bool) : State :=
  if s.air.load.isSome then s.regRefuse 7 now
  else
    let inw := fun n => if pkt then s.inPkt 0 a n else s.inWin 0 a n
    let h := s.winOcts 0 a 16
    let nb := imgNum h 4 1
    let v := if a % 4 ≠ 0 || !inw 16 then 6
      else if nb = 0 || 16 < nb || 64 < imgNum h 5 1 then 2
      else if !inw (regLen h) then 6 else 0
    ({ s with air := { s.air with load := some { octs := if v = 0 then s.winOcts 0 a (regLen h) else [], verdict := v, now := now } } }).set
      AIR_REGSTAT_BUSY 1

/-- REGULATORY_LOAD_WRITE (R209). -/
def execRegulatoryLoadWrite (s : State) : Host.Outcome State Fault Refusal :=
  .next (s.regLoad (s.get AIR_REGADDR_ADDR * 4) false false)

/-- NOW (R210): with no profile active and one pending. -/
def State.regNow (s : State) : State :=
  if s.air.prof.isNone && s.air.pend.isSome then ({ s with air := { s.air with nowDue := true } }).set AIR_REGSTAT_NOWREJ 0
  else s.set AIR_REGSTAT_NOWREJ 1

/-- REASON of a load (R209): the first failing check, 0 where it passes. -/
def State.regVerdict (s : State) (l : RegLoad) : Nat := if l.verdict ≠ 0 then l.verdict else regReason l.octs s.air.prof

/-- The end of a load (R209, R210). -/
def State.regLoadEnd (s : State) (l : RegLoad) : State :=
  let s := ({ s with air := { s.air with load := none } }).set AIR_REGSTAT_BUSY 0
  let r := s.regVerdict l
  if r ≠ 0 then s.regRefuse r l.now
  else
    let p := regParse l.octs
    let s := ({ s with air := { s.air with pend := some p } }).sets
      [(AIR_REGSTAT_ERR, 0), (AIR_REGSTAT_REASON, 0), (AIR_REGSTAT_PEND, 1), (AIR_REGSTAT_PROFID, p.profid), (AIR_STAT_REGPEND, 1),
       (AIR_REGSTAT_NOWREJ, 0)]
    if l.now then s.regNow else s

/-- The answer to the regulatory-load message that made a load: DONE; the spec names no code for a load that fails,
so it is a free one of those that fit no success. -/
def State.regTell (s : State) (ok : Bool) : State :=
  match (s.mb 0).inq with
  | m :: _ =>
    if (s.mb 0).busy && m.typ = 0x65 then
      let r := s.free 3
      if ok then s.answer 0 .done []
      else r.2.answer 0 ([Code.refusedAccess, .refusedState, .refusedLength, .authFail, .checkFail].getD r.1 .refusedState) []
    else s
  | [] => s

/-- REGULATORY_LOAD_DONE (R209). -/
def execRegulatoryLoadDone (s : State) : Host.Outcome State Fault Refusal :=
  .next (if s.svHalted then s else match s.air.load with | some l => (s.regLoadEnd l).regTell (s.regVerdict l = 0) | none => s)

/-- CANCEL (R209). -/
def State.regCancel (s : State) : State :=
  ({ s with air := { s.air with pend := none, nowDue := false } }).sets [(AIR_REGSTAT_PEND, 0), (AIR_REGSTAT_PROFID, 0), (AIR_STAT_REGPEND, 0)]

/-- REGULATORY_CANCEL (R209). -/
def execRegulatoryCancel (s : State) : Host.Outcome State Fault Refusal := .next s.regCancel

/-- REGULATORY_NOW (R210). -/
def execRegulatoryNow (s : State) : Host.Outcome State Fault Refusal := .next s.regNow

/-- A write of AIR_REGCTL: CANCEL, then LOAD, then NOW (R209, R113). -/
def State.writeRegCtl (s : State) (w : Nat) : State :=
  let s := if bit w 2 then s.regCancel else s
  if bit w 0 then s.regLoad (s.get AIR_REGADDR_ADDR * 4) (bit w 1) false
  else if bit w 1 then (if bit w 2 then s.set AIR_REGSTAT_NOWREJ 1 else s.regNow)
  else s

/-- The sub-band accounts a new profile starts with (R212). -/
def carryUse (old : Option RegProf) (use : Tab BandUse) (r : RegProf) : Tab BandUse :=
  let ob := match old with | some o => o.bands | none => []
  (List.range r.bands.length).foldl (fun t j =>
    let b := r.bands.getD j {}
    let olap := (List.range ob.length).filter fun i => decide ((ob.getD i {}).flo < b.fhi ∧ b.flo < (ob.getD i {}).fhi)
    let us := olap.map fun i => Tab.get {} use i
    Tab.set {} t j {
      hist := (us.flatMap BandUse.hist).foldl (fun h e => bumpNat h e.1 e.2) []
      last := (us.filterMap BandUse.last).foldl (fun m e => some (max e (m.getD 0))) none }) []

/-- The dwell accounts a new profile starts with (R212). -/
def carryDwell (old : Option RegProf) (A : AirSt) (r : RegProf) (tick : Nat) : List (Nat × Nat × Nat) :=
  match old with
  | none => []
  | some o =>
    if o.hop = 0 ∨ r.hop = 0 then []
    else (r.chans.filter fun c => o.chans.any fun d => d.freq = c.freq).filterMap fun c =>
      let u := A.used c.freq (tick / (o.hop * 1000))
      if u = 0 then none else some (c.freq, tick / (r.hop * 1000), u)

/-- A profile in force: its registers (R210). -/
def State.regShow (s : State) : State :=
  s.sets [(AIR_STAT_REGACT, if s.air.prof.isSome then 1 else 0), (AIR_STAT_PROFID, match s.air.prof with | some r => r.profid | none => 0)]

/-- The pending profile becomes active (R210, R212); SV writes it to the eNVM. -/
def State.regActivate (s : State) : State :=
  match s.air.pend with
  | none => s
  | some r =>
    let s := { s with
      air := { s.air with prof := some r, use := carryUse s.air.prof s.air.use r, dwell := carryDwell s.air.prof s.air r s.tick }
      nvq := s.nvq ++ [NvReq.config] }
    (s.regCancel.regShow).raise 0 .regulatory

/-- REGULATORY_NOW_ACTIVATION (R210). -/
def execRegulatoryNowActivation (s : State) : Host.Outcome State Fault Refusal :=
  .next (if s.air.nowDue then s.regActivate else s)

/-! ## Beacon boundaries (R205 to R207) -/

/-- A change of operation (R88 to R90). -/
def State.combChange (s : State) : State :=
  let want := s.flag (RXx_CTL_COMB 0)
  if want = s.combined then s
  else
    let s := s.loseSlots CHB_LOSTB_OTHER ((List.range 64).map (· + 64))
    let out := fun (s : State) => (s.svc 0 = 2) || (s.svc 1 = 2)
    if want then
      let s := s.sets [(RXx_STAT_COMBACT 0, 1), (RXx_STAT_COMBACT 1, 1)]
      let s := s.synTake 1 (s.get (SYNx_FREQ_FREQ 0))
      let s := s.each allSlots fun s k => s.updSlot k fun t => { t with suspRem := false }
      (s.chbCount).set AIR_STAT_FBK 0
    else
      let s := s.sets [(RXx_STAT_COMBACT 0, 0), (RXx_STAT_COMBACT 1, 0)]
      let s := s.synTake 1 (s.synth 1).own
      if out s then s.each ([0, 1].filter fun x => decide (s.svc x = 2)) fun s x => s.chainOut x (s.get (RXx_STAT_CAUSE x)) else s

/-- Removal and return of a chain at a boundary (R98, R101). -/
def State.chainBoundary (s : State) (x : Nat) : State :=
  if s.svc x = 1 then
    let busy := (s.chainSlots x).any fun k => (s.frame k).isSome
    if s.combined || !busy || decide (s.get (RXx_SVC_MAXWAIT x) ≤ (s.chn x).waited) then s.chainOut x 0
    else s.updChain x fun c => { c with waited := c.waited + 1 }
  else if s.svc x = 3 && s.flag (SYNx_STAT_LOCK x) then s.chainBack x
  else s

/-- Octets of a partition's beacon before its FCS, fixed at the boundary (R206, R233); `div` and `sniff` for
the BPER and SNIFF fields, `col` for the COL flag. TSTAMP, GNEXT, FBCLK and the sequence number follow later. -/
def State.beaconBody (s : State) (p div : Nat) (col : Bool) : List Byte :=
  let lo := s.get (AIR_BCNP_VERLO.at p)
  let g := s.flag (AIR_ACKGRP_GEN.at p)
  let xlen := s.get (AIR_BCNP_XLEN.at p)
  let z := fun n v => if g then octets n v else octets n 0
  frameCtl 3 lo 0 1 false false false ++ octets 2 (s.nidOf p (s.get (AIR_BCNP_NIDX.at p))) ++ [0] ++ octets 2 0 ++
    octets 1 (col.toNat + 2 * s.get AIR_STAT_FBK + 8 * g.toNat) ++
    octets 1 (lo + 8 * s.get (AIR_BCNP_VERHI.at p)) ++ octets 6 0 ++ octets 4 (s.get AIR_BPER_PER * div) ++
    z 4 (s.get (AIR_GFREQ_FREQ.at p)) ++ octets 4 0 ++ z 4 (s.get (AIR_GACKCFG_GPER.at p)) ++
    octets 2 (if col then s.get COL_SNIFF_SPER else 0) ++ octets 1 xlen ++
    ((List.range 8).flatMap fun w => octets 4 (s.get ((AIR_BXw_OCTETS w).at p))).take xlen

/-- Counting a boundary for a partition's beacons; the contents of one that is due are fixed (R206, R232). -/
def State.beaconDue (s : State) (b p : Nat) : State :=
  if !s.flag (AIR_BCNP_EN.at p) then s
  else
    let n := Tab.get 0 s.air.bcn p + 1
    if n < s.get (AIR_BCNP_BDIV.at p) then { s with air := { s.air with bcn := Tab.set 0 s.air.bcn p n } }
    else
      let body := s.beaconBody p (s.get (AIR_BCNP_BDIV.at p)) (s.flag AIR_BCNCTL_COLF)
      { s with air := { s.air with bcn := Tab.set 0 s.air.bcn p 0,
                                   bcnDue := (s.air.bcnDue.filter fun e => e.1 ≠ p) ++ [(p, b, body)] } }

/-- The setting of the boundaries after the one at `b` (R205). -/
def State.nextBoundary (s : State) : State :=
  let per := s.get AIR_BPER_PER
  let s := { s with air := { s.air with bper := per, bofs := s.get AIR_BOFS_OFS } }
  let n := s.boundaryAfter s.tick
  ({ s with air := { s.air with nextB := n } }).set AIR_NEXTB_TICK n

/-- A beacon boundary in a run mode: the changes due, in the order of R206. -/
def State.boundary (s : State) (b : Nat) : State :=
  let s := s.regActivate.combChange.planExamine
  let s := (s.chainBoundary 0).chainBoundary 1
  let s := s.each s.live State.imageBoundary
  let s := s.each s.live fun s p => s.beaconDue b p
  (s.latch 33 7).latch 34 7

/-- BEACON_BOUNDARY (R205 to R207): the tick count has reached or passed the next boundary. In SLEEP and COL
the boundary is counted only. -/
def execBeaconBoundary (s : State) : Host.Outcome State Fault Refusal :=
  .next (if s.tick < s.air.nextB then s
    else
      let b := s.boundaryAfter s.tick - s.air.bper
      if s.pwr.sleep.isSome then
        let on := allParts.filter fun p => s.flag (AIR_BCNP_EN.at p)
        let n := on.foldl (fun t p => Tab.set 0 t p ((Tab.get 0 t p + 1) % s.get (AIR_BCNP_BDIV.at p))) s.air.bcn
        let c := s.col.count + 1
        let bd := s.get COL_TX_BDIV
        let s := { s with air := { s.air with bcn := n } }
        let s := if !s.inCol then s
          else if bd ≠ 0 ∧ bd ≤ c then { s with col := { s.col with count := 0, due := some b } }
          else { s with col := { s.col with count := c } }
        s.nextBoundary
      else (s.boundary b).nextBoundary)

/-- Whether a period and a divider keep the bound of R232. -/
def bperOk (per div : Nat) : Bool := decide (per * div ≤ 4294967295)

/-- A write of AIR_BPER (R232). -/
def State.writeBper (s : State) (w : Nat) : State :=
  if !AIR_BPER_PER.allows w then s
  else if (allParts.all fun p => bperOk w (s.get (AIR_BCNP_BDIV.at p))) && bperOk w (s.get COL_TX_BDIV) then
    s.sets [(AIR_BPER_PER, w), (AIR_STAT_BPREJ, 0)]
  else s.set AIR_STAT_BPREJ 1

/-- A write of AIR_BCNP of a partition (R232). -/
def State.writeBcnp (s : State) (p w : Nat) : State :=
  let d := bits w AIR_BCNP_BDIV.lo AIR_BCNP_BDIV.w
  if AIR_BCNP_BDIV.allows d && !bperOk (s.get AIR_BPER_PER) d then s.set AIR_STAT_BPREJ 1
  else (s.putFlds w [AIR_BCNP_EN.at p, AIR_BCNP_NIDX.at p, AIR_BCNP_VERHI.at p, AIR_BCNP_VERLO.at p, AIR_BCNP_BPROF.at p,
    AIR_BCNP_BDIV.at p, AIR_BCNP_XLEN.at p]).set AIR_STAT_BPREJ 0

/-- A write of COL_TX (R232). -/
def State.writeColTx (s : State) (w : Nat) : State :=
  if !bperOk (s.get AIR_BPER_PER) (bits w COL_TX_BDIV.lo COL_TX_BDIV.w) then s.set AIR_STAT_BPREJ 1
  else (s.putFlds w [COL_TX_BDIV, COL_TX_TXPROF]).set AIR_STAT_BPREJ 0

/-- BEACON_PERIOD_WRITE (R232): 0 AIR_BPER, 1 AIR_BCNP of `p`, 2 COL_TX. -/
def execBeaconPeriodWrite (which : Fin 3) (p : Fin 32) (w : Word) (s : State) : Host.Outcome State Fault Refusal :=
  .next (match which with | 0 => s.writeBper w.toNat | 1 => s.writeBcnp p w.toNat | _ => s.writeColTx w.toNat)

/-! ## Listen-before-talk (R219 to R223) -/

/-- The threshold in −dBm and the number of samples that apply on a frequency, where LBT applies (R219). -/
def State.lbtParams (s : State) (freq : Nat) : Option (Nat × Nat) :=
  let c := if s.flag AIR_LBTCFG_EN then some (s.get AIR_LBTCFG_THR, s.get AIR_LBTCFG_WIN) else none
  let b := match s.bandOf freq with | some (_, sb) => if sb.lbtthr = 0 then none else some (sb.lbtthr, sb.lbtwin) | none => none
  let n := fun (x : Nat × Nat) => (x.1, ceilDiv x.2 40)
  match c, b with
  | none, none => none
  | some x, none => some (n x)
  | none, some y => some (n y)
  | some x, some y => some (n (max x.1 y.1, max x.2 y.2))

/-- The number of bins of the narrowest width a profile fits (R118, R219). -/
def profWidth (a b : Nat) : Option Nat :=
  let rate := profRate a
  let dev := bits b 0 15
  [1, 2, 4, 8, 16].find? fun n =>
    decide (rate ≤ 62500 * n) && (if profMod a = 2 then decide (3 * rate ≤ 250000 * n) else decide (80 * dev + rate ≤ 125000 * n))

/-- The monitoring slot of a frequency for a width in bins: the narrowest, then the lowest (R219). -/
def State.monSlot (s : State) (freq width : Nat) : Option Nat :=
  let ok := fun k => s.slotEn k && !(s.slot k).suspFb && !(s.slot k).suspRem && s.slotWord k = freq
  [1, 2, 4, 8, 16].findSome? fun n =>
    if n < width then none else (allSlots.filter ok).find? fun k => widthBins (s.desc k 0) = n

/-- Whether one of a slot's `n` latest samples is at or above a threshold. -/
def Slot.busy (t : Slot) (thr n : Nat) : Bool :=
  (t.ring.take n).any fun e => match e with | some v => decide (-4 * (thr : Int) ≤ v) | none => false

/-- The samples of a slot whose periods start at or after a stamp. -/
def Slot.since (t : Slot) (from' : Nat) : Nat :=
  ((List.range t.valid).takeWhile fun i => decide (from' ≤ (t.period - i) * 2560)).length

/-- The first state of a frame that is admitted: it listens where LBT applies (R23 step 4, R220). -/
def State.admitted (s : State) (t : Tx) : State :=
  let lbt := (s.lbtParams t.freq).isSome
  s.txUpd t.id fun u => { u with stage := if lbt then .listen else .clear, clearAt := s.tick, until_ := s.tick }

/-- Step 3 of R23 (R214): admission now; held while AIR_CTL.EN is 0 (R619). -/
def State.txAdmit (s : State) (t : Tx) : State :=
  if !s.airOn then s.txUpd t.id fun u => { u with stage := .held, until_ := 0 }
  else match s.grant t.freq t.air s.tick t.latest with
    | .grant => s.admitted t
    | .hold e => (s.txUpd t.id fun u => { u with stage := .held, until_ := e }).regNote t.freq
    | .refuse c => (s.regNote t.freq).txUnsent t c

/-- An LBT retune that no frame needs any more ends (R222). -/
def State.lbtFree (s : State) : State :=
  match s.air.lbtRet with
  | none => s
  | some id =>
    match s.txFind id with
    | none => s.followBack
    | some t => match t.stage with
      | .listen | .clear | .atRsa | .bound | .onAir => s
      | _ => s.followBack

/-- Whether the waits of R388 and R391 hold a frame in step 2. -/
def State.txWaits (s : State) (t : Tx) : Bool :=
  match t.entry with
  | some li => t.lvl ≠ 0 && ((s.ascEnt (s.entOf t.p li)).promo || s.ckHolds t.p li (s.ent (s.entOf t.p li) 52 4) (s.ent (s.entOf t.p li) 56 4))
  | none => false

/-- Putting a frame that has drawn its airtime into the order of R284: life-safety partitions first. -/
def State.txOrder (s : State) (t : Tx) : State :=
  let l := s.txs.filter fun u => u.id ≠ t.id
  let ls := fun (u : Tx) => (s.part u.p).desc.ls
  if ls t then
    let pre := l.takeWhile fun u => ls u || u.stage = .bucket
    { s with txs := pre ++ [t] ++ l.drop pre.length }
  else { s with txs := l ++ [t] }

/-- AIRTIME_DRAWN (R283, R284). -/
def execAirtimeDrawn (id : Nat) (s : State) : Host.Outcome State Fault Refusal :=
  .next (match s.txFind id with
    | none => s
    | some t =>
      if t.stage ≠ .bucket || s.txWaits t then s
      else
        let a := t.airtime (s.txSnap t.prof)
        if s.get ((SAD_ACAPp_CAP t.p).at 200) < a then s.txUnsent t .refusedShare
        else if (s.part t.p).level < ((a : Nat) : Rat) then s
        else
          let t := { t with drawn := a, air := a, be := min (s.get AIR_BOCFG_BEMIN) (s.get AIR_BOCFG_BEMAX) }
          let s := s.updPart t.p fun P => { P with level := P.level - ((a : Nat) : Rat) }
          (s.txOrder t).txAdmit t)

/-- REGULATORY_WAIT_END (R214). -/
def execRegulatoryWaitEnd (id : Nat) (s : State) : Host.Outcome State Fault Refusal :=
  .next (match s.txFind id with
    | some t => if t.stage = .held && decide (t.until_ ≤ s.tick) && s.airOn then s.txAdmit t else s
    | none => s)

/-- BACKOFF_END (R220): admission and listening run again. -/
def execBackoffEnd (id : Nat) (s : State) : Host.Outcome State Fault Refusal :=
  .next (match s.txFind id with
    | some t => if t.stage = .backoff && decide (t.until_ ≤ s.tick) then s.txAdmit t else s
    | none => s)

/-- A busy channel (R220): a random backoff, or DEFERRED. -/
def State.lbtBusy (s : State) (t : Tx) : State :=
  if s.get AIR_BOCFG_MAXBO < t.tries + 1 then s.txDefer t
  else
    let r := s.random 1
    let wait := ofOctets r.1 % 2 ^ t.be * s.get AIR_BOCFG_BU
    let s := r.2
    if t.latest < s.tick + wait then s.txDefer t
    else s.txUpd t.id fun u => { u with
      stage := .backoff, until_ := s.tick + wait, tries := u.tries + 1, be := min (u.be + 1) (s.get AIR_BOCFG_BEMAX) }

/-- A decision of listen(). -/
def State.lbtDecide (s : State) (t : Tx) (busy : Bool) : State :=
  if busy then s.lbtBusy t else s.txUpd t.id fun u => { u with stage := .clear, clearAt := s.tick }

/-- LBT_DECISION (R220 to R222): from the monitoring slot's samples; with none, chain B is retuned where that is
allowed and the decision uses the samples `e` it then measures. -/
def execLbtDecision (id : Nat) (e : List Int) (s : State) : Host.Outcome State Fault Refusal :=
  .next (match s.txFind id with
    | none => s
    | some t =>
      if t.stage ≠ .listen then s
      else match s.lbtParams t.freq with
        | none => s.txUpd t.id fun u => { u with stage := .clear, clearAt := s.tick }
        | some (thr, n) =>
          match profWidth (s.profA t.prof) (s.profB t.prof) with
          | none => (s.txDefer t).lbtFree
          | some w =>
            match (if s.air.lbtRet = some id then none else s.monSlot t.freq w) with
            | some k => if (s.slot k).valid < n then s else (s.lbtDecide t ((s.slot k).busy thr n)).lbtFree
            | none =>
              if s.combined || !s.flag AIR_LBTCFG_RETUNE then (s.txDefer t).lbtFree
              else if s.air.lbtRet = some id then
                if s.flag (SYNx_STAT_LOCK 1) && decide ((s.chn 1).lockAt + 2560 * n ≤ s.tbs.now) then
                  (s.lbtDecide t ((e.take n).any fun v => decide (-4 * (thr : Int) ≤ v))).lbtFree
                else s
              else if s.air.lbtRet.isSome || s.txm.follow then s
              else
                let s := ({ s with air := { s.air with lbtRet := some id }, txm := { s.txm with heldFreq := s.get (SYNx_FREQ_FREQ 1) } }).updChain 1
                  fun c => { c with follow := true }
                (s.freqCommand 1 (t.freq - 104858)).2)

/-! ## Release to the sequencer (R226, R341) -/

/-- The reservations with a T0 to come. -/
def State.fixedDue (s : State) : List Tx :=
  s.txs.filter fun t => t.fixed && (t.stage = .fixed || t.stage = .atRsa || t.stage = .bound)

/-- R226 for a frame without a fixed start that would begin now. -/
def State.meetsNext (s : State) (t : Tx) : Bool :=
  let z := s.tbs.now + t.air * 64
  s.fixedDue.all fun r => decide (z + 768 ≤ r.t0) && (r.freq = t.freq || decide (z + 10240 ≤ r.t0))

/-- HOLDRX holds back frames without a fixed start (R226). -/
def State.holdRx (s : State) : Bool :=
  s.flag AIR_CTL_HOLDRX && s.txs.any fun t => match t.kind with
    | .ack fid => t.stage = .fixed && decide (fid < quarFirst)
    | _ => false

/-- A transmission at RSA that has no fixed start and can no longer begin goes back (R341). -/
def State.withdraw (s : State) (t : Tx) : State :=
  let s := if t.stage = .bound then s.unbind else s
  let lbt := (s.lbtParams t.freq).isSome
  (s.txUpd t.id fun u => { u with stage := if lbt then .listen else .clear }).latch 33 0

/-- The transmissions without a fixed start at RSA. -/
def State.looseAtRsa (s : State) : List Tx := s.txs.filter fun t => !t.fixed && (t.stage = .atRsa || t.stage = .bound)

/-- A fixed-start frame that cannot go, wherever it stands (R225). -/
def State.fixedCannot (s : State) (t : Tx) : State :=
  if t.stage = .bound then (s.unbind.txCannot t).latch 33 0 else s.txCannot t

/-- The lapse of an LBT decision after 20 ticks (R220). -/
def State.lapsed (s : State) (t : Tx) : Bool := (s.lbtParams t.freq).isSome && decide (t.clearAt + 20 < s.tick)

/-- TRANSMISSION_RELEASE (R226, R341, R225): a fixed-start frame at T0 − 100 ticks, admitted at its T0; another when
it is clear, meets R226 and no frame before it in the order of R284 is. -/
def execTransmissionRelease (id : Nat) (s : State) : Host.Outcome State Fault Refusal :=
  .next (match s.txFind id with
    | none => s
    | some t =>
      if t.fixed then
        if t.stage ≠ .fixed || s.tbs.now + 6400 < t.t0 || s.pwr.sleep.isSome then s
        else if (match t.kind with | .ack _ => !t.ok | _ => false) then s
        else match s.grant t.freq t.air (t.t0 / 64) (t.t0 / 64) with
          | .grant => ((s.each (s.looseAtRsa.map Tx.id) fun s i => match s.txFind i with | some u => s.withdraw u | none => s).txUpd id
              fun u => { u with stage := .atRsa, until_ := s.tick }).latch 33 0
          | _ => (s.regNote t.freq).fixedCannot t
      else if t.stage ≠ .clear || !s.airOn || s.cal.step.isSome then s
      else if s.lapsed t then s.txUpd id fun u => { u with stage := .listen }
      else if !s.meetsNext t || s.holdRx || !s.looseAtRsa.isEmpty || s.txAir.isSome ||
          ((s.txs.takeWhile fun u => u.id ≠ id).any fun u => u.stage = .clear && !u.fixed) then s
      else
        let s := (s.txUpd id fun u => { u with stage := .atRsa, until_ := s.tick }).latch 33 0
        if s.gateFor t.freq then s else (s.freqCommand 2 t.freq).2)

/-- TRANSMISSION_WITHDRAWAL (R341). -/
def execTransmissionWithdrawal (s : State) : Host.Outcome State Fault Refusal :=
  .next (match s.looseAtRsa with
    | t :: _ => if s.meetsNext t then s else s.withdraw t
    | [] => s)

/-- SYNT_PRETUNE (R226): SYNT is commanded unless it is locked there. -/
def execSyntPretune (id : Nat) (s : State) : Host.Outcome State Fault Refusal :=
  .next (match s.txFind id with
    | some t =>
      if s.fixedDue.contains t && decide (t.t0 ≤ s.tbs.now + 22400) && !s.gateFor t.freq then
        ((if s.inCol then s.set (SYNx_CTL_EN 2) 1 else s).freqCommand 2 t.freq).2 else s
    | none => s)

/-- Whether a fixed-start frame obeys LBT (R223). -/
def State.fixedLbt (s : State) (t : Tx) : Bool :=
  (s.lbtParams t.freq).isSome && match t.kind with
    | .ack _ => (match s.air.prof with | some r => bit r.flags 0 | none => false)
    | _ => true

/-- Whether LBT finds the channel of a fixed-start frame clear (R223). -/
def State.fixedClear (s : State) (t : Tx) : Bool :=
  match s.lbtParams t.freq, profWidth (s.profA t.prof) (s.profB t.prof) with
  | some (thr, n), some w =>
    match s.monSlot t.freq w with
    | none => false
    | some k =>
      let enough := match t.kind with
        | .ack _ => decide (n ≤ (s.slot k).since t.after)
        | _ => decide (n ≤ (s.slot k).valid)
      enough && !(s.slot k).busy thr n
  | none, _ => true
  | _, none => false

/-- FIXED_START_LBT_CHECK (R223): at T0 − 20 ticks. -/
def execFixedStartLbtCheck (id : Nat) (s : State) : Host.Outcome State Fault Refusal :=
  .next (match s.txFind id with
    | some t =>
      if !s.fixedDue.contains t || t.decided || s.tbs.now + 1280 < t.t0 || s.pwr.sleep.isSome then s
      else if s.fixedLbt t && !s.fixedClear t then s.fixedCannot t
      else s.txUpd id fun u => { u with decided := true }
    | none => s)

/-- TX_LOCK_WAIT_LIMIT (R65, R340, R341). -/
def execTxLockWaitLimit (s : State) : Host.Outcome State Fault Refusal :=
  .next (match s.txBound with
    | some t => if !t.fixed && decide (t.until_ + s.get AIR_TXLOCKWAIT_WAIT ≤ s.tick) then s.latch 33 2 else s
    | none => s)

/-! ## Latest start, retry, timeout (R226, R236, R283, R427) -/

/-- LATEST_START_EXPIRY (R23, R214, R226, R283). -/
def execLatestStartExpiry (id : Nat) (s : State) : Host.Outcome State Fault Refusal :=
  .next (match s.txFind id with
    | none => s
    | some t =>
      if t.fixed || s.tick ≤ t.latest then s
      else match t.stage with
        | .bucket | .listen | .backoff | .clear | .atRsa => (s.txDefer t).lbtFree
        | .bound => (s.unbind.txDefer t).lbtFree
        | .held =>
          if !s.airOn then s.txDefer t
          else match s.grant t.freq t.air s.tick t.latest with
            | .refuse c => (s.regNote t.freq).txUnsent t c
            | _ => s.txDefer t
        | _ => s)

/-- DEFER_RETRY (R236): back to step 2, with a fresh latest start unless the submission named one. -/
def execDeferRetry (id : Nat) (s : State) : Host.Outcome State Fault Refusal :=
  .next (match s.txFind id with
    | some t =>
      if t.stage = .retry && decide (t.until_ ≤ s.tick) then
        let fresh := fun (u : Tx) => if u.named then u.latest else s.tick + 1000 * s.get (AIR_TXPOL_MAXWAIT.at u.p)
        s.txUpd id fun u => { u with stage := .bucket, latest := fresh u }
      else s
    | none => s)

/-- ACK_TIMEOUT (R427). -/
def execAckTimeout (id : Nat) (s : State) : Host.Outcome State Fault Refusal :=
  .next (match s.txFind id with
    | some t =>
      if t.stage = .acked && decide (t.ended + 1000 * t.ackWait ≤ s.tick) then (s.txDel id).raiseImg t.p t.imgB .ackTimeout else s
    | none => s)

/-! ## Group acknowledgements and beacons (R229 to R233) -/

/-- The first group instant of a partition at or after now. -/
def State.groupAt (s : State) (p : Nat) : Nat := s.tick + s.groupNext p s.tick

/-- The frame that lists the entries `l`, sent at `g`. -/
def State.groupFrame (s : State) (p g prof : Nat) (l : List GEnt) : Tx :=
  let nidx := s.get (AIR_BCNP_NIDX.at p)
  { kind := .group, p := p, host := false, prof := prof, freq := s.get (AIR_GFREQ_FREQ.at p), fmt := 2
    codeF := s.get (AIR_GACKCFG_GCODE.at p), wht := true, fcst := 0, pre := s.get (AIR_ACKCFG_PRE.at p)
    len := 10 + 3 * l.length, sync := nidx, sub := s.tick, ts := g * 64
    ents := l.map fun e => (e.saddr, e.seq)
    body := frameCtl 2 (s.get (AIR_BCNP_VERLO.at p)) 1 0 false false false ++ octets 2 (s.nidOf p nidx) ++
      octets 1 ((s.part p).seqG + 1) ++ octets 2 0xFFFF ++ octets 1 l.length ++ l.flatMap fun e => octets 2 e.saddr ++ octets 1 e.seq }

/-- The entries a group frame lists: oldest first, at most 64, within half a group period (R230). -/
def State.groupTake (s : State) (p g prof : Nat) (l : List GEnt) : Nat → List GEnt
  | 0 => []
  | n + 1 =>
    let m := l.take (n + 1)
    if (s.groupFrame p g prof m).airtime (s.txSnap prof) ≤ s.get (AIR_GACKCFG_GPER.at p) * 500 then m else s.groupTake p g prof l n

/-- The frame built for a group instant, where an entry is pending and a profile matches. -/
def State.groupTx (s : State) (p g : Nat) : Option (Tx × List GEnt) :=
  let mine := s.air.gents.filter fun e => e.p = p && e.ok
  match mine with
  | [] => none
  | e :: _ =>
    let d := s.desc (e.hyp / 4)
    match s.matchProf p (hypMod d (e.hyp % 4)) e.rate (hypDev d (e.hyp % 4)) with
    | none => none
    | some n =>
      let l := (mine.filter fun x => x.rate = e.rate).take 64
      let take := s.groupTake p g n l l.length
      if take.isEmpty then none else some (s.groupFrame p g n take, take)

/-- Counting a group instant for the entries not listed; an entry it is the second for is discarded (R230). -/
def State.groupMiss (s : State) (p g : Nat) (listed : List GEnt) : State :=
  let old := fun (e : GEnt) => e.p = p && decide (e.endT ≤ g)
  let gone := s.air.gents.filter fun e => old e && !listed.contains e && decide (1 ≤ e.missed)
  let left := (s.air.gents.filter fun e => !gone.contains e).map fun e => if old e then { e with missed := e.missed + 1 } else e
  let s := { s with air := { s.air with gents := left } }
  let s := gone.foldl (fun s e => (s.refund p e.air).ackNotSent p) s
  s.set (AIR_PACK_GPEND.at p) (s.get (AIR_PACK_GPEND.at p) - gone.length)

/-- GROUP_ACK_BUILD (R230, R231): 1000 ticks before a group instant. -/
def execGroupAckBuild (p : Fin 32) (s : State) : Host.Outcome State Fault Refusal :=
  .next (
    let g := s.groupAt p
    if s.tick + 1000 < g || Tab.get 0 s.air.gbuilt p = g || s.pwr.sleep.isSome then s
    else
      let s := { s with air := { s.air with gbuilt := Tab.set 0 s.air.gbuilt p g } }
      match s.groupTx p g with
      | none => s.groupMiss p g []
      | some (t, l) =>
        let w := s.get ((AIR_TXSYNCn_SYNC t.sync).at p)
        let a := t.airtime (s.txSnap t.prof) - (l.map GEnt.air).sum
        match (if syncOk 2 w then s.reserve t a else none) with
        | some s' => (s'.updPart p fun P => { P with seqG := (P.seqG + 1) % 256 }).groupMiss p g l
        | none => s.groupMiss p g [])

/-- The beacon of a partition whose contents are fixed (R232, R233). -/
def State.beaconFrame (s : State) (p b : Nat) (body : List Byte) : Tx :=
  let fb := if s.flag CLK_STAT_FALLBACK then 4 else 0
  { kind := .beacon, p := p, host := false, prof := s.get (AIR_BCNP_BPROF.at p), freq := s.get (AIR_BFREQ_FREQ.at p), fmt := 2
    codeF := 1, wht := true, fcst := 0, pre := s.get (AIR_ACKCFG_PRE.at p), len := body.length + 2
    sync := s.get (AIR_BCNP_NIDX.at p), sub := s.tick, ts := (b + s.get (AIR_BOFF_OFF.at p)) * 64
    body := body.take 4 ++ octets 1 ((s.part p).seqB + 1) ++ (body.drop 5).take 2 ++
      octets 1 (ofOctets ((body.drop 7).take 1) + fb) ++ body.drop 8 }

/-- BEACON_BUILD (R232): at the later of the boundary and T_S − 1000 ticks. -/
def execBeaconBuild (p : Fin 32) (s : State) : Host.Outcome State Fault Refusal :=
  .next (match s.air.bcnDue.find? fun e => e.1 = p.val with
    | none => s
    | some (_, b, body) =>
      let t := s.beaconFrame p b body
      if s.tick + 1000 < t.ts / 64 || s.pwr.sleep.isSome then s
      else
        let s := { s with air := { s.air with bcnDue := s.air.bcnDue.filter fun e => e.1 ≠ p.val } }
        let w := s.get ((AIR_TXSYNCn_SYNC t.sync).at p)
        if !syncOk 2 w || !(s.get (TXM_PROFnC_PARTMASK t.prof)).testBit p then s
        else match s.reserve t (t.airtime (s.txSnap t.prof)) with
          | some s' => s'.updPart p fun P => { P with seqB := (P.seqB + 1) % 256 }
          | none => s)

/-! ## Enable and counters (R237, R619) -/

/-- A write of AIR_CTL.EN (R619): clearing it releases the reservations made, unsent. -/
def State.writeAirEn (s : State) (en : Bool) : State :=
  let s := s.setB AIR_CTL_EN en
  if en then s else s.fixedDue.foldl State.fixedCannot s

/-- AIR_ENABLE_WRITE (R619). -/
def execAirEnableWrite (en : Bool) (s : State) : Host.Outcome State Fault Refusal := .next (s.writeAirEn en)

/-- Clearing all AIR counters (R237); AIR_PACK.GPEND shows entries that stay pending. -/
def State.airClear (s : State) : State :=
  let s := { s with air := { s.air with pairt := [], blkT := 0 } }
  let s := s.sets [(AIR_BLKCNT_LOST, 0), (AIR_BLKCNT_INTV, 0), (AIR_BLKTIME_MS, 0), (AIR_NONID_COUNT, 0), (AIR_ACKSTAT_NOTSENT, 0),
    (AIR_ACKSTAT_SENT, 0)]
  s.each allParts fun s p => s.sets [(AIR_PAIRT_MS.at p, 0), (AIR_PACK_NOTSENT.at p, 0)]

/-- AIR_CLEAR_COUNTERS (R237). -/
def execAirClearCounters (s : State) : Host.Outcome State Fault Refusal := .next s.airClear

end Sys2Proof.Machine
end

