-- ==== Sys2Proof/Machine/Asc.lean ====
section
/-!
DEFINITION. Associations (spec/09_associations_and_schedules.md): the wheel's actions, resynchronisation
frames, the association window (R242), the address range, the block's enable and counters; adds and
drops (R248, R249) as every form of them shares.
-/

namespace Sys2Proof.Machine

open Reg

/-! ## The wheel (R252 to R255) -/

/-- Whether the wheel takes actions (R263, R264, R619). -/
def State.wheelRuns (s : State) : Bool := s.flag ASC_CTL_EN && !s.flag TBS_STAT_DISCONT && s.pwr.sleep.isNone

/-- MAXLAT after an action due at a tick (R255). -/
def State.wheelLate (s : State) (due : Int) : State :=
  s.set ASC_WHL_MAXLAT (max (s.get ASC_WHL_MAXLAT) (min ((s.tick : Int) - due).toNat 0xFFFF))

/-- The oldest frame queued for the next transmit window of an association (R253). -/
def State.windowFrame (s : State) (p li : Nat) : Option Tx :=
  (s.txs.filter fun t => decide (t.p = p) && t.entry = some li && t.stage = .window).foldl
    (fun m t => match m with | some u => if u.sub ≤ t.sub then some u else some t | none => some t) none

/-- Offering the oldest frame of an armed transmit-window entry to AIR (R253). -/
def State.windowOffer (s : State) (p li : Nat) (e : AscEnt) : State :=
  match s.windowFrame p li with
  | none => s
  | some t =>
    let wb := ceilDiv (2 * e.h * profRate (s.profA t.prof)) 10000000
    if 65535 < wb then s.txUnsent t .refusedLength
    else if s.txWaits t then s
    else
      let t := { t with wb := wb, ts := ((e.w - e.h) * 64).toNat, fixed := true }
      match (s.txDel t.id).reserve t (t.airtime (s.txSnap t.prof)) with
      | some s' => s'
      | none => s

/-- WHEEL_OFFER (R254): at W − h − LEAD × 1000 ticks. -/
def execWheelOffer (p : Fin 32) (li : Nat) (s : State) : Host.Outcome State Fault Refusal :=
  .next (
    let ph := s.entOf p li
    let e := s.ascEnt ph
    let due := e.w - e.h - ((s.get ASC_WHL_LEAD * 1000 : Nat) : Int)
    if s.wheelRuns && e.armed && !e.offered && s.clsTx p (s.entClass ph) && decide (due ≤ (s.tick : Int)) then
      ((s.updAsc ph fun e => { e with offered := true }).wheelLate due).windowOffer p li e
    else s)

/-- NEXTWAKE advances by one period (R252). -/
def State.onePeriod (s : State) (ph : Nat) : State :=
  s.putEnt ph 60 4 (s.ent ph 60 4 + s.clsPeriod (s.entOwner ph) (s.entClass ph))

/-- The verdict of a receive window (R252, R259). -/
def State.recvVerdict (s : State) (p ph : Nat) (hit : Bool) : State :=
  let miss := min (s.entFlag ph 3 4 + 1) 15
  let s := if hit then s.putFlag ph 3 4 0 else (s.putFlag ph 3 4 miss).count (ASC_PCNT_MISSED.at p) 1
  if s.entFrs ph then
    if hit then s.arm ph
    else if miss = s.get (ASC_FRCFG_MISSMAX.at p) then s.contactLost ph
    else (s.onePeriod ph).arm ph
  else (s.onePeriod ph).arm ph

/-- Whether an armed window's verdict is due. -/
def State.verdictDue (s : State) (ph : Nat) : Bool :=
  s.wheelRuns && (s.ascEnt ph).armed && decide (s.verdictAt ph ≤ (s.tick : Int))

/-- RECEIVE_WINDOW_VERDICT (R252). -/
def execReceiveWindowVerdict (p : Fin 32) (li : Nat) (s : State) : Host.Outcome State Fault Refusal :=
  .next (
    let ph := s.entOf p li
    if s.verdictDue ph && !s.clsTx p (s.entClass ph) then
      (s.wheelLate (s.verdictAt ph)).recvVerdict p ph (s.ascEnt ph).hit
    else s)

/-- TRANSMIT_WINDOW_VERDICT (R253). -/
def execTransmitWindowVerdict (p : Fin 32) (li : Nat) (s : State) : Host.Outcome State Fault Refusal :=
  .next (
    let ph := s.entOf p li
    if s.verdictDue ph && s.clsTx p (s.entClass ph) then
      let s' := s.wheelLate (s.verdictAt ph)
      (if s.entFrs ph && (s.ascEnt ph).hit then s' else s'.onePeriod ph).arm ph
    else s)

/-! ## The partition's transmit queue and step 1 of R23 -/

/-- Frames in a partition's transmit queue. -/
def State.txQueued (s : State) (p : Nat) : Nat :=
  (s.txs.filter fun t => decide (t.p = p) && (t.kind = .submit || t.kind = .resync) && t.stage ≠ .onAir && t.stage ≠ .acked).length

/-- Frames of an association that have reserved a counter value and a count (R383). -/
def State.txReserved (s : State) (p li : Nat) : Nat :=
  (s.txs.filter fun t => decide (t.p = p) && t.entry = some li && t.lvl ≠ 0 && t.stage ≠ .onAir && t.stage ≠ .acked).length

/-- The security checks of step 1 of R23 (R383, R386, R619). -/
def State.txSecCheck (s : State) (p li : Nat) : Option Code :=
  let ph := s.entOf p li
  let n := s.txReserved p li
  if !s.keysOn p then some .refusedQuota
  else if s.keyLimit p ≤ s.ent ph 56 4 + n then some .refusedKeyLimit
  else if 0xFFFFFFFF ≤ s.ent ph 52 4 + n then some .refusedCounterExhausted
  else none

/-! ## Resynchronisation frames (R258) -/

/-- The resynchronisation frame of an entry. -/
def State.resyncFrame (s : State) (p li : Nat) : Tx :=
  let n := s.get (ASC_LOSTCFG_RPROF.at p)
  let lvl := s.get (ASC_LOSTCFG_RSECLVL.at p)
  { kind := .resync, p := p, host := false, entry := some li, prof := n, freq := s.get (ASC_RFREQ_FREQ.at p), fmt := 2
    codeF := 1, wht := true, fcst := 0, pre := s.get (AIR_ACKCFG_PRE.at p)
    wb := min 65535 (ceilDiv (s.get (ASC_LOSTCFG_RBURST.at p) * profRate (s.profA n)) 10000)
    lvl := lvl, mic := micLen lvl, ackReq := true, seq := ((s.part p).seq + 1) % 256, len := 26 + micLen lvl
    sync := s.entNidx (s.entOf p li), sub := s.tick, latest := s.tick + 1000 * s.get (AIR_TXPOL_MAXWAIT.at p) }

/-- RESYNC_FRAME_TIMER (R258). -/
def execResyncFrameTimer (p : Fin 32) (li : Nat) (s : State) : Host.Outcome State Fault Refusal :=
  .next (
    let ph := s.entOf p li
    let per := s.get (ASC_LOSTCFG_RPER.at p)
    if s.wheelRuns && s.entSt ph = 2 && !s.entFrs ph && per ≠ 0 && decide ((s.ascEnt ph).resync ≤ s.tick) then
      let s := s.updAsc ph fun e => { e with resync := e.resync + 1000000 * per }
      let t := s.resyncFrame p li
      if (s.part p).desc.txQ ≤ s.txQueued p || (s.txSecCheck p li).isSome ||
          !syncOk 2 (s.get ((AIR_TXSYNCn_SYNC t.sync).at p)) || !(s.get (TXM_PROFnC_PARTMASK t.prof)).testBit p then s
      else
        let s := s.gridAfter ph ((t.latest + 999999 : Nat) : Int)
        (s.txAdd t).updPart p fun P => { P with seq := t.seq }
    else s)

/-! ## Enable, counters, address ranges (R246, R252, R619) -/

/-- A write of ASC_CTL.EN (R619). -/
def State.writeAscEn (s : State) (en : Bool) : State :=
  let was := s.flag ASC_CTL_EN
  let s := s.setB ASC_CTL_EN en
  let s := s.setB ASC_STAT_WHLHOLD (!en || s.flag TBS_STAT_DISCONT)
  if en && !was && !s.flag TBS_STAT_DISCONT then s.wheelResume else s

/-- ASC_ENABLE_WRITE (R619). -/
def execAscEnableWrite (en : Bool) (s : State) : Host.Outcome State Fault Refusal := .next (s.writeAscEn en)

/-- Clearing the ASC counters (R252). -/
def State.ascClear (s : State) : State :=
  (s.each allParts fun s p => s.sets [(ASC_PCNT_MISSED.at p, 0), (ASC_PCNT_OUTWIN.at p, 0), (ASC_PCNT2_LOST.at p, 0),
    (ASC_PCNT2_VERERR.at p, 0)]).set ASC_WHL_MAXLAT 0

/-- ASC_CLEAR_COUNTERS (R252). -/
def execAscClearCounters (s : State) : Host.Outcome State Fault Refusal := .next s.ascClear

/-- A write of ASC_SARNGp (R246). -/
def State.writeSarng (s : State) (p w : Nat) : State :=
  let first := bits w (ASC_SARNGp_FIRST p).lo 16
  let last := bits w (ASC_SARNGp_LAST p).lo 16
  if 1 ≤ first ∧ first ≤ last ∧ last ≤ 0xFFFD then
    s.sets [(ASC_SARNGp_FIRST p, first), (ASC_SARNGp_LAST p, last), (ASC_PSTAT_CURSOR.at p, last)]
  else s

/-- SHORT_ADDRESS_RANGE_WRITE (R246). -/
def execShortAddressRangeWrite (p : Fin 32) (w : Word) (s : State) : Host.Outcome State Fault Refusal := .next (s.writeSarng p w.toNat)

/-! ## The association window (R238, R242) -/

/-- The first partition address of the association window. -/
def ascFirst : Nat := 0x30000000

/-- Whether `n` octets from a partition address lie in the partition's association window. -/
def State.inAsc (s : State) (p a n : Nat) : Bool :=
  decide (ascFirst ≤ a ∧ a + n ≤ ascFirst + 64 * (s.part p).desc.assocQ)

/-- An octet of an entry as its partition sees it (R242). -/
def State.ntByte (s : State) (p a : Nat) : Byte :=
  let ph := s.entOf p ((a - ascFirst) / 64)
  let o := (a - ascFirst) % 64
  if s.entSt ph = 0 ∨ o < 24 then 0 else s.byte (ntFirst + 64 * ph + o)

/-- An entry as assoc-info and a read of the window show it. -/
def State.ntEntry (s : State) (p li : Nat) : List Byte := (List.range 64).map fun o => s.ntByte p (ascFirst + 64 * li + o)

/-- Whether a partition may store `n` octets into one of its entries, octet `o` on (R242). -/
def State.ntMay (s : State) (p li o n : Nat) : Bool :=
  s.entSt (s.entOf p li) ≠ 0 && (List.range n).all fun i => [34, 35, 39, 60, 61, 62, 63].contains (o + i)

/-- A store by the partition into one entry, octets `o` on (R242): none where it touches another octet. -/
def State.ntStore (s : State) (p li o : Nat) (l : List Byte) : Option State :=
  let ph := s.entOf p li
  let touched := (List.range l.length).map (· + o)
  if !s.ntMay p li o l.length then none
  else
    let old := s.entClass ph
    let f := s.ent ph 34 2
    let s' := s.store (ntFirst + 64 * ph + o) l
    let g := s'.ent ph 34 2
    let s' := s'.putEnt ph 34 2 (putBits (putBits f 12 1 (bits g 12 1)) 7 3 (bits g 7 3))
    let cls := s'.entClass ph ≠ old
    let wake := touched.any fun x => decide (60 ≤ x)
    let s' := if cls || wake then s'.arm ph else s'
    some (if (cls || touched.contains 39) && (s'.ckFind p li).isSome then s'.ckAsk p li else s')

/-! ## Adds and drops (R247 to R249) -/

/-- Whether an entry of a partition holds a short address with a network ID. -/
def State.saddrHeld (s : State) (p nidx a : Nat) : Bool :=
  (s.entsOf p).any fun li => decide (s.entNidx (s.entOf p li) = nidx) && decide (s.entSaddr (s.entOf p li) = a)

/-- The address ASC issues: the first after CURSOR that no entry holds (R247). -/
def State.nextSaddr (s : State) (p nidx : Nat) : Option Nat :=
  let first := s.get (ASC_SARNGp_FIRST p)
  let last := s.get (ASC_SARNGp_LAST p)
  if first = 0 then none
  else
    let n := last - first + 1
    let start := s.get (ASC_PSTAT_CURSOR.at p) + 1 - first
    ((List.range n).map fun i => first + (start + i) % n).find? fun a => !s.saddrHeld p nidx a

/-- The fields of an add, as assoc-add's payload spells them (R430). -/
structure AddReq where
  laddr  : Nat
  saddr  : Nat
  nidx   : Nat
  drift  : Nat
  ver    : Nat
  vlock  : Bool
  wclass : Nat
  frs    : Bool
  wake   : Nat
  key    : List Byte
  deriving DecidableEq, Repr

/-- The fields of an add. -/
def addReq (o : List Byte) : AddReq :=
  let b := fun a n => ofOctets ((o.drop a).take n)
  { laddr := b 0 8, saddr := b 8 2, nidx := bits (b 10 1) 0 2, drift := b 11 1, ver := bits (b 12 1) 0 3, vlock := bit (b 12 1) 3
    wclass := bits (b 12 1) 4 3, frs := bit (b 12 1) 7, wake := b 16 4, key := (o.drop 20).take 24 }

/-- The first failing check of an add (R248), or the short address it takes. -/
def State.addCheck (s : State) (p : Nat) (r : AddReq) : Sum Code Nat :=
  let es := s.entsOf p
  if (s.part p).desc.assocQ ≤ es.length then .inl .refusedQuota
  else if (s.part p).desc.nids.length ≤ r.nidx then .inl .refusedState
  else if es.any fun li => s.ent (s.entOf p li) 26 8 = r.laddr then .inl .refusedState
  else if r.saddr ≠ 0xFFFE && (r.saddr < s.get (ASC_SARNGp_FIRST p) || s.get (ASC_SARNGp_LAST p) < r.saddr || r.saddr = 0 ||
      s.saddrHeld p r.nidx r.saddr) then .inl .refusedState
  else match (if r.saddr = 0xFFFE then s.nextSaddr p r.nidx else some r.saddr) with
    | none => .inl .refusedQuota
    | some a =>
      if r.ver < s.get (AIR_BCNP_VERLO.at p) || s.get (AIR_BCNP_VERHI.at p) < r.ver || (r.wclass ≠ 7 && s.clsPeriod p r.wclass = 0) then
        .inl .refusedState
      else if !s.keysOn p then .inl .refusedQuota
      else match s.ownerKey p with
        | none => .inl .authFail
        | some o => if (Config.keyUnwrap o r.key).isNone then .inl .authFail else .inr a

/-- The lowest checkpoint record free for a new entry, its partition below its limit (R518). -/
def State.ckFree (s : State) (p : Nat) : Option Nat :=
  if s.ckHeld p < s.get (NVC_CKQp_QUOTA p) then ckRecs.find? fun r => !s.ckUsed r else none

/-- A record taken for an entry: STATE 0b11, which no entry holds, until its first write (R518). -/
def State.ckTake (s : State) (p li : Nat) : State :=
  match s.ckFree p with
  | none => s
  | some r => ((s.putNum (ckFirst + 64 * r + 34) 2 0xC000).putNum (ckFirst + 64 * r + 36) 4 (p + li / 16 * 128 + li % 16 * 2 ^ 20)).ckAsk p li

/-- An accepted add (R248): the lowest free local index. -/
def State.addDo (s : State) (p : Nat) (r : AddReq) (a : Nat) : Nat × State :=
  let li := match (List.range (s.part p).desc.assocQ).find? fun li => decide (s.entSt (s.entOf p li) = 0) with | some li => li | none => 0
  let ph := s.entOf p li
  let s := if r.saddr = 0xFFFE then s.set (ASC_PSTAT_CURSOR.at p) a else s
  let s := s.store (ntFirst + 64 * ph) (r.key ++ octets 2 a ++ octets 8 r.laddr ++
    octets 2 (0x4000 + 0x2000 * r.frs.toNat + 128 * r.wclass) ++ octets 2 (p + 32 * r.nidx) ++ octets 2 (r.ver + 8 * r.vlock.toNat + 256 * r.drift) ++
    octets 8 s.tbs.now ++ octets 12 0 ++ octets 4 r.wake)
  let s := s.updAsc ph fun _ => {}
  (li, ((((s.ckTake p li).arm ph).ascUsed p).raise p .assoc))

/-- assoc-add: its code, local index, short address and the state after it (R248). -/
def State.assocAdd (s : State) (p : Nat) (o : List Byte) : Code × List Byte × State :=
  let r := addReq o
  match s.addCheck p r with
  | .inl c => (c, octets 4 0, s)
  | .inr a =>
    let x := s.addDo p r a
    (.done, octets 2 x.1 ++ octets 2 a, x.2)

/-- Ending every queued frame of an association (R249). -/
def State.dropFrames (s : State) (p li : Nat) : State :=
  (s.txs.filter fun t => decide (t.p = p) && t.entry = some li && t.stage ≠ .onAir).foldl (fun s t =>
    let s := if t.stage = .bound then s.unbind else s
    match t.stage with
    | .acked => s.txDel t.id
    | _ => s.txUnsent t .refusedState) s

/-- Wiping the frames matched to an association and not yet released (R249). -/
def State.dropRx (s : State) (p li : Nat) : State :=
  ((s.rx.filter fun e => match e.2 with
    | some f => f.part = some p && f.entry = some li && f.stage ≠ .done
    | none => false).map Prod.fst).foldl (fun s fid => s.endFrame fid) s

/-- Discarding the pending group entries of an association (R249). -/
def State.dropGents (s : State) (p saddr : Nat) : State :=
  let gone := s.air.gents.filter fun g => decide (g.p = p) && decide (g.saddr = saddr)
  let s := { s with air := { s.air with gents := s.air.gents.filter fun g => !(decide (g.p = p) && decide (g.saddr = saddr)) } }
  (gone.foldl (fun s g => s.refund p g.air) s).set (AIR_PACK_GPEND.at p) (s.get (AIR_PACK_GPEND.at p) - gone.length)

/-- Wiping an entry, its next key, its slots and its checkpoint record (R249, R518). -/
def State.wipeEntry (s : State) (p li : Nat) : State :=
  let ph := s.entOf p li
  let s := (s.dropGents p (s.entSaddr ph)).dropNext p li
  let s := s.zeroSlots fun x => decide (x.p = p) && (x.ref = .cur li || x.ref = .next li)
  let s := (s.keyUnnote p (.cur li)).disarm ph
  let s := match s.ckFind p li with | some r => s.zero (ckFirst + 64 * r) 64 | none => s
  let s := { s with nvq := s.nvq.filter fun q => match q with | .counter p' i _ => !(p' = p && i = li) | _ => true }
  ((s.zero (ntFirst + 64 * ph) 64).updAsc ph fun _ => {}).ascUsed p

/-- assoc-drop (R249). -/
def State.assocDrop (s : State) (p li : Nat) : Code × State :=
  if (s.part p).desc.assocQ ≤ li || s.entSt (s.entOf p li) = 0 then (.refusedAccess, s)
  else
    let s := (s.dropFrames p li).dropRx p li
    (.done, (s.wipeEntry p li).raise p .assoc)

end Sys2Proof.Machine
end

