-- ==== Sys2Proof/Machine/Crc.lean ====
section
/-!
DEFINITION. General check-value units (spec/14_check_value_units.md): loans, messages, verdicts.
-/

namespace Sys2Proof.Machine

/-- A local slot. -/
def State.crcSlot (s : State) (p l : Nat) : CrcSlot := Tab.get {} s.crcs (8 * p + l)
/-- The state with a local slot changed. -/
def State.updCrc (s : State) (p l : Nat) (f : CrcSlot → CrcSlot) : State := { s with crcs := Tab.upd {} s.crcs (8 * p + l) f }

/-! ## The calculation (R396) -/

/-- W of a configuration word. -/
def crcW (cfg : Nat) : Nat := bits cfg 0 5 + 1
/-- Octets of an expected value: ceil(W / 8). -/
def crcN (cfg : Nat) : Nat := ceilDiv (crcW cfg) 8
/-- Whether a message holds back its last octets (R405). -/
def crcHolds (cfg : Nat) : Bool := bit cfg 8 && bit cfg 9

/-- One octet into the running value. -/
def crcOctet (c : CrcPar) (reg : Nat) (x : Byte) : Nat := (octBits (bit c.cfg 5) x).foldl (crcBit (crcW c.cfg) c.poly) reg

/-- The result of a running value. -/
def crcResult (c : CrcPar) (reg : Nat) : Nat := (if bit c.cfg 6 then reverseBits (crcW c.cfg) reg else reg) ^^^ c.xor

/-- Keeping the low W bits of the parameters (R396). -/
def CrcPar.trim (c : CrcPar) : CrcPar :=
  let w := crcW c.cfg
  { c with poly := low w c.poly, init := low w c.init, xor := low w c.xor, exp := low w c.exp }

/-! ## Messages (R402 to R408) -/

/-- START: the parameters are latched. -/
def CrcSlot.start (u : CrcSlot) : CrcSlot :=
  { u with cur := u.par, isOpen := true, reg := u.par.init, pos := 0, trail := 0, capv := false, cmpres := 0, alvres := 0 }

/-- Opening a message with the present parameters, as a restore does (R404). -/
def CrcSlot.reopen (u : CrcSlot) : CrcSlot := if u.isOpen then u else { u with cur := u.par, isOpen := true }

/-- Capturing the alive counter from the octet at offset `i` (R407). -/
def CrcSlot.capture (u : CrcSlot) (i : Nat) (x : Byte) : CrcSlot :=
  if bit u.cur.cfg 10 && i = bits u.cur.cfg 20 11 then
    { u with capv := true, capt := bits x.toNat (bits u.cur.cfg 16 3) (bits u.cur.cfg 12 3 + 1) }
  else u

/-- Octets held back, oldest first. -/
def CrcSlot.held (u : CrcSlot) : List Byte := (octets 4 u.trail).take (min u.pos (crcN u.cur.cfg))

/-- Feeding one octet to the open message. -/
def CrcSlot.feed1 (u : CrcSlot) (x : Byte) : CrcSlot :=
  let next := min (u.pos + 1) 0xFFFF
  if crcHolds u.cur.cfg then
    let n := crcN u.cur.cfg
    let l := u.held ++ [x]
    if l.length ≤ n then { u with pos := next, trail := ofOctets l }
    else
      let y := l.headD 0
      { (u.capture (u.pos - n) y) with reg := crcOctet u.cur u.reg y, pos := next, trail := ofOctets l.tail }
  else { (u.capture u.pos x) with reg := crcOctet u.cur u.reg x, pos := next }

/-- Feeding octets: a message is opened where none is (R402). -/
def CrcSlot.feed (u : CrcSlot) (l : List Byte) : CrcSlot := l.foldl CrcSlot.feed1 (if u.isOpen then u else u.start)

/-- The expected value (R405). -/
def CrcSlot.expected (u : CrcSlot) : Nat :=
  if bit u.cur.cfg 9 then low (crcW u.cur.cfg) (if bit u.cur.cfg 6 then ofOctets u.held else ofOctets u.held.reverse)
  else u.cur.exp

/-- FINISH: the verdicts of R406 and R408, and whether EV_CRC_MISMATCH is raised. -/
def CrcSlot.finish (u : CrcSlot) : Bool × CrcSlot :=
  if !u.isOpen then (false, u)
  else
    let r := crcResult u.cur u.reg
    let cmp := if !bit u.cur.cfg 8 then 0
      else if bit u.cur.cfg 9 && decide (u.pos < crcN u.cur.cfg) then 3
      else if r = u.expected then 1 else 2
    let m := 2 ^ (bits u.cur.cfg 12 3 + 1)
    let alv := if !bit u.cur.cfg 10 || !u.capv then 0
      else if !u.valid || u.capt = (u.last + 1) % m then 1
      else if u.capt = u.last then 2 else 3
    let move := bit u.cur.cfg 10 && u.capv && (cmp = 0 || cmp = 1)
    (2 ≤ cmp || 2 ≤ alv, { u with
      isOpen := false, res := r, cmpres := cmp, alvres := alv, last := if move then u.capt else u.last, valid := u.valid || move })

/-! ## Loans (R400, R401) -/

/-- The general units on loan. -/
def State.crcLent (s : State) : List Nat := s.crcs.filterMap fun e => e.2.unit
/-- The units a partition holds. -/
def State.crcHeld (s : State) (p : Nat) : Nat := ((List.range 8).filter fun l => (s.crcSlot p l).unit.isSome).length

/-- HOLD = 1 (R400). -/
def State.crcHold (s : State) (p l : Nat) : State :=
  let q := (s.part p).desc.crcQ
  if (s.crcSlot p l).unit.isSome then s.updCrc p l fun u => { u with loanrej := false, wrej := false }
  else match (List.range 8).find? fun u => !s.crcLent.contains u with
    | some n =>
      if q ≤ l || q ≤ s.crcHeld p then s.updCrc p l fun u => { u with loanrej := true }
      else s.updCrc p l fun _ => { unit := some n }
    | none => s.updCrc p l fun u => { u with loanrej := true }

/-- HOLD = 0 (R400): the unit is returned, everything zeroed. -/
def State.crcReturn (s : State) (p l : Nat) : State := s.updCrc p l fun _ => {}

/-- Every unit of a partition returned zeroed, its operations ended (R401, R409). -/
def State.crcReturnAll (s : State) (p : Nat) : State := s.each (List.range 8) fun s l => s.crcReturn p l

/-- A write to a slot's registers: refused with WREJ while crc-op runs (R409), without effect with no unit held. -/
def State.crcWrite (s : State) (p l : Nat) (f : CrcSlot → CrcSlot) : State :=
  let u := s.crcSlot p l
  if u.busy then s.updCrc p l fun u => { u with wrej := true }
  else if u.unit.isNone then s
  else s.updCrc p l fun u => { f u with wrej := false }

/-- START. -/
def State.crcStart (s : State) (p l : Nat) : State := s.crcWrite p l CrcSlot.start

/-- FINISH with its event (R406, R408). -/
def State.crcFinish (s : State) (p l : Nat) : State :=
  let u := s.crcSlot p l
  let ev := !u.busy && u.unit.isSome && u.finish.1
  let s := s.crcWrite p l fun u => u.finish.2
  if ev then s.raise p .crcMismatch else s

/-- A write of CRC_LCTLl (R400, R402, R410). -/
def State.writeCrcCtl (s : State) (p l w : Nat) : State :=
  if (s.crcSlot p l).busy then s.updCrc p l fun u => { u with wrej := true }
  else
    let s := if bit w 0 then s.crcHold p l else s
    let s := if bit w 1 then s.crcStart p l else s
    let s := if bit w 2 then s.crcFinish p l else s
    if bit w 0 then s else s.crcReturn p l

/-- A write of CRC_LCFGl (R407). -/
def CrcSlot.writeCfg (u : CrcSlot) (w : Nat) : CrcSlot :=
  if bit w 10 && decide (8 < bits w 16 3 + bits w 12 3 + 1) then { u with cfgrej := true }
  else { u with par := { u.par with cfg := w &&& 0x7FF7777F }.trim, cfgrej := false }

/-- CRC_HOLD (R400). -/
def execCrcHold (p : Fin 32) (l : Fin 8) (s : State) : Host.Outcome State Fault Refusal :=
  .next (if (s.crcSlot p l).busy then s.updCrc p l fun u => { u with wrej := true } else s.crcHold p l)

/-- CRC_RETURN (R400). -/
def execCrcReturn (p : Fin 32) (l : Fin 8) (s : State) : Host.Outcome State Fault Refusal :=
  .next (if (s.crcSlot p l).busy then s.updCrc p l fun u => { u with wrej := true } else s.crcReturn p l)

/-- CRC_START (R402). -/
def execCrcStart (p : Fin 32) (l : Fin 8) (s : State) : Host.Outcome State Fault Refusal := .next (s.crcStart p l)

/-- CRC_FINISH (R402). -/
def execCrcFinish (p : Fin 32) (l : Fin 8) (s : State) : Host.Outcome State Fault Refusal := .next (s.crcFinish p l)

/-- Feeding the low `n` octets of a word (R402). -/
def State.crcFeed (s : State) (p l n w : Nat) : State := s.crcWrite p l fun u => u.feed (octets n w)

/-- CRC_FEED_1 (R402). -/
def execCrcFeed1 (p : Fin 32) (l : Fin 8) (w : Word) (s : State) : Host.Outcome State Fault Refusal := .next (s.crcFeed p l 1 w.toNat)
/-- CRC_FEED_2 (R402). -/
def execCrcFeed2 (p : Fin 32) (l : Fin 8) (w : Word) (s : State) : Host.Outcome State Fault Refusal := .next (s.crcFeed p l 2 w.toNat)
/-- CRC_FEED_4 (R402). -/
def execCrcFeed4 (p : Fin 32) (l : Fin 8) (w : Word) (s : State) : Host.Outcome State Fault Refusal := .next (s.crcFeed p l 4 w.toNat)

/-- A write of CRC_LRUNl 0, CRC_LPOSl 1 or CRC_LTRAILl 2 (R404). -/
def CrcSlot.restore (u : CrcSlot) (which w : Nat) : CrcSlot :=
  let u := u.reopen
  match which with
  | 0 => { u with reg := low (crcW u.cur.cfg) w }
  | 1 => { u with pos := w % 65536 }
  | _ => { u with trail := w }

/-- CRC_STATE_RESTORE (R404). -/
def execCrcStateRestore (p : Fin 32) (l : Fin 8) (which : Fin 3) (w : Word) (s : State) : Host.Outcome State Fault Refusal :=
  .next (s.crcWrite p l fun u => u.restore which w.toNat)

/-- CRC_CONFIG_WRITE (R407). -/
def execCrcConfigWrite (p : Fin 32) (l : Fin 8) (w : Word) (s : State) : Host.Outcome State Fault Refusal :=
  .next (s.crcWrite p l fun u => u.writeCfg w.toNat)

/-- A write of a parameter or of CRC_LALVl (R403, R404): 0 POLY, 1 INIT, 2 XOROUT, 3 the expected value, 4 CRC_LALVl. -/
def CrcSlot.writePar (u : CrcSlot) (which w : Nat) : CrcSlot :=
  match which with
  | 0 => { u with par := { u.par with poly := w }.trim }
  | 1 => { u with par := { u.par with init := w }.trim }
  | 2 => { u with par := { u.par with xor := w }.trim }
  | 3 => { u with par := { u.par with exp := w }.trim }
  | _ => { u with capv := bit w 17, valid := bit w 16, capt := bits w 8 8, last := bits w 0 8 }

/-- CRC_LSTATl as read (R401). -/
def CrcSlot.stat (u : CrcSlot) : Nat :=
  u.alvres * 2 ^ 14 + u.cmpres * 2 ^ 12 + u.loanrej.toNat * 32 + u.cfgrej.toNat * 16 + u.wrej.toNat * 8 + u.busy.toNat * 4 +
    u.isOpen.toNat * 2 + u.unit.isSome.toNat

/-- A register of a local slot as read, by its offset in the slot's 64 octets. -/
def CrcSlot.read (u : CrcSlot) (o : Nat) : Nat :=
  match o with
  | 0x00 => u.unit.isSome.toNat
  | 0x04 => u.par.cfg
  | 0x08 => u.par.poly
  | 0x0C => u.par.init
  | 0x10 => u.par.xor
  | 0x14 => u.par.exp
  | 0x24 => u.reg
  | 0x28 => u.pos
  | 0x2C => u.res
  | 0x30 => u.capv.toNat * 2 ^ 17 + u.valid.toNat * 2 ^ 16 + u.capt * 256 + u.last
  | 0x34 => u.stat
  | 0x38 => u.trail
  | _ => 0

/-- A write of a register of a local slot, by its offset. -/
def State.crcRegWrite (s : State) (p l o w : Nat) : State :=
  match o with
  | 0x00 => s.writeCrcCtl p l w
  | 0x04 => s.crcWrite p l fun u => u.writeCfg w
  | 0x08 => s.crcWrite p l fun u => u.writePar 0 w
  | 0x0C => s.crcWrite p l fun u => u.writePar 1 w
  | 0x10 => s.crcWrite p l fun u => u.writePar 2 w
  | 0x14 => s.crcWrite p l fun u => u.writePar 3 w
  | 0x18 => s.crcFeed p l 1 w
  | 0x1C => s.crcFeed p l 2 w
  | 0x20 => s.crcFeed p l 4 w
  | 0x24 => s.crcWrite p l fun u => u.restore 0 w
  | 0x28 => s.crcWrite p l fun u => u.restore 1 w
  | 0x30 => s.crcWrite p l fun u => u.writePar 4 w
  | 0x38 => s.crcWrite p l fun u => u.restore 2 w
  | _ => s

/-- crc-op (R409): its checks, for `data` octets found, `len` octets named, the buffer readable. -/
def State.crcOpCheck (s : State) (p l len : Nat) (readable : Bool) : Option Code :=
  if (s.crcSlot p l).unit.isNone then some .refusedAccess
  else if len = 0 ∨ 4096 < len then some .refusedLength
  else if !readable then some .refusedAccess else none

/-- crc-op carried out (R409): START, the octets, FINISH as asked; its report. -/
def State.crcOp (s : State) (p l : Nat) (start fin : Bool) (data : List Byte) : List Byte × State :=
  let s := s.updCrc p l fun u => { u with busy := false }
  let s := if start then s.updCrc p l CrcSlot.start else s
  let s := s.updCrc p l fun u => u.feed data
  let s := if fin then s.crcFinish p l else s
  let u := s.crcSlot p l
  (octets 4 u.res ++ octets 1 (u.cmpres + 4 * u.alvres), s)

end Sys2Proof.Machine
end

