-- ==== Sys2Proof/Machine/Hif.lean ====
section
/-!
DEFINITION. Host messages and the SPI port (spec/15): acceptance under R416 to R421, the port's
commands and its status octet.
-/

namespace Sys2Proof.Machine

open Reg

/-! ## The status payload -/

/-- The status payload of R430. -/
def State.statusBody (s : State) (p : Nat) : List Byte :=
  let fb := (s.flag CLK_STAT_FALLBACK).toNat + 2 * s.pwr.lockdown.toNat
  let err := if p = 0 then [HIF_ERRCNT_NOPART, HIF_ERRCNT_HDRERR, HIF_ERRCNT_CRCERR, HIF_ERRCNT_PARTIAL].flatMap fun F => octets 1 (s.get F)
    else octets 4 0
  octets 1 s.mode ++ octets 1 fb ++ octets 1 (s.get (HIF_PALIVE_INLAST.at p) + 1) ++ octets 1 (s.get (HIF_PALIVE_OUTNEXT.at p)) ++
    octets 8 s.tbs.now ++ err

/-! ## Acceptance (R416 to R421) -/

/-- A status REPORT to P0 on a discard, at most once in 100 ms (R435). -/
def State.errNote (s : State) (x : Nat) : State :=
  let last := max ((s.port 0).note.getD 0) ((s.port 1).note.getD 0)
  let never := (s.port 0).note.isNone && (s.port 1).note.isNone
  if s.flag HIF_CTL_ERRNOTE && (never || decide (last + 100000 ≤ s.tick)) then
    (s.updPort x fun r => { r with note := some s.tick }).post 0 { typ := 0x02, body := respBody 0 (s.statusBody 0) }
  else s

/-- A fault recorded in HIF_ERRSTAT. -/
def State.errStat (s : State) (x kind part : Nat) : State :=
  s.sets [(HIF_ERRSTAT_PNUM, part), (HIF_ERRSTAT_PORT, x), (HIF_ERRSTAT_KIND, kind)]

/-- A message discarded under rows 1 to 6 of R416. -/
def State.discard (s : State) (x kind part : Nat) : State :=
  let F := match kind with | 1 => HIF_ERRCNT_PARTIAL | 2 => HIF_ERRCNT_CRCERR | 3 => HIF_ERRCNT_HDRERR | _ => HIF_ERRCNT_NOPART
  let s := (s.count F 1).errStat x kind part
  let s := s.updPort x fun r => { r with err := r.err || kind = 1 }
  s.errNote x

/-- A SEQUENCE response with the expected counter (R419, R425). -/
def State.sequence (s : State) (p : Nat) (m : Msg) : State :=
  let s := (s.count (HIF_PSEQ_SEQERR.at p) 1).raise p .aliveMismatch
  s.respond p m Code.sequence.num (octets 1 (s.get (HIF_PALIVE_INLAST.at p) + 1)) true

/-- A repeat (R420). -/
def State.repeatMsg (s : State) (p : Nat) (m : Msg) : State :=
  let s := s.count (HIF_PSEQ_REPEATS.at p) 1
  match (s.mb p).stored with
  | none => s.sequence p m
  | some st =>
    match st.msg, st.retired with
    | some r, true =>
      let s := s.updMb p fun b => { b with stored := some { st with msg := none, retired := false } }
      s.post p r
    | _, _ => s

/-- Whether a partition's incoming mailbox has room for a request (R423). -/
def Mbox.inRoom (b : Mbox) (m : Msg) : Bool :=
  decide (b.inq.length + b.tq.length < 4 ∧ ((b.inq ++ b.tq).map Msg.size).sum + m.size ≤ 2048)

/-- Rows 7 and 8 of R416 for a request that passed the others. -/
def State.acceptMsg (s : State) (p : Nat) (m : Msg) : State :=
  let last := s.get (HIF_PALIVE_INLAST.at p)
  if m.typ = 0x08 then
    if (s.mb p).inRoom m then (s.updMb p fun b => { b with inq := b.inq ++ [m] }).mbCount p
    else s.respond p m Code.deferred.num [] true
  else if m.alive = last then s.repeatMsg p m
  else if m.alive ≠ (last + 1) % 256 then s.sequence p m
  else if !(s.mb p).inRoom m then s.respond p m Code.deferred.num [] true
  else
    let s := s.set (HIF_PALIVE_INLAST.at p) m.alive
    let s := s.updMb p fun b => { b with
      inq := b.inq ++ [m]
      stored := some { tag := m.tag, alive := m.alive, tenant := decide (0x80 ≤ m.typ) } }
    let s := s.drainWait p (s.mb p).wait
    (if (s.mb p).busy then s else s.skipReserved p (s.mb p).inq).mbCount p

/-- Judging a complete message at the end of its transaction (R416): `bad` a character error of the
UART, `mid` an octet cut short by the rise of SPI_CSN. -/
def State.judge (s : State) (x : Nat) (o : List Byte) (bad mid : Bool) : State :=
  let b := fun i => (o.getD i 0).toNat
  let n := o.length
  let part := if b 0 = 0xE7 ∧ 2 ≤ n then b 1 % 32 else 0
  let len := b 2 + 256 * (b 3 % 8)
  if n = 0 then s.discard x 1 0
  else if b 0 ≠ 0xE7 then s.discard x 3 0
  else if n < 4 then s.discard x 1 part
  else if 2040 < len ∨ 3 ≤ b 1 / 32 ∨ b 3 / 16 ≠ 0 then s.discard x 3 part
  else if n < 12 + len then s.discard x 1 part
  else
    let excess := n - (12 + len) + mid.toNat
    let s := if excess = 0 then s else (s.count HIF_XCNT_EXCESS excess).updPort x fun r => { r with err := true }
    let body := o.take (8 + len)
    if bad || decide (ofOctets ((o.drop (8 + len)).take 4) ≠ crc32c body) then s.discard x 2 part
    else if b 1 / 32 ≠ 0 then s.discard x 3 part
    else if !(s.pexists part && decide (s.portOf part = x)) then s.discard x 4 part
    else
      s.acceptMsg part { cls := 0, typ := b 4, tag := b 6 + 256 * b 7, auth := bit (b 3) 3, alive := b 5,
                         body := body.drop 8, at_ := s.tick }

/-! ## The ports' commands (R432 to R437, R446, R447) -/

/-- The start of an SPI transaction: the status octet goes out, ERR and RST are cleared by it (R433). -/
def State.spiBegin (s : State) : State :=
  let o := s.portStatus 0
  s.updPort 0 fun r => { r with err := false, rst := false, out := octets 1 o }

/-- The octets a READ clocks out, `n` after the command octet (R435). -/
def State.spiSend (s : State) (n : Nat) : State :=
  let s := s.takeOffer 0
  let m := s.flying 0
  s.updPort 0 fun r => { r with
    out := r.out ++ (m ++ List.replicate (n - m.length) 0).take n
    sent := r.sent || (r.cur.isSome && decide (m.length ≤ n)) }

/-- An ACK: the in-flight message is retired where SENT is 1 and the counters match (R435). -/
def State.ackPort (s : State) (x a : Nat) : State :=
  let hit := match (s.port x).cur with
    | some p => match (s.mb p).outq with
      | m :: _ => if (s.port x).sent && decide (m.alive % 32 = a) then some p else none
      | [] => none
    | none => none
  match hit with
  | some p => s.retire p
  | none => ((s.count HIF_XCNT_ACKERR 1).errStat x 6 0).updPort x fun r => { r with err := true }

/-- STATUS (R432). -/
def execSpiStatus (s : State) : Host.Outcome State Fault Refusal := .next (if s.portUp 0 then s.spiBegin else s)

/-- WRITE (R434). -/
def execSpiWrite (octs : List Byte) (mid : Bool) (s : State) : Host.Outcome State Fault Refusal :=
  .next (if s.portUp 0 then
    let s := s.spiBegin
    (s.updPort 0 fun r => { r with out := r.out ++ List.replicate octs.length 0 }).judge 0 octs false mid
  else s)

/-- READ (R435). -/
def execSpiRead (n : Nat) (s : State) : Host.Outcome State Fault Refusal := .next (if s.portUp 0 then s.spiBegin.spiSend n else s)

/-- ACK and READ (R435). With no octet after the command octet it is an acknowledgement alone. -/
def execSpiAckRead (a : Fin 32) (n : Nat) (s : State) : Host.Outcome State Fault Refusal :=
  .next (if s.portUp 0 then
    let s := s.spiBegin.ackPort 0 a
    if n = 0 then s else s.spiSend n
  else s)

/-- The effects of a bus reset on a port (R436). -/
def State.busReset (s : State) (x : Nat) : State :=
  let s := s.updPort x fun r => { r with cur := none, offer := none, sent := false, err := false, rst := true }
  (s.count HIF_XCNT_BUSRST 1).offerNext x

/-- The bus reset of the SPI port (R436). -/
def execSpiBusReset (s : State) : Host.Outcome State Fault Refusal := .next (if s.portUp 0 then s.spiBegin.busReset 0 else s)

/-- A reserved command octet (R432), or 0xFF without the 80 high edges (R436): HDRERR, KIND 5 for a
reserved command, 3 for the broken reset, and ERR. -/
def execSpiReservedCommand (c : Byte) (s : State) : Host.Outcome State Fault Refusal :=
  .next (if s.portUp 0 then
    ((s.spiBegin.count HIF_ERRCNT_HDRERR 1).errStat 0 (if c = 0xFF then 3 else 5) 0).updPort 0 fun r => { r with err := true }
  else s)

/-- HIF_CTL.CLRCNT: all HIF and UART counters of every bank cleared. -/
def State.hifClear (s : State) : State :=
  let s := s.sets ([HIF_ERRCNT_PARTIAL, HIF_ERRCNT_CRCERR, HIF_ERRCNT_HDRERR, HIF_ERRCNT_NOPART, HIF_XCNT_BUSRST, HIF_XCNT_ACKERR,
    HIF_XCNT_EXCESS, UART_ERRCNT_BREAK, UART_ERRCNT_OVERRUN, UART_ERRCNT_PARITY, UART_ERRCNT_FRAME].map fun F => (F, 0))
  s.each allParts fun s p => s.sets [(HIF_PSEQ_REPEATS.at p, 0), (HIF_PSEQ_SEQERR.at p, 0)]

/-- A write of HIF_CTL.CLRCNT = 1 (R437). -/
def execHifClearCounters (s : State) : Host.Outcome State Fault Refusal := .next s.hifClear

end Sys2Proof.Machine
end

