-- ==== Sys2Proof/Machine/Prt.lean ====
section
/-!
DEFINITION. Partitions, Saddle and events (spec/10_partitions_and_qos.md): descriptors and creation, faults,
event registers, Saddle's parameters and refill, packet memory, the receive ring.
-/

namespace Sys2Proof.Machine

open Reg

/-! ## Descriptors and allocation (R265 to R268) -/

/-- The descriptor octets spell (R265). -/
def descOf (o : List Byte) : Desc :=
  let b := fun a n => ofOctets ((o.drop a).take n)
  { pnum := b 0 1, ls := bit (b 1 1) 0, port := bits (b 1 1) 1 1, transp := bit (b 1 1) 2
    nids := (List.range (min (b 2 1) 4)).map fun i => b (4 + 2 * i) 2
    codeG := b 12 2, dataG := b 14 2, pktFlr := b 16 2, assocQ := b 18 2, kslotQ := b 20 1, crcQ := b 21 1, txQ := b 22 1
    ownKey := (o.drop 24).take 24, signId := (o.drop 48).take 16 }

/-- Check 1 of R266, with P0's own ranges (R268). -/
def descBad (o : List Byte) : Bool :=
  let b := fun a n => ofOctets ((o.drop a).take n)
  let d := descOf o
  let p0 := d.pnum = 0
  let n := b 2 1
  31 < d.pnum || 8 ≤ b 1 1 || 4 < n || (n = 0 && !p0) || b 3 1 ≠ 0 || b 23 1 ≠ 0 ||
    (d.nids.any fun x => x = 0xFFFF) || ((List.range 4).any fun i => n ≤ i && b (4 + 2 * i) 2 ≠ 0) ||
    d.codeG = 0 || 64 < d.codeG || d.dataG = 0 || 60 < d.dataG || 96 < d.pktFlr || 8192 < d.assocQ || 64 < d.kslotQ || 8 < d.crcQ ||
    d.txQ = 0 || 64 < d.txQ ||
    (p0 && (d.pktFlr = 0 || d.kslotQ < 2 || (n = 0 && d.assocQ ≠ 0) || d.ownKey.any (· ≠ 0) || d.signId.any (· ≠ 0)))

/-- The lowest base of a free run of `n` units out of `total`. -/
def firstFit (n total : Nat) (used : List (Nat × Nat)) : Option Nat :=
  (List.range (total + 1 - n)).find? fun b => used.all fun u => decide (b + n ≤ u.1 ∨ u.1 + u.2 ≤ b)

/-- The first physical address of code SRAM (R8). -/
def codeSram : Nat := 0x10000000
/-- The first physical address of data SRAM (R8). -/
def dataSram : Nat := 0x18000000

/-- Runs of code granules in use, but for partition `p`. -/
def State.codeRuns (s : State) (p : Nat) : List (Nat × Nat) :=
  (s.live.filter (· ≠ p)).map fun q => (((s.part q).codeBase - codeSram) / 4096, (s.part q).desc.codeG)
/-- Runs of data granules in use, but for partition `p`. -/
def State.dataRuns (s : State) (p : Nat) : List (Nat × Nat) :=
  (s.live.filter (· ≠ p)).map fun q => (((s.part q).dataBase - dataSram) / 4096, (s.part q).desc.dataG)
/-- Runs of node-table entries in use, but for partition `p`. -/
def State.ascRuns (s : State) (p : Nat) : List (Nat × Nat) :=
  ((s.live.filter (· ≠ p)).map fun q => ((s.part q).assocLo, (s.part q).desc.assocQ)).filter fun r => r.2 ≠ 0
/-- Granules of packet memory that no partition but `p` holds. -/
def State.freeGran (s : State) (p : Nat) : List Nat :=
  (List.range 96).filter fun g => !((s.live.filter (· ≠ p)).any fun q => (s.part q).gran.contains g)

/-- Whether quotas fit what the other partitions leave (R266 check 4). -/
def State.descFits (s : State) (d : Desc) : Bool :=
  let others := s.live.filter (· ≠ d.pnum)
  let sum := fun (f : Desc → Nat) => (others.map fun q => f (s.part q).desc).sum
  (firstFit d.codeG 64 (s.codeRuns d.pnum)).isSome && (firstFit d.dataG 60 (s.dataRuns d.pnum)).isSome &&
    decide (d.pktFlr ≤ (s.freeGran d.pnum).length) && decide (sum Desc.pktFlr + d.pktFlr ≤ 96) &&
    decide (sum Desc.assocQ + d.assocQ ≤ 8192) && (firstFit d.assocQ 8192 (s.ascRuns d.pnum)).isSome &&
    decide (sum Desc.kslotQ + d.kslotQ ≤ 64) && decide (sum Desc.crcQ + d.crcQ ≤ 8)

/-- Whether two entries of a list are equal. -/
def hasRepeat (l : List Nat) : Bool := anyPair (fun a b : Nat => a = b) l

/-- The outcome of a creation request (R266, R268). -/
def State.createCode (s : State) (o : List Byte) : Code :=
  let d := descOf o
  if descBad o then .refusedState
  else if d.pnum ≠ 0 && s.pexists d.pnum then .refusedState
  else if hasRepeat d.nids || (s.live.filter (· ≠ d.pnum)).any (fun q => (s.part q).desc.nids.any d.nids.contains) then .refusedState
  else if !s.descFits d then .refusedQuota
  else if d.pnum ≠ 0 && (match s.installerKey with | some k => (Config.keyUnwrap k d.ownKey).isNone | none => true) then .authFail
  else .done

/-! ## MAC engines (R285) -/

/-- The largest load of an engine that keeps a floor: floor(100 × WSLICE / FLOOR). -/
def engLimit (w f : Nat) : Nat := if f = 0 then 100000 else 100 * w / f

/-- Adding a partition's WSLICE to an engine with its load and limit, where the condition of R285 holds. -/
def engAdd (b : Nat × Nat) (w f : Nat) : Option (Nat × Nat) :=
  let r := (b.1 + w, min b.2 (engLimit w f))
  if r.1 ≤ r.2 then some r else none

/-- Engines in order of load, equal ones by number: insertion of one. -/
def loadIns (x : Nat × Nat × Nat) : List (Nat × Nat × Nat) → List (Nat × Nat × Nat)
  | [] => [x]
  | y :: t => if x.2.1 < y.2.1 then x :: y :: t else y :: loadIns x t

/-- An assignment of partitions (number, WSLICE, FLOOR) to engines (number, load, limit), the least loaded
engine tried first; none where no assignment meets R285. -/
def engAssign : List (Nat × Nat × Nat) → List (Nat × Nat × Nat) → Option (List (Nat × Nat))
  | [], _ => some []
  | (p, w, f) :: t, bins =>
    (bins.foldl (fun l b => loadIns b l) []).findSome? fun x =>
      match engAdd x.2 w f with
      | some y => (engAssign t (bins.map fun b => if b.1 = x.1 then (x.1, y) else b)).map fun a => (p, x.1) :: a
      | none => none

/-- The engines in service (R365). -/
def State.engIn (s : State) : List Nat := (List.range 4).filter fun e => !(s.get ENG_SVC_OUT).testBit e

/-- The partitions with WSLICE and FLOOR, under a proposed value for one of them. -/
def State.engJobs (s : State) (p w f : Nat) : List (Nat × Nat × Nat) :=
  s.live.map fun q => if q = p then (p, w, f) else (q, s.get (SAD_ENGp_WSLICE q), s.get (SAD_ENGp_FLOOR q))

/-- An assignment of every partition to the engines of a list, under a proposed value for one of them. -/
def State.engPlan (s : State) (engs : List Nat) (p w f : Nat) : Option (List (Nat × Nat)) :=
  engAssign (s.engJobs p w f) (engs.map fun e => (e, 0, 100000))

/-- SV moves the partitions to the engines of an assignment (R15). -/
def State.engMove (s : State) (a : List (Nat × Nat)) : State :=
  a.foldl (fun s x =>
    if s.get (PRT_PSTATp_ENGINE x.1) = x.2 then s
    else
      let old := s.get (PRT_PSTATp_ENGINE x.1)
      let s := if (s.engine old).cur = some x.1 || (s.engine old).cur = some (64 + x.1) then
          s.updEngine old fun g => { g with cur := none, slices := 0 } else s
      s.set (PRT_PSTATp_ENGINE x.1) x.2) s

/-- The load of an engine. -/
def State.engLoad (s : State) (e : Nat) : Nat :=
  ((s.live.filter fun q => s.get (PRT_PSTATp_ENGINE q) = e).map fun q => s.get (SAD_ENGp_WSLICE q)).sum

/-- Assigning a new partition: a balanced assignment where one meets R285, else the least loaded engine. -/
def State.engPlace (s : State) (p : Nat) : State :=
  match s.engPlan s.engIn p (s.get (SAD_ENGp_WSLICE p)) (s.get (SAD_ENGp_FLOOR p)) with
  | some a => s.engMove a
  | none =>
    let e := s.engIn.foldl (fun m e => if s.engLoad e < s.engLoad m then e else m) (s.engIn.headD 0)
    s.set (PRT_PSTATp_ENGINE p) e

/-! ## Creation (R266, R267) -/

/-- The Saddle fields of a partition. -/
def sadFields (p : Nat) : List Fld :=
  [SAD_AFLRp_WEIGHT p, SAD_AFLRp_FLOOR p, SAD_ACAPp_CAP p, SAD_ENGp_WSLICE p, SAD_ENGp_FLOOR p, SAD_SECp_WEIGHT p, SAD_SECp_FLOOR p,
   SAD_HIFp_WEIGHT p, SAD_HIFp_FLOOR p, SAD_MEMp_WEIGHT p, SAD_MEMp_FLOOR p]

/-- The registers that show a partition's descriptor. -/
def State.partShow (s : State) (p : Nat) : State :=
  let d := (s.part p).desc
  s.sets [(PRT_PSTATp_LS p, d.ls.toNat), (PRT_PSTATp_PORT p, s.portOf p), (PRT_PINFO_NIDCNT.at p, d.nids.length),
    (PRT_PINFO_TRANSP.at p, d.transp.toNat), (PRT_PINFO_PORT.at p, s.portOf p), (PRT_PINFO_LS.at p, d.ls.toNat), (PRT_PINFO_PNUM.at p, p),
    (PRT_QUOTA_ASSOCQ.at p, d.assocQ), (PRT_QUOTA_DATAG.at p, d.dataG), (PRT_QUOTA_CODEG.at p, d.codeG)]

/-- The eNVM address of a partition's image slot: it follows the place of its code window (R346). -/
def slotBase (codeBase i : Nat) : Nat := 0x00038000 + 0x40000 * i + (codeBase - codeSram)

/-- A partition's record at creation: its windows placed on the lowest free runs and granules (R267). -/
def State.placePart (s : State) (d : Desc) : Part :=
  let p := d.pnum
  let cb := codeSram + 4096 * (firstFit d.codeG 64 (s.codeRuns p)).getD 0
  { desc := d
    codeBase := cb
    dataBase := dataSram + 4096 * (firstFit d.dataG 60 (s.dataRuns p)).getD 0
    gran := (s.freeGran p).take d.pktFlr
    assocLo := (firstFit d.assocQ 8192 (s.ascRuns p)).getD 0
    slot0 := { base := slotBase cb 0, size := 4096 * d.codeG }
    slot1 := { base := slotBase cb 1, size := 4096 * d.codeG } }

/-- Zeroing a partition's packet granules. -/
def State.zeroGran (s : State) (l : List Nat) : State := s.each l fun s g => s.zero (pktFirst + 4096 * g) 4096

/-- Zeroing a partition's windows. -/
def State.zeroWindows (s : State) (p : Nat) : State :=
  let P := s.part p
  ((s.zero P.codeBase (4096 * P.desc.codeG)).zero P.dataBase (4096 * P.desc.dataG)).zeroGran P.gran

/-- An accepted creation (R266, R283, R384, R419). -/
def State.createDo (s : State) (d : Desc) : State :=
  let p := d.pnum
  let P := s.placePart d
  let s := { s with parts := Tab.set {} s.parts p P }
  let s := s.zeroWindows p
  let s := (sadFields p).foldl (fun s F => (s.set F F.rst).set (F.at 200) F.rst) s
  let s := s.sets [(SAD_MEMp_FLOOR p, d.pktFlr), ((SAD_MEMp_FLOOR p).at 200, d.pktFlr), (PRT_PSTATp_STATE p, PState.stopped.num),
    (PRT_PSTATp_LASTRST p, 0), (PRT_PSTATp_FCAUSE p, 0), (PRT_PSTATp_AUTOCNT p, 0), (HIF_PALIVE_INLAST.at p, 0xFF)]
  let s := if p = 0 then s else s.ksPut p 1 p 0 0 d.ownKey
  let s := s.partShow p
  { s.engPlace p with nvq := s.nvq ++ [NvReq.config] }

/-- A creation request (R265, R266): judged as it is made. -/
def State.createReq (s : State) (o : Option (List Byte)) (byReg : Bool) : State :=
  match o with
  | none => { s with creation := some { code := .refusedAccess, byReg := byReg } }
  | some o => ({ s with creation := some { desc := descOf o, code := s.createCode o, byReg := byReg } }).set PRT_CRSTAT_PNUM (descOf o).pnum

/-- A write of PRT_CRCTL.CREATE (R265, R266). -/
def State.createWrite (s : State) : State :=
  if s.flag PRT_CRSTAT_BUSY then s.set PRT_CRSTAT_BUSYREJ 1
  else
    let a := s.get PRT_CRADDR_ADDR * 4
    let o := if (s.physData 0 a).isSome && (s.physData 0 (a + 63)).isSome then some (s.winOcts 0 a 64) else none
    (s.sets [(PRT_CRSTAT_BUSY, 1), (PRT_CRSTAT_BUSYREJ, 0)]).createReq o true

/-- PARTITION_CREATE_WRITE (R265). -/
def execPartitionCreateWrite (s : State) : Host.Outcome State Fault Refusal := .next s.createWrite

/-- The effect of an accepted creation; P0's own descriptor applies from the next device reset (R268). -/
def State.createEffect (s : State) (c : Creation) : State :=
  if c.code ≠ .done then s
  else if c.desc.pnum = 0 then { s with p0new := some c.desc, nvq := s.nvq ++ [NvReq.config] }
  else s.createDo c.desc

/-! ## Faults (R270 to R272, R354) -/

/-- A fault of one image's program, or of hardware under the partition's tag (R271); not during a reset (R274). -/
def State.partFault (s : State) (p : Nat) (imgB : Bool) (c : FCause) (a : Nat) : State :=
  if (s.part p).rst.isSome then s
  else
    let s := s.sets [(PRT_FAULT_FCAUSE.at p, c.num), (PRT_PSTATp_FCAUSE p, c.num), (PRT_FADDR_ADDR.at p, a)]
    let s := s.updProg (if imgB then 64 + p else p) fun g => g.failed c.num
    if (s.part p).dual.isSome then (s.dualEnd p (!imgB)).raise p .fault
    else
      let s := (s.updProg p Prog.stop).updPart p fun P => { P with faultAt := some s.tick }
      (s.set (PRT_PSTATp_STATE p) PState.faulted.num).raise p .fault

/-! ## Event registers (R276 to R279) -/

/-- Clearing latch bits of an image's PEC_PEND or PEC_OVF (R277). -/
def State.evClear (s : State) (b : Nat) (ovf : Bool) (w : Nat) : State :=
  let F := if ovf then PEC_OVF_OVF.at b else PEC_PEND_PEND.at b
  s.set F (s.get F - (s.get F &&& w))

/-- EVENT_PEND_CLEAR (R277). -/
def execEventPendClear (p : Fin 32) (imgB ovf : Bool) (w : Word) (s : State) : Host.Outcome State Fault Refusal :=
  .next (s.evClear (latchBank p imgB) ovf w.toNat)

/-- Whether a partition asserts its port's pin (R279). -/
def State.hirqFrom (s : State) (p : Nat) : Bool :=
  (s.get (PEC_HPEND_HPEND.at p) &&& s.get (PEC_HEN_HEN.at p)) ≠ 0 ||
    (s.flag (PEC_HCTL_OUTQ.at p) && (s.port (s.portOf p)).offer = some p)

/-- HIRQ_A 0 or HIRQ_B 1 asserted (R279). -/
def State.hirq (s : State) (x : Nat) : Bool := (s.live.filter fun p => s.portOf p = x).any s.hirqFrom

/-- What HIRQ_A 0 or HIRQ_B 1 is driven to: low where asserted; high, or by nothing, where not (R279). -/
def State.hirqDrive (s : State) (x : Nat) : Option Bool :=
  if !s.flag (if x = 0 then PEC_PIN_ENA else PEC_PIN_ENB) then none
  else if s.hirq x then some false
  else if s.flag (if x = 0 then PEC_PIN_ODA else PEC_PIN_ODB) then none else some true

/-! ## Saddle (R280 to R283) -/

/-- The sum of a field over the created partitions, with a proposed value for one of them. -/
def State.sadSum (s : State) (F : Nat → Fld) (l : List Nat) (p v : Nat) : Nat :=
  ((l.filter (· ≠ p)).map fun q => s.get (F q)).sum + v

/-- A Saddle write accepted. -/
def State.sadOk (s : State) (w : Nat) (l : List Fld) : State := (s.putFlds w l).set SAD_STAT_REJ 0
/-- A Saddle write refused for a resource. -/
def State.sadRej (s : State) (res : Nat) : State := s.sets [(SAD_STAT_REJ, 1), (SAD_STAT_RES, res)]

/-- A field's value in a written word; the present one where the table reserves it (R6). -/
def State.asked (s : State) (w : Nat) (F : Fld) : Nat := if F.allows (bits w F.lo F.w) then bits w F.lo F.w else s.get F

/-- A write of a Saddle parameter (R281, R285): 0 SAD_AIRTOT, 1 SAD_AFLRp, 2 SAD_ACAPp, 3 SAD_ENGp, 4 SAD_SECp, 5 SAD_HIFp, 6 SAD_MEMp. -/
def State.writeSad (s : State) (which p w : Nat) : State :=
  let x := fun F => s.asked w F
  match which with
  | 0 => if x SAD_AIRTOT_TOT < s.sadSum SAD_AFLRp_FLOOR s.live 32 0 then s.sadRej 0 else s.sadOk w [SAD_AIRTOT_TOT]
  | 1 =>
    if s.get SAD_AIRTOT_TOT < s.sadSum SAD_AFLRp_FLOOR s.live p (x (SAD_AFLRp_FLOOR p)) then s.sadRej 0
    else s.sadOk w [SAD_AFLRp_WEIGHT p, SAD_AFLRp_FLOOR p]
  | 2 => s.sadOk w [SAD_ACAPp_CAP p]
  | 3 =>
    match s.engPlan s.engIn p (x (SAD_ENGp_WSLICE p)) (x (SAD_ENGp_FLOOR p)) with
    | some a => (s.sadOk w [SAD_ENGp_WSLICE p, SAD_ENGp_FLOOR p]).engMove a
    | none => s.sadRej 1
  | 4 =>
    if 100 < s.sadSum SAD_SECp_FLOOR s.live p (x (SAD_SECp_FLOOR p)) then s.sadRej 2 else s.sadOk w [SAD_SECp_WEIGHT p, SAD_SECp_FLOOR p]
  | 5 =>
    let bound := s.live.filter fun q => s.portOf q = s.portOf p
    if 100 < s.sadSum SAD_HIFp_FLOOR bound p (x (SAD_HIFp_FLOOR p)) then s.sadRej 3 else s.sadOk w [SAD_HIFp_WEIGHT p, SAD_HIFp_FLOOR p]
  | _ => s.sadOk w [SAD_MEMp_WEIGHT p]

/-- SADDLE_PARAM_WRITE (R281). -/
def execSaddleParamWrite (which : Fin 7) (p : Fin 32) (w : Word) (s : State) : Host.Outcome State Fault Refusal :=
  .next (s.writeSad which p w.toNat)

/-- The parameters take effect (R281). -/
def State.sadLatch (s : State) : State :=
  (SAD_AIRTOT_TOT :: allParts.flatMap sadFields).foldl (fun s F => s.set (F.at 200) (s.get F)) s

/-- Levels of the created partitions: (partition, level). -/
abbrev Levels := List (Nat × Rat)

/-- One round of sharing what the floors leave (R282): the levels and the spare after it. -/
def shareRound (cap weight : Nat → Rat) (l : Levels) (spare : Rat) : Levels × Rat :=
  let opened := l.filter fun e => decide (e.2 < cap e.1) && decide (0 < weight e.1)
  let wsum := (opened.map fun e => weight e.1).sum
  if opened.isEmpty || spare = 0 then (l, 0)
  else
    let give := fun (e : Nat × Rat) =>
      if opened.any (fun o => o.1 = e.1) then min (spare * weight e.1 / wsum) (cap e.1 - e.2) else 0
    (l.map fun e => (e.1, e.2 + give e), spare - (l.map give).sum)

/-- The rounds of R282; a round fills a bucket or uses the spare up. -/
def shareRounds (cap weight : Nat → Rat) (l : Levels) (spare : Rat) : Nat → Levels
  | 0 => l
  | n + 1 => if spare = 0 then l else
      let r := shareRound cap weight l spare
      shareRounds cap weight r.1 r.2 n

/-- The levels after a refill boundary (R282). -/
def State.refilled (s : State) : Levels :=
  let cap := fun p => ((s.inForce (SAD_ACAPp_CAP p) : Nat) : Rat)
  let floor := fun p => ((s.inForce (SAD_AFLRp_FLOOR p) : Nat) : Rat) / 1000
  let spare := ((s.inForce SAD_AIRTOT_TOT : Nat) : Rat) / 1000
  let l : Levels := s.live.map fun p => (p, (s.part p).level + floor p)
  let excess := (l.map fun e => max 0 (e.2 - cap e.1)).sum
  shareRounds cap (fun p => ((s.inForce (SAD_AFLRp_WEIGHT p) : Nat) : Rat)) (l.map fun e => (e.1, min e.2 (cap e.1)))
    (spare - (s.live.map floor).sum + excess) 33

/-- A partition's bucket after a refill: its level, and SAD_AFILL over each 1000 boundaries. -/
def State.bucketFill (s : State) (p : Nat) (lv : Rat) : State :=
  let P := s.part p
  let add := P.fill + max 0 (lv - P.level)
  let full := P.fillN + 1 = 1000
  let s := if full then s.set (SAD_AFILL_FILL.at p) add.floor.toNat else s
  s.updPart p fun P => { P with level := lv, fill := if full then 0 else add, fillN := if full then 0 else P.fillN + 1 }

/-- AIRTIME_REFILL (R282): one refill boundary, where 1000 ticks have been counted towards it. The shares used of the
cipher and the ports start anew (R286). -/
def execAirtimeRefill (s : State) : Host.Outcome State Fault Refusal :=
  .next (if s.tbs.refill < 1000 then s
    else
      let s := ({ s with tbs := { s.tbs with refill := s.tbs.refill - 1000 } }).sadLatch
      let s := s.refilled.foldl (fun s e => s.bucketFill e.1 e.2) s
      s.each s.live fun s p => s.updPart p fun P => { P with usedSec := 0, usedHif := 0 })

/-! ## Packet memory (R287) -/

/-- CAP_p in granules. -/
def State.pktCap (s : State) (p : Nat) : Nat :=
  let flr := fun q => (s.part q).desc.pktFlr
  let pool := 96 - (s.live.map flr).sum
  let w := (s.live.map fun q => s.inForce (SAD_MEMp_WEIGHT q)).sum
  flr p + (if w = 0 then 0 else pool * s.inForce (SAD_MEMp_WEIGHT p) / w)

/-- Granules of the pool that are free: the free ones above what floors still reserve. -/
def State.poolFree (s : State) : Nat :=
  let owed := (s.live.map fun q => (s.part q).desc.pktFlr - (s.part q).gran.length).sum
  (s.freeGran 32).length - owed

/-- The granules of the window that a shrink may not release: of the receive ring or of a locked buffer. -/
def State.pktKept (s : State) (p : Nat) : Nat :=
  let size := s.get (PRT_RXRING_SIZE.at p)
  let ring := if size = 0 then 0 else (128 * (s.get (PRT_RXRING_BASE.at p) + size) + 4095) / 4096
  ((s.part p).tickets.filter fun t => t.status.isNone && decide (pktFirst ≤ t.buf)).foldl
    (fun m t => max m ((t.buf + t.len - pktFirst + 4095) / 4096)) ring

/-- A write of PRT_PKTREQ (R287). -/
def State.pktRequest (s : State) (p w : Nat) : State :=
  let P := s.part p
  let n := bits w 0 8
  let held := P.gran.length
  if bit w 31 then
    let keep := max (max (held - n) P.desc.pktFlr) (s.pktKept p)
    let gone := P.gran.drop keep
    let s := (s.zeroGran gone).updPart p fun P => { P with gran := P.gran.take keep }
    s.sets [(PRT_PKT_HELD.at p, min held keep), (PRT_PKT_REQREJ.at p, 0)]
  else if held + n ≤ s.pktCap p && n ≤ s.poolFree then
    let new := (s.freeGran 32).take n
    let s := (s.zeroGran new).updPart p fun P => { P with gran := P.gran ++ new }
    s.sets [(PRT_PKT_HELD.at p, held + n), (PRT_PKT_REQREJ.at p, 0)]
  else s.set (PRT_PKT_REQREJ.at p) 1

/-- PACKET_MEMORY_REQUEST (R287). -/
def execPacketMemoryRequest (p : Fin 32) (w : Word) (s : State) : Host.Outcome State Fault Refusal := .next (s.pktRequest p w.toNat)

/-! ## The receive ring (R618) -/

/-- A write of PRT_RXRING. -/
def State.writeRxRing (s : State) (p w : Nat) : State :=
  let size := s.asked w (PRT_RXRING_SIZE.at p)
  let base := bits w 0 12
  if size ≠ 0 && decide (4096 * (s.part p).gran.length < 128 * (base + size)) then s.set (PRT_RXPTR_RINGREJ.at p) 1
  else s.sets [(PRT_RXRING_SIZE.at p, size), (PRT_RXRING_BASE.at p, base), (PRT_RXPTR_WR.at p, 0), (PRT_RXPTR_RD.at p, 0),
    (PRT_RXPTR_RINGREJ.at p, 0)]

/-- RX_RING_WRITE (R618). -/
def execRxRingWrite (p : Fin 32) (w : Word) (s : State) : Host.Outcome State Fault Refusal := .next (s.writeRxRing p w.toNat)

/-- A write of PRT_RXPTR.RD: forwards round the ring, not past WR. -/
def State.writeRxRd (s : State) (p w : Nat) : State :=
  let rd := bits w 0 12
  let size := s.get (PRT_RXRING_SIZE.at p)
  let old := s.get (PRT_RXPTR_RD.at p)
  let used := (s.get (PRT_RXPTR_WR.at p) + size - old) % size
  if rd < size && (rd + size - old) % size ≤ used then s.set (PRT_RXPTR_RD.at p) rd else s

/-- RX_RING_FREE (R618). -/
def execRxRingFree (p : Fin 32) (w : Word) (s : State) : Host.Outcome State Fault Refusal := .next (s.writeRxRd p w.toNat)

end Sys2Proof.Machine
end

