-- ==== Sys2Proof/Machine/Rst.lean ====
section
/-!
DEFINITION. Creation's end, and the resets of partitions (R266, R272 to R275).
-/

namespace Sys2Proof.Machine

open Reg

/-! ## The effects of R275 -/

/-- Ending the frames a partition has queued, but for the one on air, under a code. -/
def State.dropTxs (s : State) (p : Nat) (c : Code) : State :=
  (s.txs.filter fun t => t.p = p && t.stage ≠ .onAir).foldl (fun s t =>
    let s := if t.stage = .bound then s.unbind else s
    if t.stage = .acked then s.txDel t.id else s.txUnsent t c) s

/-- Wiping a partition's frames in quarantine, those being received included. -/
def State.wipeQuar (s : State) (p : Nat) : State :=
  ((s.rx.filter fun e => match e.2 with | some f => f.part = some p | none => false).map Prod.fst).foldl (fun s fid => s.endFrame fid) s

/-- Discarding a partition's pending group entries; what they reserved returns. -/
def State.wipeGents (s : State) (p : Nat) : State :=
  let gone := s.air.gents.filter fun g => g.p = p
  let s := { s with air := { s.air with gents := s.air.gents.filter fun g => g.p ≠ p } }
  (gone.foldl (fun s g => s.refund p g.air) s).set (AIR_PACK_GPEND.at p) 0

/-- The node table at a HARD reset: PEND and MISS cleared, every entry armed again (R264). -/
def State.hardEnts (s : State) (p : Nat) : State :=
  s.each (s.entsOf p) fun s li =>
    let ph := s.entOf p li
    ((s.putFlag ph 12 1 0).putFlag ph 3 4 0).arm ph

/-- The event latches and enables of a partition cleared. -/
def State.clearPec (s : State) (p : Nat) : State :=
  s.sets [(PEC_PEND_PEND.at p, 0), (PEC_OVF_OVF.at p, 0), (PEC_EEN_EEN.at p, 0), (PEC_HPEND_HPEND.at p, 0), (PEC_HEN_HEN.at p, 0),
    (PEC_PEND_PEND.at (32 + p), 0), (PEC_OVF_OVF.at (32 + p), 0), (PEC_EEN_EEN.at (32 + p), 0)]

/-- A tenant-type request: the program's to take (R415). -/
def Msg.tenant (m : Msg) : Bool := decide (0x80 ≤ m.typ)

/-- Messages accepted and not yet taken by the program answered with ABORTED_RESET (R275). -/
def State.abortTenant (s : State) (p : Nat) : State :=
  let b := s.mb p
  let gone := b.tq ++ b.inq.filter Msg.tenant
  let s := s.updMb p fun b => { b with tq := [], inq := b.inq.filter fun m => !m.tenant, taken := 0 }
  (gone.foldl (fun s m => s.respond p m Code.abortedReset.num []) s).mbCount p

/-- The programs of a partition at their entries (R275, R291, R355); a partition with no active image is STOPPED. -/
def State.restart (s : State) (p : Nat) : State :=
  let P := s.part p
  let x := P.slot (s.actSlot p)
  let s := match P.dual with
    | some d => s.updProg (64 + p) fun g => g.enter (P.slot d.slotB).entryPc
    | none => s
  if x.st = .active then
    (s.updProg p fun g => g.enter x.entryPc).set (PRT_PSTATp_STATE p) PState.running.num
  else s.set (PRT_PSTATp_STATE p) PState.stopped.num

/-- Releasing the frames a SOFT reset held in quarantine (R25). -/
def State.releaseHeld (s : State) (p : Nat) : State :=
  (s.rx.filterMap fun e => match e.2 with
    | some f => if f.part = some p ∧ f.stage = .held then some (e.1, f) else none
    | none => none).foldl (fun s e => s.rxRelease e.1 e.2 false) s

/-- A HARD reset's effects on the partition's objects. -/
def State.hardEffects (s : State) (p : Nat) : State :=
  let P := s.part p
  let s := s.zero P.dataBase (4096 * P.desc.dataG)
  let s := s.zeroGran P.gran
  let s := s.updPart p fun P => { P with gran := P.gran.take P.desc.pktFlr, tickets := [], done := [] }
  let s := ((s.wipeQuar p).dropTxs p .abortedReset).wipeGents p
  let s := s.hardEnts p
  let s := (s.zeroSlots fun x => x.p = p).crcReturnAll p
  let s := s.sets ((List.range 4).map fun n => ((TBS_TMRnC_ARM n).at p, 0))
  let s := (s.clearPec p).abortTenant p
  s.sets [(PRT_RXRING_SIZE.at p, 0), (PRT_RXRING_BASE.at p, 0), (PRT_RXPTR_WR.at p, 0), (PRT_RXPTR_RD.at p, 0),
    (PRT_RXPTR_RINGREJ.at p, 0), (PRT_RXCNT_NOREC.at p, 0), (PRT_RXCNT_FULL.at p, 0)]

/-- The registers of a partition's bank at their reset values; the channel bank's counters are numbered by slot. -/
def State.clearBank (s : State) (p : Nat) : State :=
  { s with regs := s.regs.filter fun e =>
      let k := e.1 / 32
      let bank := k / 0x100000000
      let a := k % 0x100000000
      !((bank = p || bank = 32 + p) && p ≠ 0 && decide (a / 0x1000 ≠ 0x40009)) }

/-- The fields of GPC_PINn. -/
def gpcFields (n : Nat) : List Fld :=
  [GPC_PINn_OWNED n, GPC_PINn_OWNER n, GPC_PINn_DRIVE n, GPC_PINn_PULL n, GPC_PINn_OD n, GPC_PINn_INV n, GPC_PINn_SEL n,
    GPC_PINn_SEQ n, GPC_PINn_FUNC n]

/-- A pin's bits cleared in every GPC_PDIR and GPC_POUT bank (R596); a latch on it is released (R500). -/
def State.pinClear (s : State) (n : Nat) : State :=
  s.each allParts fun s p =>
    let f := fun (s : State) (F : Fld) => if (s.get F).testBit n then s.set F (s.get F - 2 ^ n) else s
    f (f { s with ret := { s.ret with pads := s.ret.pads.filter (· ≠ n) } } (GPC_PDIR_DIR.at p)) (GPC_POUT_OUT.at p)

/-- The GP pins of a partition return to the reset value of GPC_PINn (R596). -/
def State.pinsBack (s : State) (p : Nat) : State :=
  s.each (List.range 8) fun s n =>
    if s.flag (GPC_PINn_OWNED n) && s.get (GPC_PINn_OWNER n) = p then
      (s.sets ((gpcFields n).map fun F => (F, F.rst))).pinClear n
    else s

/-- A PURGE's effects: everything of the partition is freed, zeroed or discarded. -/
def State.purgeEffects (s : State) (p : Nat) : State :=
  let P := s.part p
  let s := if s.dbg.scope = some p then s.dbgClose else s
  let s := ((s.wipeQuar p).dropTxs p .abortedReset).wipeGents p
  let s := (s.entsOf p).foldl (fun s li => s.wipeEntry p li) s
  let s := (s.zeroSlots fun x => x.p = p).crcReturnAll p
  let s := (ksRecs.filter fun r => s.ksKind r ≠ 0 && s.ksPart r = p).foldl (fun s r => s.zero (ksAddr r) 32) s
  let s := s.zero (ksAddr p) 32
  let s := s.zeroWindows p
  let s := (s.sets [(ASC_SARNGp_FIRST p, 0), (ASC_SARNGp_LAST p, 0)]).pinsBack p
  let s := { s with
    mbox := Tab.del s.mbox p
    progs := Tab.del (Tab.del s.progs p) (64 + p)
    key := { s.key with noted := s.key.noted.filter fun e => e.1 ≠ p }
    parts := Tab.set {} s.parts p { erase := true, slot0 := P.slot0, slot1 := P.slot1 }
    nvq := s.nvq ++ [NvReq.config] }
  let s := (s.clearBank p).sets [(PRT_PSTATp_STATE p, 0), (PRT_PSTATp_LASTRST p, 0), (PRT_PSTATp_FCAUSE p, 0), (PRT_PSTATp_AUTOCNT p, 0),
    (PRT_PCTLp_AUTORST p, 0)]
  s.reoffer

/-! ## Requests (R273, R274) -/

/-- The start of a reset: the program stops, the frame on air is aborted. A reset in progress merges
with it: the stronger kind applies (R274). -/
def State.rstStart (s : State) (p : Nat) (k : RstKind) : State :=
  let old := (s.part p).rst
  let k' := match old with | some o => if o.rank < k.rank then k else o | none => k
  let s := s.updPart p fun P => { P with rst := some k', faultAt := none }
  let s := if (s.txs.any fun t => t.stage = .onAir && t.p = p) then s.txAbort .abortedReset false else s
  let s := (s.updProg p Prog.stop).updProg (64 + p) Prog.stop
  s.set (PRT_PSTATp_STATE p) (if k' = .purge then PState.purging.num else PState.resetting.num)

/-- A SOFT or HARD reset requested by a KIND or RST field: 1 SOFT, 2 HARD, else no effect; none for a
partition that is ABSENT or PURGING (R273). -/
def State.rstAsk (s : State) (p kind : Nat) : State :=
  if !s.pexists p || s.pstate p = PState.purging.num then s
  else if kind = 1 then s.rstStart p .soft
  else if kind = 2 then s.rstStart p .hard
  else s

/-- A write of PRT_RSTREQ by the program (R273). -/
def execPartitionResetRequest (p : Fin 32) (w : Word) (s : State) : Host.Outcome State Fault Refusal :=
  .next (s.rstAsk p (bits w.toNat 0 2))

/-- A write of PRT_PCTLp by P0 (R273). -/
def State.writePctl (s : State) (p w : Nat) : State := (s.putFld w (PRT_PCTLp_AUTORST p)).rstAsk p (bits w 4 2)

/-- A write of PRT_PCTLp.RST (R273). -/
def execPartitionCtlReset (p : Fin 32) (w : Word) (s : State) : Host.Outcome State Fault Refusal := .next (s.writePctl p w.toNat)

/-- A PURGE asked for (R273): refused for P0 and for a partition that does not exist. -/
def State.purgeReq (s : State) (p : Nat) (byReg : Bool) : State :=
  let s := s.set PRT_CRSTAT_PNUM p
  if p = 0 || !s.pexists p then { s with creation := some { purge := some p, code := .refusedState, byReg := byReg } }
  else { s with creation := some { purge := some p, byReg := byReg } }.rstStart p .purge

/-- A write of PRT_CRCTL.PURGE (R266, R273). -/
def State.purgeWrite (s : State) (p : Nat) : State :=
  if s.flag PRT_CRSTAT_BUSY then s.set PRT_CRSTAT_BUSYREJ 1
  else (s.sets [(PRT_CRSTAT_BUSY, 1), (PRT_CRSTAT_BUSYREJ, 0)]).purgeReq p true

/-- PARTITION_PURGE_WRITE (R273). -/
def execPartitionPurgeWrite (p : Fin 32) (s : State) : Host.Outcome State Fault Refusal :=
  .next ((s.set PRT_CRCTL_PNUM p).purgeWrite p)

/-- The end of a creation or PURGE request: its code in PRT_CRSTAT or in P0's response. -/
def State.createEnd (s : State) (c : Creation) (rest : List Byte) : State :=
  let s := { s with creation := none }
  if c.byReg then s.sets [(PRT_CRSTAT_BUSY, 0), (PRT_CRSTAT_CODE, c.code.num)] else s.answer 0 c.code rest

/-- PARTITION_CREATE_DONE (R266): a creation completes, or a refusal at its fixed time. -/
def execPartitionCreateDone (s : State) : Host.Outcome State Fault Refusal :=
  .next (if s.svHalted then s else match s.creation with
  | none => s
  | some c =>
    match c.purge with
    | some _ => if c.code = .done then s else s.createEnd c []
    | none => (s.createEffect c).createEnd c (if c.code = .done then octets 1 c.desc.pnum else []))

/-- PARTITION_RESET_DONE (R274): a reset completes with the effects of R275. -/
def execPartitionResetDone (p : Fin 32) (s : State) : Host.Outcome State Fault Refusal :=
  .next (if s.svHalted then s else match (s.part p).rst with
  | none => s
  | some .soft =>
    let s := s.updPart p fun P => { P with rst := none }
    let s := s.sets [(PRT_FAULT_FCAUSE.at p, 0), (PRT_PSTATp_FCAUSE p, 0), (PRT_PSTATp_LASTRST p, 1)]
    (s.restart p).releaseHeld p
  | some .hard =>
    let s := s.updPart p fun P => { P with rst := none }
    let s := s.sets [(PRT_FAULT_FCAUSE.at p, 0), (PRT_PSTATp_FCAUSE p, 0), (PRT_PSTATp_LASTRST p, 2)]
    (s.hardEffects p).restart p
  | some .purge =>
    let s := s.purgeEffects p
    match s.creation with
    | some c => if c.purge = some p.val then s.createEnd c [] else s
    | none => s)

/-- The range of an image slot in the eNVM, zeroed. -/
def State.eraseSlot (s : State) (x : ImgSlot) : State := s.zero x.base x.size

/-- IMAGE_ERASE_DONE (R274): the images of a purged partition are erased. -/
def execImageEraseDone (p : Fin 32) (s : State) : Host.Outcome State Fault Refusal :=
  .next (if s.svHalted then s else 
    let P := s.part p
    if P.erase && !s.pexists p then { (s.eraseSlot P.slot0).eraseSlot P.slot1 with parts := Tab.del s.parts p } else s)

/-- AUTO_RESET (R272): 10 ms after a fault an automatic reset starts, three in an hour at most. -/
def execAutoReset (p : Fin 32) (s : State) : Host.Outcome State Fault Refusal :=
  .next (if s.svHalted then s else match (s.part p).faultAt with
  | none => s
  | some t =>
    let k := s.get (PRT_PCTLp_AUTORST p)
    if s.pstate p ≠ PState.faulted.num ∨ s.tick < t + 10000 ∨ (k ≠ 1 ∧ k ≠ 2) then s
    else
      let l := (s.part p).autoTicks.filter fun u => decide (s.tick < u + 3600000000)
      let s := s.updPart p fun P => { P with faultAt := none, autoTicks := l }
      if 3 ≤ l.length then s.count (PRT_PSTATp_AUTOCNT p) 1
      else (s.updPart p fun P => { P with autoTicks := l ++ [s.tick] }).rstAsk p k)

end Sys2Proof.Machine
end

