-- ==== Sys2Proof/Machine/Nvc.lean ====
section
/-!
DEFINITION. The eNVM and its write requests, the checkpoint of the node table, and Scree (R514 to R523).
-/

namespace Sys2Proof.Machine

open Reg

/-! ## Scree (R521, R523) -/

/-- The address of the Scree entry with a SEQ. -/
def screeAddr (seq : Nat) : Nat := 0x000EC000 + 32 * ((seq - 1) % 2048)

/-- The octets of an entry (R521). -/
def screeEntry (stamp : Nat) (discont : Bool) (seq code src part cls : Nat) (data : List Byte) : List Byte :=
  let o := octets 8 (stamp % 2 ^ 62 + discont.toNat * 2 ^ 62) ++ octets 4 seq ++ octets 2 code ++ octets 1 src ++
    octets 1 (part % 64 + 64 * cls) ++ (data ++ List.replicate 12 0).take 12
  o ++ octets 4 (crc32 o)

/-- Writing an entry: SEQ one more than the newest. -/
def State.screeWrite (s : State) (stamp : Nat) (discont : Bool) (code src part cls : Nat) (data : List Byte) : State :=
  let n := s.scrSeq + 1
  ({ s with scrSeq := n }.store (screeAddr n) (screeEntry stamp discont n code src part cls data)).set NVC_LOGHEAD_SEQ n

/-- NVC_LOGSTAT for the entry NVC_LOGIDX names: NOTYET, GONE (R523). -/
def State.logStat (s : State) : Bool × Bool :=
  let n := s.get NVC_LOGIDX_SEQ
  (n = 0 || decide (s.scrSeq < n), n ≠ 0 && decide (n + 2048 ≤ s.scrSeq))

/-- NVC_LOGDATAw (R523). -/
def State.logData (s : State) (w : Nat) : Nat :=
  if s.logStat.1 || s.logStat.2 then 0 else s.num (screeAddr (s.get NVC_LOGIDX_SEQ) + 4 * w) 4

/-- A write of NVC_LOGIDX (R523): the registers show the entry from now on. -/
def State.writeLogIdx (s : State) (w : Nat) : State :=
  let s := s.set NVC_LOGIDX_SEQ w
  let s := (s.setB NVC_LOGSTAT_NOTYET s.logStat.1).setB NVC_LOGSTAT_GONE s.logStat.2
  s.sets ((List.range 8).map fun i => (NVC_LOGDATAw_DATA i, s.logData i))

/-- LOG_INDEX_WRITE (R523). -/
def execLogIndexWrite (w : Word) (s : State) : Host.Outcome State Fault Refusal := .next (s.writeLogIdx w.toNat)

/-! ## Checkpoint records (R388, R517 to R519) -/

/-- Writing an entry's record in full (R517); `clean` at the orderly save. -/
def State.ckPut (s : State) (p li : Nat) (clean : Bool) : State :=
  match s.ckFind p li with
  | none => s
  | some r =>
    let ph := s.entOf p li
    let a := ckFirst + 64 * r
    let s := s.store a (s.octs (ntFirst + 64 * ph) 34)
    let s := s.putNum (a + 34) 2 (s.ent ph 34 2 / 128 * 128 + clean.toNat)
    let s := s.putNum (a + 36) 2 (s.ent ph 36 2 % 128 + li / 16 * 128)
    let s := s.putNum (a + 38) 2 (s.ent ph 38 2 / 256 * 256 + li % 16 * 16 + s.ent ph 38 2 % 16)
    let s := s.store (a + 40) (s.octs (ntFirst + 64 * ph + 40) 8)
    let s := s.putNum (a + 48) 4 (s.ent ph 48 4)
    let s := s.putNum (a + 52) 4 (min (s.ent ph 52 4 + 4096) 0xFFFFFFFF)
    let s := s.putNum (a + 56) 4 (min (s.ent ph 56 4 + 4096) 0xFFFFFFFF)
    (s.store (a + 60) (s.octs (ntFirst + 64 * ph + 60) 4)).updAsc ph fun e => { e with promo := false }

/-- The frames of an entry held for its record are released (R388). -/
def State.ckRelease (s : State) (p li : Nat) : State :=
  (s.rx.filterMap fun e => match e.2 with
    | some f => if f.part = some p ∧ f.entry = some li ∧ f.stage = .held then some (e.1, f) else none
    | none => none).foldl (fun s e => s.rxRelease e.1 e.2 true) s

/-- Whether a record's LASTC or NEXTWAKE differs from its entry's (R519). -/
def State.ckStale (s : State) (p li r : Nat) : Bool :=
  let ph := s.entOf p li
  s.num (ckFirst + 64 * r + 40) 8 ≠ s.ent ph 40 8 || s.num (ckFirst + 64 * r + 60) 4 ≠ s.ent ph 60 4

/-- A partition's entries without a record (R518). -/
def State.volatile (s : State) (p : Nat) : List Nat := (s.entsOf p).filter fun li => (s.ckFind p li).isNone

/-- CHECKPOINT_PASS (R518, R519, R213). -/
def execCheckpointPass (s : State) : Host.Outcome State Fault Refusal :=
  .next (if s.tick < s.nvs.passAt + 60000000 * s.get NVC_CKCFG_CKPER ∨ s.pwr.sleep.isSome ∨ s.pwr.boot then s
  else
    let s := { s with nvs := { s.nvs with passAt := s.tick } }
    let s := s.each s.live fun s p => (s.volatile p).foldl (fun s li => s.ckTake p li) s
    let s := s.each s.live fun s p => (s.entsOf p).foldl (fun s li => match s.ckFind p li with
      | some r => if s.ckStale p li r then { s with nvq := s.nvq ++ [.checkpoint p li] } else s
      | none => s) s
    { s with nvq := s.nvq ++ [NvReq.config] })

/-! ## Configuration (R213, R268, R356, R514) -/

/-- A partition's dual-image window as its configuration record holds it (R356). -/
def State.dualRecord (s : State) (p : Nat) : Option NvDual :=
  match (s.part p).dual with
  | none => none
  | some d => some { slotA := d.slotA, slotB := d.slotB, ob := d.ob, endLeft := s.get (ENG_DUAL_ENDLEFT.at p), endAct := d.endAct,
                     mboxImg := s.get (ENG_DUAL_MBOXIMG.at p), pvmap := s.get (ASC_PVMAP_MAP.at p) }

/-- A partition's configuration record. -/
def State.nvPart (s : State) (p : Nat) : NvPart :=
  let P := s.part p
  { desc := P.desc, codeBase := P.codeBase, dataBase := P.dataBase, assocLo := P.assocLo, act := s.actSlot p }

/-- The duty sums by sub-band (R213). -/
def State.dutySums (s : State) : Tab Nat :=
  (s.air.use.map fun e => (e.1, (e.2.hist.map Prod.snd).sum)).filter fun e => e.2 ≠ 0

/-- The regulatory and configuration area as it is written (R514). -/
def State.nvConfig (s : State) : NvCfg :=
  { reg := s.air.prof
    sums := s.dutySums
    plan := s.chb.active
    p0 := match s.p0new with | some d => some d | none => s.nv.p0
    gen := s.nv.gen
    parts := (s.live.filter fun p => p ≠ 0).map fun p => (p, some (s.nvPart p))
    duals := s.nv.duals }

/-- The open windows, as the orderly save records them (R356). -/
def State.dualRecords (s : State) : Tab (Option NvDual) :=
  s.live.filterMap fun p => match s.dualRecord p with | some d => some (p, some d) | none => none

/-! ## Write requests (R515) -/

/-- The order of kinds (R515). -/
def NvReq.rank : NvReq → Nat
  | .counter _ _ _ => 0
  | .save => 1
  | .calRecord => 2
  | .config => 2
  | .gen _ => 2
  | .scree _ _ _ _ _ _ _ => 3
  | .checkpoint _ _ => 4
  | .refresh _ => 5

/-- The request NVC serves next: the first of the lowest rank. -/
def nvNext (l : List NvReq) : Option NvReq :=
  l.foldl (fun b q => match b with
    | none => some q
    | some c => if q.rank < c.rank then some q else b) none

/-- What an eNVM write request leaves. A calibration record is written by CAL's own operation. -/
def State.nvDo (s : State) (q : NvReq) : State :=
  match q with
  | .counter p li _ => (s.ckPut p li false).ckRelease p li
  | .save => s.each s.live fun s p => (s.entsOf p).foldl (fun s li => s.ckPut p li true) s
  | .calRecord => s
  | .config => { s with nv := s.nvConfig }
  | .gen v => { s with nv := { s.nv with gen := some v } }
  | .scree stamp dis code src part cls data => s.screeWrite stamp dis code src part cls data
  | .checkpoint p li => s.ckPut p li false
  | .refresh _ => s

/-- A request taken off the queue. -/
def State.nvDrop (s : State) (q : NvReq) : State :=
  { s with nvq := s.nvq.erase q, nvs := { s.nvs with writes := s.nvs.writes + 1 } }

/-- NVM_WRITE_DONE (R515). -/
def execNvmWriteDone (s : State) : Host.Outcome State Fault Refusal :=
  .next (match nvNext s.nvq with
  | none => s
  | some .calRecord => s
  | some q => (s.nvDrop q).nvDo q)

/-- NVM_REFRESH_STEP (R516, R515): a word read with `k` 0 no error, 1 a weak margin, 2 a corrected
error, 3 an uncorrectable one; in the run modes only. -/
def execNvmRefreshStep (addr : Nat) (k : Fin 4) (s : State) : Host.Outcome State Fault Refusal :=
  .next (if s.pwr.sleep.isSome || s.pwr.boot then s
  else
    let s := s.set NVC_STAT_REFR 1
    match k with
    | 0 => s
    | 1 => { s with nvq := s.nvq ++ [.refresh addr] }
    | 2 => { s.count NVC_STAT_SECCNT 1 with nvq := s.nvq ++ [.refresh addr] }
    | _ => (s.count NVC_STAT_DEDCNT 1).scree 27 0x0503 1 (octets 4 addr))

end Sys2Proof.Machine
end

