-- ==== Sys2Proof/Machine/RegMap.lean ====
section
/-!
DEFINITION. The register map (R7): for each block the registers it holds, each with its first
address, its strides, its owner (R16) and its fields. An offset no register of a block has is
unassigned (R617).
-/

namespace Sys2Proof.Machine
open Reg

/-- The registers of the CLK block, part 0 (R7). -/
def tabCLK0 : List RegDesc := [
  { name := "CLK_STAT", first := 0x40002000, stride := 0x1000, count := 1, stride2 := 0x1000, count2 := 1, owner := .anyRo, flds := fun _ _ => [CLK_STAT_LOSSCNT, CLK_STAT_SPILIM, CLK_STAT_FALLBACK, CLK_STAT_PLLLOCK, CLK_STAT_XORUN] },
  { name := "CLK_CTL", first := 0x40002004, stride := 0x1000, count := 1, stride2 := 0x1000, count2 := 1, owner := .sv, flds := fun _ _ => [CLK_CTL_XOMODE, CLK_CTL_FORCEFB, CLK_CTL_PLLEN] },
  { name := "CLK_XOTRIM", first := 0x40002008, stride := 0x1000, count := 1, stride2 := 0x1000, count2 := 1, owner := .sv, flds := fun _ _ => [CLK_XOTRIM_COARSE, CLK_XOTRIM_FINE] },
  { name := "CLK_REFCOND", first := 0x4000200C, stride := 0x1000, count := 1, stride2 := 0x1000, count2 := 1, owner := .p0, flds := fun _ _ => [CLK_REFCOND_REFT, CLK_REFCOND_REFB, CLK_REFCOND_REFA] },
  { name := "CLK_OUT", first := 0x40002010, stride := 0x1000, count := 1, stride2 := 0x1000, count2 := 1, owner := .p0, flds := fun _ _ => [CLK_OUT_DRIVE, CLK_OUT_DIV, CLK_OUT_EN] }]

/-- The registers of the CLK block (R7). -/
def tabCLK : List RegDesc := tabCLK0

/-- The registers of the TBS block, part 0 (R7). -/
def tabTBS0 : List RegDesc := [
  { name := "TBS_TICKL", first := 0x40003000, stride := 0x1000, count := 1, stride2 := 0x1000, count2 := 1, owner := .anyRo, flds := fun _ _ => [TBS_TICKL_TICK_LO, TBS_TICKL_FRAC] },
  { name := "TBS_TICKH", first := 0x40003004, stride := 0x1000, count := 1, stride2 := 0x1000, count2 := 1, owner := .anyRo, flds := fun _ _ => [TBS_TICKH_TICK_HI] },
  { name := "TBS_STAT", first := 0x40003008, stride := 0x1000, count := 1, stride2 := 0x1000, count2 := 1, owner := .anyRo, flds := fun _ _ => [TBS_STAT_SETREJ, TBS_STAT_PSREJ, TBS_STAT_PSBUSY, TBS_STAT_ADJPEND, TBS_STAT_DISCONT] },
  { name := "TBS_SETL", first := 0x40003010, stride := 0x1000, count := 1, stride2 := 0x1000, count2 := 1, owner := .p0, flds := fun _ _ => [TBS_SETL_TICK_LO, TBS_SETL_FRAC] },
  { name := "TBS_SETH", first := 0x40003014, stride := 0x1000, count := 1, stride2 := 0x1000, count2 := 1, owner := .p0, flds := fun _ _ => [TBS_SETH_TICK_HI] },
  { name := "TBS_ADJ", first := 0x40003018, stride := 0x1000, count := 1, stride2 := 0x1000, count2 := 1, owner := .p0, flds := fun _ _ => [TBS_ADJ_FRACS] },
  { name := "TBS_PSTEP", first := 0x4000301C, stride := 0x1000, count := 1, stride2 := 0x1000, count2 := 1, owner := .p0, flds := fun _ _ => [TBS_PSTEP_INTERVAL, TBS_PSTEP_COUNT] },
  { name := "TBS_PSACC", first := 0x40003020, stride := 0x1000, count := 1, stride2 := 0x1000, count2 := 1, owner := .anyRo, flds := fun _ _ => [TBS_PSACC_ACC] },
  { name := "TBS_TOCTL", first := 0x40003024, stride := 0x1000, count := 1, stride2 := 0x1000, count2 := 1, owner := .p0, flds := fun _ _ => [TBS_TOCTL_EN, TBS_TOCTL_WIDTH] },
  { name := "TBS_TMRnL", first := 0x40003040, stride := 0x10, count := 4, stride2 := 0x1000, count2 := 1, owner := .part, flds := fun n _ => [TBS_TMRnL_TICK_LO n, TBS_TMRnL_FRAC n] },
  { name := "TBS_TMRnH", first := 0x40003044, stride := 0x10, count := 4, stride2 := 0x1000, count2 := 1, owner := .part, flds := fun n _ => [TBS_TMRnH_TICK_HI n] },
  { name := "TBS_TMRnP", first := 0x40003048, stride := 0x10, count := 4, stride2 := 0x1000, count2 := 1, owner := .part, flds := fun n _ => [TBS_TMRnP_PERIOD n] },
  { name := "TBS_TMRnC", first := 0x4000304C, stride := 0x10, count := 4, stride2 := 0x1000, count2 := 1, owner := .part, flds := fun n _ => [TBS_TMRnC_MISSED n, TBS_TMRnC_EXP n, TBS_TMRnC_ARM n] }]

/-- The registers of the TBS block (R7). -/
def tabTBS : List RegDesc := tabTBS0

/-- The registers of the SYNx block, part 0 (R7). -/
def tabSYNx0 : List RegDesc := [
  { name := "SYNx_FREQ", first := 0x40004000, stride := 0x1000, count := 3, stride2 := 0x1000, count2 := 1, owner := .p0, flds := fun x _ => [SYNx_FREQ_FREQ x] },
  { name := "SYNx_CTL", first := 0x40004004, stride := 0x1000, count := 3, stride2 := 0x1000, count2 := 1, owner := .p0, flds := fun x _ => [SYNx_CTL_PHTRACK x, SYNx_CTL_EN x] },
  { name := "SYNx_STAT", first := 0x40004008, stride := 0x1000, count := 3, stride2 := 0x1000, count2 := 1, owner := .anyRo, flds := fun x _ => [SYNx_STAT_LOSSCNT x, SYNx_STAT_DEVCLIP x, SYNx_STAT_PENDING x, SYNx_STAT_FAIL x, SYNx_STAT_CALBUSY x, SYNx_STAT_FREQREJ x, SYNx_STAT_RANGE x, SYNx_STAT_SETTLING x, SYNx_STAT_LOCK x] },
  { name := "SYNx_COARSE", first := 0x4000400C, stride := 0x1000, count := 3, stride2 := 0x1000, count2 := 1, owner := .p0, flds := fun x _ => [SYNx_COARSE_OVR x, SYNx_COARSE_OVRCODE x, SYNx_COARSE_CODE x] },
  { name := "SYNx_KVCO", first := 0x40004010, stride := 0x1000, count := 3, stride2 := 0x1000, count2 := 1, owner := .p0, flds := fun x _ => [SYNx_KVCO_KVCO x] },
  { name := "SYNx_LOSST", first := 0x4000401C, stride := 0x1000, count := 3, stride2 := 0x1000, count2 := 1, owner := .anyRo, flds := fun x _ => [SYNx_LOSST_TICK x] }]

/-- The registers of the SYNx block (R7). -/
def tabSYNx : List RegDesc := tabSYNx0

/-- The registers of the SYNT block, part 0 (R7). -/
def tabSYNT0 : List RegDesc := [
  { name := "SYNT_TPM", first := 0x40006014, stride := 0x1000, count := 1, stride2 := 0x1000, count2 := 1, owner := .p0, flds := fun _ _ => [SYNT_TPM_TPMGAIN] },
  { name := "SYNT_PHASE", first := 0x40006018, stride := 0x1000, count := 1, stride2 := 0x1000, count2 := 1, owner := .p0, flds := fun _ _ => [SYNT_PHASE_STEPS] }]

/-- The registers of the SYNT block (R7). -/
def tabSYNT : List RegDesc := tabSYNT0

/-- The registers of the RXx block, part 0 (R7). -/
def tabRXx0 : List RegDesc := [
  { name := "RXx_CTL", first := 0x40007000, stride := 0x1000, count := 2, stride2 := 0x1000, count2 := 1, owner := .p0, flds := fun x _ => [RXx_CTL_MANGAIN x, RXx_CTL_AGCMODE x, RXx_CTL_COMB x, RXx_CTL_EN x] },
  { name := "RXx_STAT", first := 0x40007004, stride := 0x1000, count := 2, stride2 := 0x1000, count2 := 1, owner := .anyRo, flds := fun x _ => [RXx_STAT_GAIN x, RXx_STAT_SVCREJ x, RXx_STAT_SVC x, RXx_STAT_CAUSE x, RXx_STAT_COMBACT x, RXx_STAT_MON x, RXx_STAT_PROT x, RXx_STAT_BLANK x, RXx_STAT_READY x] },
  { name := "RXx_AGC", first := 0x40007008, stride := 0x1000, count := 2, stride2 := 0x1000, count2 := 1, owner := .p0, flds := fun x _ => [RXx_AGC_HOLD x, RXx_AGC_HIGH x, RXx_AGC_LOW x] },
  { name := "RXx_SVC", first := 0x4000700C, stride := 0x1000, count := 2, stride2 := 0x1000, count2 := 1, owner := .p0, flds := fun x _ => [RXx_SVC_MAXWAIT x, RXx_SVC_REQ x] },
  { name := "RXx_FBFREQ", first := 0x40007010, stride := 0x1000, count := 2, stride2 := 0x1000, count2 := 1, owner := .p0, flds := fun x _ => [RXx_FBFREQ_FREQ x] },
  { name := "RXx_PWR", first := 0x40007014, stride := 0x1000, count := 2, stride2 := 0x1000, count2 := 1, owner := .anyRo, flds := fun x _ => [RXx_PWR_ADCLVL x, RXx_PWR_INPWR x] },
  { name := "RXx_CLIP", first := 0x40007018, stride := 0x1000, count := 2, stride2 := 0x1000, count2 := 1, owner := .anyRo, flds := fun x _ => [RXx_CLIP_COUNT x] },
  { name := "RXx_IQCORR", first := 0x40007020, stride := 0x1000, count := 2, stride2 := 0x1000, count2 := 1, owner := .p0, flds := fun x _ => [RXx_IQCORR_PHASE x, RXx_IQCORR_GAIN x] },
  { name := "RXx_DCOFF", first := 0x40007024, stride := 0x1000, count := 2, stride2 := 0x1000, count2 := 1, owner := .p0, flds := fun x _ => [RXx_DCOFF_DCQ x, RXx_DCOFF_DCI x] },
  { name := "RXx_ADCGAIN", first := 0x40007028, stride := 0x1000, count := 2, stride2 := 0x1000, count2 := 1, owner := .p0, flds := fun x _ => [RXx_ADCGAIN_GAIN x] },
  { name := "RXx_EQn", first := 0x40007030, stride := 0x1000, count := 2, stride2 := 0x4, count2 := 4, owner := .p0, flds := fun x n => [RXx_EQn_TAPODD x n, RXx_EQn_TAPEVEN x n] },
  { name := "RXx_RSSIOFS", first := 0x40007040, stride := 0x1000, count := 2, stride2 := 0x1000, count2 := 1, owner := .p0, flds := fun x _ => [RXx_RSSIOFS_HIGH x, RXx_RSSIOFS_LOW x] },
  { name := "RXx_GSTEPn", first := 0x40007044, stride := 0x1000, count := 2, stride2 := 0x4, count2 := 3, owner := .p0, flds := fun x n => [RXx_GSTEPn_STEP3 x n, RXx_GSTEPn_STEP2 x n, RXx_GSTEPn_STEP1 x n, RXx_GSTEPn_STEP0 x n] }]

/-- The registers of the RXx block (R7). -/
def tabRXx : List RegDesc := tabRXx0

/-- The registers of the RXB block, part 0 (R7). -/
def tabRXB0 : List RegDesc := [
  { name := "RXB_MONCTL", first := 0x40008080, stride := 0x1000, count := 1, stride2 := 0x1000, count2 := 1, owner := .p0, flds := fun _ _ => [RXB_MONCTL_TUNE, RXB_MONCTL_EN] },
  { name := "RXB_MONSTAT", first := 0x40008084, stride := 0x1000, count := 1, stride2 := 0x1000, count2 := 1, owner := .anyRo, flds := fun _ _ => [RXB_MONSTAT_MONGAIN, RXB_MONSTAT_COVER] }]

/-- The registers of the RXB block (R7). -/
def tabRXB : List RegDesc := tabRXB0

/-- The registers of the CHB block, part 0 (R7). -/
def tabCHB0 : List RegDesc := [
  { name := "CHB_CTL", first := 0x40009000, stride := 0x1000, count := 1, stride2 := 0x1000, count2 := 1, owner := .p0, flds := fun _ _ => [CHB_CTL_CLRCNT, CHB_CTL_SICEN, CHB_CTL_EN] },
  { name := "CHB_STAT", first := 0x40009004, stride := 0x1000, count := 1, stride2 := 0x1000, count2 := 1, owner := .anyRo, flds := fun _ _ => [CHB_STAT_PLANID, CHB_STAT_ACTIVE, CHB_STAT_FBRANK, CHB_STAT_RUN] },
  { name := "CHB_PLANADDR", first := 0x40009008, stride := 0x1000, count := 1, stride2 := 0x1000, count2 := 1, owner := .p0, flds := fun _ _ => [CHB_PLANADDR_ADDR] },
  { name := "CHB_PLANCTL", first := 0x4000900C, stride := 0x1000, count := 1, stride2 := 0x1000, count2 := 1, owner := .p0, flds := fun _ _ => [CHB_PLANCTL_CANCEL, CHB_PLANCTL_NOW, CHB_PLANCTL_LOAD] },
  { name := "CHB_PLANSTAT", first := 0x40009010, stride := 0x1000, count := 1, stride2 := 0x1000, count2 := 1, owner := .p0, flds := fun _ _ => [CHB_PLANSTAT_PLANID, CHB_PLANSTAT_ERRSLOT, CHB_PLANSTAT_REASON, CHB_PLANSTAT_NOWREJ, CHB_PLANSTAT_HELD, CHB_PLANSTAT_ERR, CHB_PLANSTAT_PEND, CHB_PLANSTAT_BUSY] },
  { name := "CHB_SICSTAT", first := 0x40009018, stride := 0x1000, count := 1, stride2 := 0x1000, count2 := 1, owner := .anyRo, flds := fun _ _ => [CHB_SICSTAT_BUSYCNT, CHB_SICSTAT_INUSE] },
  { name := "CHB_SUSPn", first := 0x40009020, stride := 0x4, count := 4, stride2 := 0x1000, count2 := 1, owner := .p0, flds := fun n _ => [CHB_SUSPn_SUSP n] },
  { name := "CHB_SLOTSEL", first := 0x40009040, stride := 0x1000, count := 1, stride2 := 0x1000, count2 := 1, owner := .part, flds := fun _ _ => [CHB_SLOTSEL_SLOT] },
  { name := "CHB_SLOTSTAT", first := 0x40009044, stride := 0x1000, count := 1, stride2 := 0x1000, count2 := 1, owner := .part, flds := fun _ _ => [CHB_SLOTSTAT_VALID, CHB_SLOTSTAT_CLAIM, CHB_SLOTSTAT_SICACT, CHB_SLOTSTAT_FBKEEP, CHB_SLOTSTAT_STATE] },
  { name := "CHB_ENERGY", first := 0x40009048, stride := 0x1000, count := 1, stride2 := 0x1000, count2 := 1, owner := .part, flds := fun _ _ => [CHB_ENERGY_PEAK, CHB_ENERGY_LAST] },
  { name := "CHB_NOISE", first := 0x4000904C, stride := 0x1000, count := 1, stride2 := 0x1000, count2 := 1, owner := .part, flds := fun _ _ => [CHB_NOISE_N] },
  { name := "CHB_DETCNT", first := 0x40009050, stride := 0x1000, count := 1, stride2 := 0x1000, count2 := 1, owner := .part, flds := fun _ _ => [CHB_DETCNT_SYNCS, CHB_DETCNT_DETS] },
  { name := "CHB_LOSTA", first := 0x40009054, stride := 0x1000, count := 1, stride2 := 0x1000, count2 := 1, owner := .part, flds := fun _ _ => [CHB_LOSTA_OVERLAP, CHB_LOSTA_BLANK] },
  { name := "CHB_LOSTB", first := 0x40009058, stride := 0x1000, count := 1, stride2 := 0x1000, count2 := 1, owner := .part, flds := fun _ _ => [CHB_LOSTB_OTHER] },
  { name := "CHB_DESCn", first := 0x40009060, stride := 0x4, count := 10, stride2 := 0x1000, count2 := 1, owner := .part, flds := fun n _ => [CHB_DESCn_WORD n] }]

/-- The registers of the CHB block (R7). -/
def tabCHB : List RegDesc := tabCHB0

/-- The registers of the TRL block, part 0 (R7). -/
def tabTRL0 : List RegDesc := [
  { name := "TRL_CTL", first := 0x4000A000, stride := 0x1000, count := 1, stride2 := 0x1000, count2 := 1, owner := .p0, flds := fun _ _ => [TRL_CTL_EN] },
  { name := "TRL_STAT", first := 0x4000A004, stride := 0x1000, count := 1, stride2 := 0x1000, count2 := 1, owner := .anyRo, flds := fun _ _ => [TRL_STAT_CTX, TRL_STAT_SVCREJ, TRL_STAT_BUSY, TRL_STAT_INSVC] },
  { name := "TRL_SVC", first := 0x4000A008, stride := 0x1000, count := 1, stride2 := 0x1000, count2 := 1, owner := .p0, flds := fun _ _ => [TRL_SVC_OUT] },
  { name := "TRL_LATMAX", first := 0x4000A00C, stride := 0x1000, count := 1, stride2 := 0x1000, count2 := 1, owner := .anyRo, flds := fun _ _ => [TRL_LATMAX_CYC] },
  { name := "TRL_CODEn", first := 0x4000A040, stride := 0x4, count := 4, stride2 := 0x1000, count2 := 1, owner := .anyRo, flds := fun n _ => [TRL_CODEn_RSC n, TRL_CODEn_K n, TRL_CODEn_G1 n, TRL_CODEn_G0 n] },
  { name := "TRL_CODEn", first := 0x4000A050, stride := 0x4, count := 4, stride2 := 0x1000, count2 := 1, owner := .p0, flds := fun n _ => [TRL_CODEn_RSC (n + 4), TRL_CODEn_K (n + 4), TRL_CODEn_G1 (n + 4), TRL_CODEn_G0 (n + 4)] }]

/-- The registers of the TRL block (R7). -/
def tabTRL : List RegDesc := tabTRL0

/-- The registers of the PKT block, part 0 (R7). -/
def tabPKT0 : List RegDesc := [
  { name := "PKT_CTL", first := 0x4000C000, stride := 0x1000, count := 1, stride2 := 0x1000, count2 := 1, owner := .p0, flds := fun _ _ => [PKT_CTL_CLRCNT, PKT_CTL_EN] },
  { name := "PKT_F3CFG", first := 0x4000C004, stride := 0x1000, count := 1, stride2 := 0x1000, count2 := 1, owner := .p0, flds := fun _ _ => [PKT_F3CFG_ILV, PKT_F3CFG_RSC] },
  { name := "PKT_RXREG", first := 0x4000C008, stride := 0x1000, count := 1, stride2 := 0x1000, count2 := 1, owner := .anyRo, flds := fun _ _ => [PKT_RXREG_PEAK, PKT_RXREG_INUSE] },
  { name := "PKT_PHRERR", first := 0x4000C010, stride := 0x1000, count := 1, stride2 := 0x1000, count2 := 1, owner := .anyRo, flds := fun _ _ => [PKT_PHRERR_LENERR, PKT_PHRERR_CRCERR] },
  { name := "PKT_FCSERR", first := 0x4000C014, stride := 0x1000, count := 1, stride2 := 0x1000, count2 := 1, owner := .anyRo, flds := fun _ _ => [PKT_FCSERR_HDRERR, PKT_FCSERR_FCS] },
  { name := "PKT_DROP", first := 0x4000C018, stride := 0x1000, count := 1, stride2 := 0x1000, count2 := 1, owner := .anyRo, flds := fun _ _ => [PKT_DROP_MS, PKT_DROP_RXBUF] },
  { name := "PKT_RXOK", first := 0x4000C01C, stride := 0x1000, count := 1, stride2 := 0x1000, count2 := 1, owner := .anyRo, flds := fun _ _ => [PKT_RXOK_COUNT] }]

/-- The registers of the PKT block (R7). -/
def tabPKT : List RegDesc := tabPKT0

/-- The registers of the TXM block, part 0 (R7). -/
def tabTXM0 : List RegDesc := [
  { name := "TXM_CTL", first := 0x4000B000, stride := 0x1000, count := 1, stride2 := 0x1000, count2 := 1, owner := .p0, flds := fun _ _ => [TXM_CTL_EN] },
  { name := "TXM_STAT", first := 0x4000B004, stride := 0x1000, count := 1, stride2 := 0x1000, count2 := 1, owner := .anyRo, flds := fun _ _ => [TXM_STAT_REASON, TXM_STAT_TAPREJ, TXM_STAT_PROFREJ, TXM_STAT_SUPPLY, TXM_STAT_PHASE, TXM_STAT_ACTIVE] },
  { name := "TXM_FEMPAT", first := 0x4000B008, stride := 0x1000, count := 1, stride2 := 0x1000, count2 := 1, owner := .p0, flds := fun _ _ => [TXM_FEMPAT_OFFPAT, TXM_FEMPAT_TXPATB, TXM_FEMPAT_TXPATA, TXM_FEMPAT_RXPAT] },
  { name := "TXM_FEMTIM", first := 0x4000B00C, stride := 0x1000, count := 1, stride2 := 0x1000, count2 := 1, owner := .p0, flds := fun _ _ => [TXM_FEMTIM_TAIL, TXM_FEMTIM_LEAD] },
  { name := "TXM_LASTREP", first := 0x4000B010, stride := 0x1000, count := 1, stride2 := 0x1000, count2 := 1, owner := .p0, flds := fun _ _ => [TXM_LASTREP_PROF, TXM_LASTREP_PWR, TXM_LASTREP_PWRCUT, TXM_LASTREP_PWRLIM, TXM_LASTREP_COVER, TXM_LASTREP_MASKRES] },
  { name := "TXM_TAPCTL", first := 0x4000B014, stride := 0x1000, count := 1, stride2 := 0x1000, count2 := 1, owner := .p0, flds := fun _ _ => [TXM_TAPCTL_INMODE1, TXM_TAPCTL_INMODE0, TXM_TAPCTL_COMMIT1, TXM_TAPCTL_COMMIT0] },
  { name := "TXM_TAPG", first := 0x4000B018, stride := 0x1000, count := 1, stride2 := 0x1000, count2 := 1, owner := .anyRo, flds := fun _ _ => [TXM_TAPG_G1, TXM_TAPG_G0] },
  { name := "TXM_MASKCNT", first := 0x4000B01C, stride := 0x1000, count := 1, stride2 := 0x1000, count2 := 1, owner := .anyRo, flds := fun _ _ => [TXM_MASKCNT_MUTED, TXM_MASKCNT_FLAGGED] },
  { name := "TXM_RAMPn", first := 0x4000B020, stride := 0x4, count := 8, stride2 := 0x1000, count2 := 1, owner := .p0, flds := fun n _ => [TXM_RAMPn_A3 n, TXM_RAMPn_A2 n, TXM_RAMPn_A1 n, TXM_RAMPn_A0 n] },
  { name := "TXM_PAGAINn", first := 0x4000B040, stride := 0x4, count := 40, stride2 := 0x1000, count2 := 1, owner := .p0, flds := fun n _ => [TXM_PAGAINn_CELLS1 n, TXM_PAGAINn_DRV1 n, TXM_PAGAINn_BIAS1 n, TXM_PAGAINn_CELLS0 n, TXM_PAGAINn_DRV0 n, TXM_PAGAINn_BIAS0 n] },
  { name := "TXM_PROFnA", first := 0x4000B100, stride := 0x10, count := 16, stride2 := 0x1000, count2 := 1, owner := .p0, flds := fun n _ => [TXM_PROFnA_MOD n, TXM_PROFnA_SHAPE n, TXM_PROFnA_FEMSEL n, TXM_PROFnA_MASKSEL n, TXM_PROFnA_RATE n] },
  { name := "TXM_PROFnB", first := 0x4000B104, stride := 0x10, count := 16, stride2 := 0x1000, count2 := 1, owner := .p0, flds := fun n _ => [TXM_PROFnB_RAMPT n, TXM_PROFnB_PWR n, TXM_PROFnB_DEV n] },
  { name := "TXM_PROFnC", first := 0x4000B108, stride := 0x10, count := 16, stride2 := 0x1000, count2 := 1, owner := .p0, flds := fun n _ => [TXM_PROFnC_PARTMASK n] },
  { name := "TXM_MSEGnL", first := 0x4000B200, stride := 0x8, count := 32, stride2 := 0x1000, count2 := 1, owner := .p0, flds := fun n _ => [TXM_MSEGnL_EN n, TXM_MSEGnL_WHEN n, TXM_MSEGnL_REF n, TXM_MSEGnL_OFFHI n, TXM_MSEGnL_OFFLO n] },
  { name := "TXM_MSEGnH", first := 0x4000B204, stride := 0x8, count := 32, stride2 := 0x1000, count2 := 1, owner := .p0, flds := fun n _ => [TXM_MSEGnH_LIMIT n] },
  { name := "TXM_TAPsw", first := 0x4000B300, stride := 0x40, count := 2, stride2 := 0x4, count2 := 16, owner := .p0, flds := fun s w => [TXM_TAPsw_CODD s w, TXM_TAPsw_CEVEN s w] },
  { name := "TXM_MASKCTLm", first := 0x4000B380, stride := 0x4, count := 2, stride2 := 0x1000, count2 := 1, owner := .p0, flds := fun m _ => [TXM_MASKCTLm_POLICY m, TXM_MASKCTLm_CONSEC m, TXM_MASKCTLm_MPER m] }]

/-- The registers of the TXM block (R7). -/
def tabTXM : List RegDesc := tabTXM0

/-- The registers of the AIR block, part 0 (R7). -/
def tabAIR0 : List RegDesc := [
  { name := "AIR_CTL", first := 0x4000D000, stride := 0x1000, count := 1, stride2 := 0x1000, count2 := 1, owner := .p0, flds := fun _ _ => [AIR_CTL_CLRCNT, AIR_CTL_HOLDRX, AIR_CTL_EN] },
  { name := "AIR_STAT", first := 0x4000D004, stride := 0x1000, count := 1, stride2 := 0x1000, count2 := 1, owner := .anyRo, flds := fun _ _ => [AIR_STAT_PROFID, AIR_STAT_BPREJ, AIR_STAT_FBK, AIR_STAT_REGPEND, AIR_STAT_REGACT] },
  { name := "AIR_TXLOCKWAIT", first := 0x4000D008, stride := 0x1000, count := 1, stride2 := 0x1000, count2 := 1, owner := .p0, flds := fun _ _ => [AIR_TXLOCKWAIT_WAIT] },
  { name := "AIR_BPER", first := 0x4000D00C, stride := 0x1000, count := 1, stride2 := 0x1000, count2 := 1, owner := .p0, flds := fun _ _ => [AIR_BPER_PER] },
  { name := "AIR_BOFS", first := 0x4000D010, stride := 0x1000, count := 1, stride2 := 0x1000, count2 := 1, owner := .p0, flds := fun _ _ => [AIR_BOFS_OFS] },
  { name := "AIR_NEXTB", first := 0x4000D014, stride := 0x1000, count := 1, stride2 := 0x1000, count2 := 1, owner := .anyRo, flds := fun _ _ => [AIR_NEXTB_TICK] },
  { name := "AIR_BCNCTL", first := 0x4000D018, stride := 0x1000, count := 1, stride2 := 0x1000, count2 := 1, owner := .p0, flds := fun _ _ => [AIR_BCNCTL_COLF] },
  { name := "AIR_LBTCFG", first := 0x4000D020, stride := 0x1000, count := 1, stride2 := 0x1000, count2 := 1, owner := .p0, flds := fun _ _ => [AIR_LBTCFG_EN, AIR_LBTCFG_RETUNE, AIR_LBTCFG_THR, AIR_LBTCFG_WIN] },
  { name := "AIR_BOCFG", first := 0x4000D024, stride := 0x1000, count := 1, stride2 := 0x1000, count2 := 1, owner := .p0, flds := fun _ _ => [AIR_BOCFG_BU, AIR_BOCFG_MAXBO, AIR_BOCFG_BEMAX, AIR_BOCFG_BEMIN] },
  { name := "AIR_REGADDR", first := 0x4000D030, stride := 0x1000, count := 1, stride2 := 0x1000, count2 := 1, owner := .p0, flds := fun _ _ => [AIR_REGADDR_ADDR] },
  { name := "AIR_REGCTL", first := 0x4000D034, stride := 0x1000, count := 1, stride2 := 0x1000, count2 := 1, owner := .p0, flds := fun _ _ => [AIR_REGCTL_CANCEL, AIR_REGCTL_NOW, AIR_REGCTL_LOAD] },
  { name := "AIR_REGSTAT", first := 0x4000D038, stride := 0x1000, count := 1, stride2 := 0x1000, count2 := 1, owner := .p0, flds := fun _ _ => [AIR_REGSTAT_PROFID, AIR_REGSTAT_REASON, AIR_REGSTAT_NOWREJ, AIR_REGSTAT_ERR, AIR_REGSTAT_PEND, AIR_REGSTAT_BUSY] },
  { name := "AIR_BLKCNT", first := 0x4000D040, stride := 0x1000, count := 1, stride2 := 0x1000, count2 := 1, owner := .anyRo, flds := fun _ _ => [AIR_BLKCNT_LOST, AIR_BLKCNT_INTV] },
  { name := "AIR_BLKTIME", first := 0x4000D044, stride := 0x1000, count := 1, stride2 := 0x1000, count2 := 1, owner := .anyRo, flds := fun _ _ => [AIR_BLKTIME_MS] },
  { name := "AIR_NONID", first := 0x4000D048, stride := 0x1000, count := 1, stride2 := 0x1000, count2 := 1, owner := .anyRo, flds := fun _ _ => [AIR_NONID_COUNT] },
  { name := "AIR_ACKSTAT", first := 0x4000D04C, stride := 0x1000, count := 1, stride2 := 0x1000, count2 := 1, owner := .anyRo, flds := fun _ _ => [AIR_ACKSTAT_NOTSENT, AIR_ACKSTAT_SENT] },
  { name := "AIR_SBUSEn", first := 0x4000D080, stride := 0x4, count := 16, stride2 := 0x1000, count2 := 1, owner := .anyRo, flds := fun n _ => [AIR_SBUSEn_SUM n] },
  { name := "AIR_ACKCFG", first := 0x4000D200, stride := 0x1000, count := 1, stride2 := 0x1000, count2 := 1, owner := .part, flds := fun _ _ => [AIR_ACKCFG_EN, AIR_ACKCFG_TURN, AIR_ACKCFG_PRE] },
  { name := "AIR_ACKGRP", first := 0x4000D204, stride := 0x1000, count := 1, stride2 := 0x1000, count2 := 1, owner := .part, flds := fun _ _ => [AIR_ACKGRP_GEN, AIR_ACKGRP_GRPBELOW] },
  { name := "AIR_GACKCFG", first := 0x4000D208, stride := 0x1000, count := 1, stride2 := 0x1000, count2 := 1, owner := .part, flds := fun _ _ => [AIR_GACKCFG_GPER, AIR_GACKCFG_GCODE] }]

/-- The registers of the AIR block, part 1 (R7). -/
def tabAIR1 : List RegDesc := [
  { name := "AIR_GFREQ", first := 0x4000D20C, stride := 0x1000, count := 1, stride2 := 0x1000, count2 := 1, owner := .part, flds := fun _ _ => [AIR_GFREQ_FREQ] },
  { name := "AIR_GOFS", first := 0x4000D210, stride := 0x1000, count := 1, stride2 := 0x1000, count2 := 1, owner := .part, flds := fun _ _ => [AIR_GOFS_OFS] },
  { name := "AIR_BCNP", first := 0x4000D214, stride := 0x1000, count := 1, stride2 := 0x1000, count2 := 1, owner := .part, flds := fun _ _ => [AIR_BCNP_EN, AIR_BCNP_NIDX, AIR_BCNP_VERHI, AIR_BCNP_VERLO, AIR_BCNP_BPROF, AIR_BCNP_BDIV, AIR_BCNP_XLEN] },
  { name := "AIR_BFREQ", first := 0x4000D218, stride := 0x1000, count := 1, stride2 := 0x1000, count2 := 1, owner := .part, flds := fun _ _ => [AIR_BFREQ_FREQ] },
  { name := "AIR_BOFF", first := 0x4000D21C, stride := 0x1000, count := 1, stride2 := 0x1000, count2 := 1, owner := .part, flds := fun _ _ => [AIR_BOFF_OFF] },
  { name := "AIR_BXw", first := 0x4000D220, stride := 0x4, count := 8, stride2 := 0x1000, count2 := 1, owner := .part, flds := fun w _ => [AIR_BXw_OCTETS w] },
  { name := "AIR_TXPOL", first := 0x4000D240, stride := 0x1000, count := 1, stride2 := 0x1000, count2 := 1, owner := .part, flds := fun _ _ => [AIR_TXPOL_MAXWAIT, AIR_TXPOL_RETRYDLY, AIR_TXPOL_ONDEFER, AIR_TXPOL_RETRIES] },
  { name := "AIR_PAIRT", first := 0x4000D244, stride := 0x1000, count := 1, stride2 := 0x1000, count2 := 1, owner := .part, flds := fun _ _ => [AIR_PAIRT_MS] },
  { name := "AIR_PACK", first := 0x4000D248, stride := 0x1000, count := 1, stride2 := 0x1000, count2 := 1, owner := .part, flds := fun _ _ => [AIR_PACK_GPEND, AIR_PACK_NOTSENT] },
  { name := "AIR_TXSYNCn", first := 0x4000D250, stride := 0x4, count := 4, stride2 := 0x1000, count2 := 1, owner := .part, flds := fun n _ => [AIR_TXSYNCn_SYNC n] }]

/-- The registers of the AIR block (R7). -/
def tabAIR : List RegDesc := tabAIR0 ++ tabAIR1

/-- The registers of the ASC block, part 0 (R7). -/
def tabASC0 : List RegDesc := [
  { name := "ASC_CTL", first := 0x4000E000, stride := 0x1000, count := 1, stride2 := 0x1000, count2 := 1, owner := .p0, flds := fun _ _ => [ASC_CTL_CLRCNT, ASC_CTL_EN] },
  { name := "ASC_STAT", first := 0x4000E004, stride := 0x1000, count := 1, stride2 := 0x1000, count2 := 1, owner := .anyRo, flds := fun _ _ => [ASC_STAT_WHLHOLD, ASC_STAT_USED] },
  { name := "ASC_DGW", first := 0x4000E008, stride := 0x1000, count := 1, stride2 := 0x1000, count2 := 1, owner := .anyRo, flds := fun _ _ => [ASC_DGW_DGW] },
  { name := "ASC_WHL", first := 0x4000E00C, stride := 0x1000, count := 1, stride2 := 0x1000, count2 := 1, owner := .p0, flds := fun _ _ => [ASC_WHL_MAXLAT, ASC_WHL_LEAD] },
  { name := "ASC_SARNGp", first := 0x4000E100, stride := 0x4, count := 32, stride2 := 0x1000, count2 := 1, owner := .p0, flds := fun p _ => [ASC_SARNGp_LAST p, ASC_SARNGp_FIRST p] },
  { name := "ASC_GUARD", first := 0x4000E200, stride := 0x1000, count := 1, stride2 := 0x1000, count2 := 1, owner := .part, flds := fun _ _ => [ASC_GUARD_GMAX, ASC_GUARD_G0] },
  { name := "ASC_FRCFG", first := 0x4000E204, stride := 0x1000, count := 1, stride2 := 0x1000, count2 := 1, owner := .part, flds := fun _ _ => [ASC_FRCFG_MISSMAX, ASC_FRCFG_FWIN] },
  { name := "ASC_LOSTCFG", first := 0x4000E208, stride := 0x1000, count := 1, stride2 := 0x1000, count2 := 1, owner := .part, flds := fun _ _ => [ASC_LOSTCFG_RPER, ASC_LOSTCFG_RBURST, ASC_LOSTCFG_RPROF, ASC_LOSTCFG_RSECLVL] },
  { name := "ASC_RFREQ", first := 0x4000E20C, stride := 0x1000, count := 1, stride2 := 0x1000, count2 := 1, owner := .part, flds := fun _ _ => [ASC_RFREQ_FREQ] },
  { name := "ASC_WCLSnA", first := 0x4000E210, stride := 0x8, count := 7, stride2 := 0x1000, count2 := 1, owner := .part, flds := fun n _ => [ASC_WCLSnA_KIND n, ASC_WCLSnA_PERIOD n] },
  { name := "ASC_WCLSnB", first := 0x4000E214, stride := 0x8, count := 7, stride2 := 0x1000, count2 := 1, owner := .part, flds := fun n _ => [ASC_WCLSnB_TAIL n] },
  { name := "ASC_CLADDRL", first := 0x4000E250, stride := 0x1000, count := 1, stride2 := 0x1000, count2 := 1, owner := .part, flds := fun _ _ => [ASC_CLADDRL_LADDR] },
  { name := "ASC_CLADDRH", first := 0x4000E254, stride := 0x1000, count := 1, stride2 := 0x1000, count2 := 1, owner := .part, flds := fun _ _ => [ASC_CLADDRH_LADDR] },
  { name := "ASC_PVMAP", first := 0x4000E258, stride := 0x1000, count := 1, stride2 := 0x1000, count2 := 1, owner := .part, flds := fun _ _ => [ASC_PVMAP_MAP] },
  { name := "ASC_PSTAT", first := 0x4000E25C, stride := 0x1000, count := 1, stride2 := 0x1000, count2 := 1, owner := .part, flds := fun _ _ => [ASC_PSTAT_CURSOR, ASC_PSTAT_USED] },
  { name := "ASC_PCNT", first := 0x4000E260, stride := 0x1000, count := 1, stride2 := 0x1000, count2 := 1, owner := .part, flds := fun _ _ => [ASC_PCNT_MISSED, ASC_PCNT_OUTWIN] },
  { name := "ASC_PCNT2", first := 0x4000E264, stride := 0x1000, count := 1, stride2 := 0x1000, count2 := 1, owner := .part, flds := fun _ _ => [ASC_PCNT2_LOST, ASC_PCNT2_VERERR] }]

/-- The registers of the ASC block (R7). -/
def tabASC : List RegDesc := tabASC0

/-- The registers of the PRT block, part 0 (R7). -/
def tabPRT0 : List RegDesc := [
  { name := "PRT_CRADDR", first := 0x40010000, stride := 0x1000, count := 1, stride2 := 0x1000, count2 := 1, owner := .p0, flds := fun _ _ => [PRT_CRADDR_ADDR] },
  { name := "PRT_CRCTL", first := 0x40010004, stride := 0x1000, count := 1, stride2 := 0x1000, count2 := 1, owner := .p0, flds := fun _ _ => [PRT_CRCTL_PNUM, PRT_CRCTL_PURGE, PRT_CRCTL_CREATE] },
  { name := "PRT_CRSTAT", first := 0x40010008, stride := 0x1000, count := 1, stride2 := 0x1000, count2 := 1, owner := .p0, flds := fun _ _ => [PRT_CRSTAT_PNUM, PRT_CRSTAT_CODE, PRT_CRSTAT_BUSYREJ, PRT_CRSTAT_BUSY] },
  { name := "PRT_PSTATp", first := 0x40010100, stride := 0x4, count := 32, stride2 := 0x1000, count2 := 1, owner := .p0, flds := fun p _ => [PRT_PSTATp_AUTOCNT p, PRT_PSTATp_ENGINE p, PRT_PSTATp_FCAUSE p, PRT_PSTATp_PORT p, PRT_PSTATp_LS p, PRT_PSTATp_LASTRST p, PRT_PSTATp_STATE p] },
  { name := "PRT_PCTLp", first := 0x40010180, stride := 0x4, count := 32, stride2 := 0x1000, count2 := 1, owner := .p0, flds := fun p _ => [PRT_PCTLp_RST p, PRT_PCTLp_AUTORST p] },
  { name := "PRT_RSTREQ", first := 0x40010200, stride := 0x1000, count := 1, stride2 := 0x1000, count2 := 1, owner := .part, flds := fun _ _ => [PRT_RSTREQ_KIND] },
  { name := "PRT_PINFO", first := 0x40010204, stride := 0x1000, count := 1, stride2 := 0x1000, count2 := 1, owner := .part, flds := fun _ _ => [PRT_PINFO_NIDCNT, PRT_PINFO_TRANSP, PRT_PINFO_PORT, PRT_PINFO_LS, PRT_PINFO_PNUM] },
  { name := "PRT_FAULT", first := 0x40010208, stride := 0x1000, count := 1, stride2 := 0x1000, count2 := 1, owner := .part, flds := fun _ _ => [PRT_FAULT_FCAUSE] },
  { name := "PRT_FADDR", first := 0x4001020C, stride := 0x1000, count := 1, stride2 := 0x1000, count2 := 1, owner := .part, flds := fun _ _ => [PRT_FADDR_ADDR] },
  { name := "PRT_QUOTA", first := 0x40010210, stride := 0x1000, count := 1, stride2 := 0x1000, count2 := 1, owner := .part, flds := fun _ _ => [PRT_QUOTA_ASSOCQ, PRT_QUOTA_DATAG, PRT_QUOTA_CODEG] },
  { name := "PRT_PKT", first := 0x40010214, stride := 0x1000, count := 1, stride2 := 0x1000, count2 := 1, owner := .part, flds := fun _ _ => [PRT_PKT_REQREJ, PRT_PKT_CAP, PRT_PKT_HELD, PRT_PKT_FLOOR] },
  { name := "PRT_PKTREQ", first := 0x40010218, stride := 0x1000, count := 1, stride2 := 0x1000, count2 := 1, owner := .part, flds := fun _ _ => [PRT_PKTREQ_DIR, PRT_PKTREQ_COUNT] },
  { name := "PRT_RXRING", first := 0x4001021C, stride := 0x1000, count := 1, stride2 := 0x1000, count2 := 1, owner := .part, flds := fun _ _ => [PRT_RXRING_SIZE, PRT_RXRING_BASE] },
  { name := "PRT_RXPTR", first := 0x40010220, stride := 0x1000, count := 1, stride2 := 0x1000, count2 := 1, owner := .part, flds := fun _ _ => [PRT_RXPTR_RINGREJ, PRT_RXPTR_WR, PRT_RXPTR_RD] },
  { name := "PRT_RXCNT", first := 0x40010224, stride := 0x1000, count := 1, stride2 := 0x1000, count2 := 1, owner := .part, flds := fun _ _ => [PRT_RXCNT_NOREC, PRT_RXCNT_FULL] }]

/-- The registers of the PRT block (R7). -/
def tabPRT : List RegDesc := tabPRT0

/-- The registers of the PEC block, part 0 (R7). -/
def tabPEC0 : List RegDesc := [
  { name := "PEC_PEND", first := 0x40011000, stride := 0x1000, count := 1, stride2 := 0x1000, count2 := 1, owner := .part, flds := fun _ _ => [PEC_PEND_PEND] },
  { name := "PEC_EEN", first := 0x40011004, stride := 0x1000, count := 1, stride2 := 0x1000, count2 := 1, owner := .part, flds := fun _ _ => [PEC_EEN_EEN] },
  { name := "PEC_HPEND", first := 0x40011008, stride := 0x1000, count := 1, stride2 := 0x1000, count2 := 1, owner := .part, flds := fun _ _ => [PEC_HPEND_HPEND] },
  { name := "PEC_HEN", first := 0x4001100C, stride := 0x1000, count := 1, stride2 := 0x1000, count2 := 1, owner := .part, flds := fun _ _ => [PEC_HEN_HEN] },
  { name := "PEC_OVF", first := 0x40011010, stride := 0x1000, count := 1, stride2 := 0x1000, count2 := 1, owner := .part, flds := fun _ _ => [PEC_OVF_OVF] },
  { name := "PEC_HCTL", first := 0x40011014, stride := 0x1000, count := 1, stride2 := 0x1000, count2 := 1, owner := .part, flds := fun _ _ => [PEC_HCTL_OUTQ] },
  { name := "PEC_PIN", first := 0x40011100, stride := 0x1000, count := 1, stride2 := 0x1000, count2 := 1, owner := .p0, flds := fun _ _ => [PEC_PIN_ODB, PEC_PIN_ENB, PEC_PIN_ODA, PEC_PIN_ENA] },
  { name := "PEC_PINSTAT", first := 0x40011104, stride := 0x1000, count := 1, stride2 := 0x1000, count2 := 1, owner := .anyRo, flds := fun _ _ => [PEC_PINSTAT_HIRQB, PEC_PINSTAT_HIRQA] }]

/-- The registers of the PEC block (R7). -/
def tabPEC : List RegDesc := tabPEC0

/-- The registers of the SAD block, part 0 (R7). -/
def tabSAD0 : List RegDesc := [
  { name := "SAD_AIRTOT", first := 0x40012000, stride := 0x1000, count := 1, stride2 := 0x1000, count2 := 1, owner := .p0, flds := fun _ _ => [SAD_AIRTOT_TOT] },
  { name := "SAD_STAT", first := 0x40012004, stride := 0x1000, count := 1, stride2 := 0x1000, count2 := 1, owner := .p0, flds := fun _ _ => [SAD_STAT_RES, SAD_STAT_REJ] },
  { name := "SAD_AFLRp", first := 0x40012100, stride := 0x20, count := 32, stride2 := 0x1000, count2 := 1, owner := .p0, flds := fun p _ => [SAD_AFLRp_WEIGHT p, SAD_AFLRp_FLOOR p] },
  { name := "SAD_ACAPp", first := 0x40012104, stride := 0x20, count := 32, stride2 := 0x1000, count2 := 1, owner := .p0, flds := fun p _ => [SAD_ACAPp_CAP p] },
  { name := "SAD_ENGp", first := 0x40012108, stride := 0x20, count := 32, stride2 := 0x1000, count2 := 1, owner := .p0, flds := fun p _ => [SAD_ENGp_WSLICE p, SAD_ENGp_FLOOR p] },
  { name := "SAD_SECp", first := 0x4001210C, stride := 0x20, count := 32, stride2 := 0x1000, count2 := 1, owner := .p0, flds := fun p _ => [SAD_SECp_WEIGHT p, SAD_SECp_FLOOR p] },
  { name := "SAD_HIFp", first := 0x40012110, stride := 0x20, count := 32, stride2 := 0x1000, count2 := 1, owner := .p0, flds := fun p _ => [SAD_HIFp_WEIGHT p, SAD_HIFp_FLOOR p] },
  { name := "SAD_MEMp", first := 0x40012114, stride := 0x20, count := 32, stride2 := 0x1000, count2 := 1, owner := .p0, flds := fun p _ => [SAD_MEMp_WEIGHT p, SAD_MEMp_FLOOR p] },
  { name := "SAD_ALEVEL", first := 0x40012800, stride := 0x1000, count := 1, stride2 := 0x1000, count2 := 1, owner := .part, flds := fun _ _ => [SAD_ALEVEL_LEVEL] },
  { name := "SAD_AFILL", first := 0x40012804, stride := 0x1000, count := 1, stride2 := 0x1000, count2 := 1, owner := .part, flds := fun _ _ => [SAD_AFILL_FILL] }]

/-- The registers of the SAD block (R7). -/
def tabSAD : List RegDesc := tabSAD0

/-- The registers of the ENG block, part 0 (R7). -/
def tabENG0 : List RegDesc := [
  { name := "ENG_STAT", first := 0x40013000, stride := 0x1000, count := 1, stride2 := 0x1000, count2 := 1, owner := .anyRo, flds := fun _ _ => [ENG_STAT_SVPEND, ENG_STAT_SVSLOT, ENG_STAT_SVCREJ, ENG_STAT_DRAIN, ENG_STAT_INSVC] },
  { name := "ENG_SVC", first := 0x40013004, stride := 0x1000, count := 1, stride2 := 0x1000, count2 := 1, owner := .p0, flds := fun _ _ => [ENG_SVC_OUT] },
  { name := "ENG_SLICE", first := 0x40013008, stride := 0x1000, count := 1, stride2 := 0x1000, count2 := 1, owner := .p0, flds := fun _ _ => [ENG_SLICE_CYC] },
  { name := "ENG_SEQWD", first := 0x4001300C, stride := 0x1000, count := 1, stride2 := 0x1000, count2 := 1, owner := .p0, flds := fun _ _ => [ENG_SEQWD_CEWD, ENG_SEQWD_RSBWD, ENG_SEQWD_RSAWD] },
  { name := "ENG_SVMARK", first := 0x40013010, stride := 0x1000, count := 1, stride2 := 0x1000, count2 := 1, owner := .anyRo, flds := fun _ _ => [ENG_SVMARK_COUNT, ENG_SVMARK_MARK] },
  { name := "ENG_SEQCTLx", first := 0x40013020, stride := 0x4, count := 2, stride2 := 0x1000, count2 := 1, owner := .p0, flds := fun x _ => [ENG_SEQCTLx_SRC x, ENG_SEQCTLx_BASIC x, ENG_SEQCTLx_SWAP x, ENG_SEQCTLx_LOAD x, ENG_SEQCTLx_EN x] },
  { name := "ENG_SEQSTATx", first := 0x40013028, stride := 0x4, count := 2, stride2 := 0x1000, count2 := 1, owner := .anyRo, flds := fun x _ => [ENG_SEQSTATx_SIGLOG x, ENG_SEQSTATx_BASICACT x, ENG_SEQSTATx_FAULTED x, ENG_SEQSTATx_DOWNACC x, ENG_SEQSTATx_LOADREJ x, ENG_SEQSTATx_SWPEND x, ENG_SEQSTATx_BANK x] },
  { name := "ENG_SFAULT", first := 0x40013030, stride := 0x1000, count := 1, stride2 := 0x1000, count2 := 1, owner := .anyRo, flds := fun _ _ => [ENG_SFAULT_COUNT, ENG_SFAULT_FCAUSE, ENG_SFAULT_ENGID] },
  { name := "ENG_SFADDR", first := 0x40013034, stride := 0x1000, count := 1, stride2 := 0x1000, count2 := 1, owner := .anyRo, flds := fun _ _ => [ENG_SFADDR_ADDR] },
  { name := "ENG_TXBIND", first := 0x40013040, stride := 0x1000, count := 1, stride2 := 0x1000, count2 := 1, owner := .anyRo, flds := fun _ _ => [ENG_TXBIND_BOUND, ENG_TXBIND_FIXED] },
  { name := "ENG_TXLIM", first := 0x40013044, stride := 0x1000, count := 1, stride2 := 0x1000, count2 := 1, owner := .anyRo, flds := fun _ _ => [ENG_TXLIM_LIM] },
  { name := "ENG_COLCTL", first := 0x40013048, stride := 0x1000, count := 1, stride2 := 0x1000, count2 := 1, owner := .p0, flds := fun _ _ => [ENG_COLCTL_SLOT, ENG_COLCTL_BASIC] },
  { name := "ENG_WDOGp", first := 0x40013100, stride := 0x4, count := 32, stride2 := 0x1000, count2 := 1, owner := .p0, flds := fun p _ => [ENG_WDOGp_LIMIT p] },
  { name := "ENG_IMG", first := 0x40013200, stride := 0x1000, count := 1, stride2 := 0x1000, count2 := 1, owner := .part, flds := fun _ _ => [ENG_IMG_DUAL, ENG_IMG_SWPEND, ENG_IMG_ACTSLOT, ENG_IMG_S1, ENG_IMG_S0] },
  { name := "ENG_IMGVs", first := 0x40013204, stride := 0x4, count := 2, stride2 := 0x1000, count2 := 1, owner := .part, flds := fun s _ => [ENG_IMGVs_VERSION s] },
  { name := "ENG_DUAL", first := 0x4001320C, stride := 0x1000, count := 1, stride2 := 0x1000, count2 := 1, owner := .part, flds := fun _ _ => [ENG_DUAL_ENDLEFT, ENG_DUAL_CTX, ENG_DUAL_MBOXIMG] },
  { name := "ENG_WDKICK", first := 0x40013210, stride := 0x1000, count := 1, stride2 := 0x1000, count2 := 1, owner := .part, flds := fun _ _ => [ENG_WDKICK_KICK] }]

/-- The registers of the ENG block (R7). -/
def tabENG : List RegDesc := tabENG0

/-- The registers of the SEC block, part 0 (R7). -/
def tabSEC0 : List RegDesc := [
  { name := "SEC_CTL", first := 0x40014000, stride := 0x1000, count := 1, stride2 := 0x1000, count2 := 1, owner := .p0, flds := fun _ _ => [SEC_CTL_EN] },
  { name := "SEC_STAT", first := 0x40014004, stride := 0x1000, count := 1, stride2 := 0x1000, count2 := 1, owner := .anyRo, flds := fun _ _ => [SEC_STAT_SEEDED, SEC_STAT_TRNGERR, SEC_STAT_SVCREJ, SEC_STAT_BUSY, SEC_STAT_INSVC] },
  { name := "SEC_SVC", first := 0x40014008, stride := 0x1000, count := 1, stride2 := 0x1000, count2 := 1, owner := .p0, flds := fun _ _ => [SEC_SVC_OUT] },
  { name := "SEC_RESEED", first := 0x4001400C, stride := 0x1000, count := 1, stride2 := 0x1000, count2 := 1, owner := .p0, flds := fun _ _ => [SEC_RESEED_INTV] },
  { name := "SEC_TRNGSTAT", first := 0x40014010, stride := 0x1000, count := 1, stride2 := 0x1000, count2 := 1, owner := .anyRo, flds := fun _ _ => [SEC_TRNGSTAT_RCTFAIL, SEC_TRNGSTAT_APTFAIL] },
  { name := "SEC_BLKCNT", first := 0x40014014, stride := 0x1000, count := 1, stride2 := 0x1000, count2 := 1, owner := .anyRo, flds := fun _ _ => [SEC_BLKCNT_COUNT] },
  { name := "SEC_PQUEUE", first := 0x40014200, stride := 0x1000, count := 1, stride2 := 0x1000, count2 := 1, owner := .part, flds := fun _ _ => [SEC_PQUEUE_WAIT, SEC_PQUEUE_RUN] },
  { name := "SEC_PAUTH", first := 0x40014204, stride := 0x1000, count := 1, stride2 := 0x1000, count2 := 1, owner := .part, flds := fun _ _ => [SEC_PAUTH_STALE, SEC_PAUTH_MIC] }]

/-- The registers of the SEC block (R7). -/
def tabSEC : List RegDesc := tabSEC0

/-- The registers of the KEY block, part 0 (R7). -/
def tabKEY0 : List RegDesc := [
  { name := "KEY_CTL", first := 0x40015000, stride := 0x1000, count := 1, stride2 := 0x1000, count2 := 1, owner := .p0, flds := fun _ _ => [KEY_CTL_FLUSH, KEY_CTL_EN] },
  { name := "KEY_STAT", first := 0x40015004, stride := 0x1000, count := 1, stride2 := 0x1000, count2 := 1, owner := .anyRo, flds := fun _ _ => [KEY_STAT_RECFREE, KEY_STAT_SLOTS] },
  { name := "KEY_TQUOTAp", first := 0x40015100, stride := 0x4, count := 32, stride2 := 0x1000, count2 := 1, owner := .p0, flds := fun p _ => [KEY_TQUOTAp_QUOTA p] },
  { name := "KEY_ULIM", first := 0x40015200, stride := 0x1000, count := 1, stride2 := 0x1000, count2 := 1, owner := .part, flds := fun _ _ => [KEY_ULIM_LIMIT] },
  { name := "KEY_PSTAT", first := 0x40015204, stride := 0x1000, count := 1, stride2 := 0x1000, count2 := 1, owner := .part, flds := fun _ _ => [KEY_PSTAT_RECHELD, KEY_PSTAT_SLOTS] },
  { name := "KEY_LIMSTAT", first := 0x40015208, stride := 0x1000, count := 1, stride2 := 0x1000, count2 := 1, owner := .part, flds := fun _ _ => [KEY_LIMSTAT_NEAR, KEY_LIMSTAT_ATLIM] }]

/-- The registers of the KEY block (R7). -/
def tabKEY : List RegDesc := tabKEY0

/-- The registers of the CRC block, part 0 (R7). -/
def tabCRC0 : List RegDesc := [
  { name := "CRC_PPSTAT", first := 0x40016000, stride := 0x1000, count := 1, stride2 := 0x1000, count2 := 1, owner := .anyRo, flds := fun _ _ => [CRC_PPSTAT_FREE, CRC_PPSTAT_BUSY] },
  { name := "CRC_GOWNL", first := 0x40016010, stride := 0x1000, count := 1, stride2 := 0x1000, count2 := 1, owner := .p0, flds := fun _ _ => [CRC_GOWNL_U3, CRC_GOWNL_U2, CRC_GOWNL_U1, CRC_GOWNL_U0] },
  { name := "CRC_GOWNH", first := 0x40016014, stride := 0x1000, count := 1, stride2 := 0x1000, count2 := 1, owner := .p0, flds := fun _ _ => [CRC_GOWNH_UHI] },
  { name := "CRC_LCTLl", first := 0x40016200, stride := 0x40, count := 8, stride2 := 0x1000, count2 := 1, owner := .part, flds := fun l _ => [CRC_LCTLl_FINISH l, CRC_LCTLl_START l, CRC_LCTLl_HOLD l] },
  { name := "CRC_LCFGl", first := 0x40016204, stride := 0x40, count := 8, stride2 := 0x1000, count2 := 1, owner := .part, flds := fun l _ => [CRC_LCFGl_ALVPOS l, CRC_LCFGl_ALVBIT l, CRC_LCFGl_AWM1 l, CRC_LCFGl_ALVEN l, CRC_LCFGl_CMPSRC l, CRC_LCFGl_CMPEN l, CRC_LCFGl_REFOUT l, CRC_LCFGl_REFIN l, CRC_LCFGl_WM1 l] },
  { name := "CRC_LPOLYl", first := 0x40016208, stride := 0x40, count := 8, stride2 := 0x1000, count2 := 1, owner := .part, flds := fun l _ => [CRC_LPOLYl_VALUE l] },
  { name := "CRC_LINITl", first := 0x4001620C, stride := 0x40, count := 8, stride2 := 0x1000, count2 := 1, owner := .part, flds := fun l _ => [CRC_LINITl_VALUE l] },
  { name := "CRC_LXORl", first := 0x40016210, stride := 0x40, count := 8, stride2 := 0x1000, count2 := 1, owner := .part, flds := fun l _ => [CRC_LXORl_VALUE l] },
  { name := "CRC_LEXPl", first := 0x40016214, stride := 0x40, count := 8, stride2 := 0x1000, count2 := 1, owner := .part, flds := fun l _ => [CRC_LEXPl_VALUE l] },
  { name := "CRC_LDIN1l", first := 0x40016218, stride := 0x40, count := 8, stride2 := 0x1000, count2 := 1, owner := .part, flds := fun l _ => [CRC_LDIN1l_DATA l] },
  { name := "CRC_LDIN2l", first := 0x4001621C, stride := 0x40, count := 8, stride2 := 0x1000, count2 := 1, owner := .part, flds := fun l _ => [CRC_LDIN2l_DATA l] },
  { name := "CRC_LDIN4l", first := 0x40016220, stride := 0x40, count := 8, stride2 := 0x1000, count2 := 1, owner := .part, flds := fun l _ => [CRC_LDIN4l_DATA l] },
  { name := "CRC_LRUNl", first := 0x40016224, stride := 0x40, count := 8, stride2 := 0x1000, count2 := 1, owner := .part, flds := fun l _ => [CRC_LRUNl_REG l] },
  { name := "CRC_LPOSl", first := 0x40016228, stride := 0x40, count := 8, stride2 := 0x1000, count2 := 1, owner := .part, flds := fun l _ => [CRC_LPOSl_POS l] },
  { name := "CRC_LRESl", first := 0x4001622C, stride := 0x40, count := 8, stride2 := 0x1000, count2 := 1, owner := .part, flds := fun l _ => [CRC_LRESl_RES l] },
  { name := "CRC_LALVl", first := 0x40016230, stride := 0x40, count := 8, stride2 := 0x1000, count2 := 1, owner := .part, flds := fun l _ => [CRC_LALVl_CAPV l, CRC_LALVl_VALID l, CRC_LALVl_CAPT l, CRC_LALVl_LAST l] },
  { name := "CRC_LSTATl", first := 0x40016234, stride := 0x40, count := 8, stride2 := 0x1000, count2 := 1, owner := .part, flds := fun l _ => [CRC_LSTATl_ALVRES l, CRC_LSTATl_CMPRES l, CRC_LSTATl_LOANREJ l, CRC_LSTATl_CFGREJ l, CRC_LSTATl_WREJ l, CRC_LSTATl_OPBUSY l, CRC_LSTATl_OPEN l, CRC_LSTATl_HELD l] },
  { name := "CRC_LTRAILl", first := 0x40016238, stride := 0x40, count := 8, stride2 := 0x1000, count2 := 1, owner := .part, flds := fun l _ => [CRC_LTRAILl_HELDBACK l] }]

/-- The registers of the CRC block (R7). -/
def tabCRC : List RegDesc := tabCRC0

/-- The registers of the HIF block, part 0 (R7). -/
def tabHIF0 : List RegDesc := [
  { name := "HIF_CTL", first := 0x40017000, stride := 0x1000, count := 1, stride2 := 0x1000, count2 := 1, owner := .p0, flds := fun _ _ => [HIF_CTL_P0PORT, HIF_CTL_CLRCNT, HIF_CTL_ERRNOTE, HIF_CTL_SPIEN] },
  { name := "HIF_STAT", first := 0x40017004, stride := 0x1000, count := 1, stride2 := 0x1000, count2 := 1, owner := .anyRo, flds := fun _ _ => [HIF_STAT_INPART, HIF_STAT_INFLIGHT, HIF_STAT_SENT, HIF_STAT_SPILIM, HIF_STAT_CSN] },
  { name := "HIF_ERRCNT", first := 0x40017008, stride := 0x1000, count := 1, stride2 := 0x1000, count2 := 1, owner := .p0, flds := fun _ _ => [HIF_ERRCNT_PARTIAL, HIF_ERRCNT_CRCERR, HIF_ERRCNT_HDRERR, HIF_ERRCNT_NOPART] },
  { name := "HIF_ERRSTAT", first := 0x4001700C, stride := 0x1000, count := 1, stride2 := 0x1000, count2 := 1, owner := .p0, flds := fun _ _ => [HIF_ERRSTAT_PNUM, HIF_ERRSTAT_PORT, HIF_ERRSTAT_KIND] },
  { name := "HIF_XCNT", first := 0x40017010, stride := 0x1000, count := 1, stride2 := 0x1000, count2 := 1, owner := .p0, flds := fun _ _ => [HIF_XCNT_BUSRST, HIF_XCNT_ACKERR, HIF_XCNT_EXCESS] },
  { name := "HIF_PALIVE", first := 0x40017200, stride := 0x1000, count := 1, stride2 := 0x1000, count2 := 1, owner := .part, flds := fun _ _ => [HIF_PALIVE_INLAST, HIF_PALIVE_OUTNEXT, HIF_PALIVE_OUTRET] },
  { name := "HIF_PMBOX", first := 0x40017204, stride := 0x1000, count := 1, stride2 := 0x1000, count2 := 1, owner := .part, flds := fun _ _ => [HIF_PMBOX_OUTMSG, HIF_PMBOX_INMSG, HIF_PMBOX_OUTOCT] },
  { name := "HIF_PSEQ", first := 0x40017208, stride := 0x1000, count := 1, stride2 := 0x1000, count2 := 1, owner := .part, flds := fun _ _ => [HIF_PSEQ_REPEATS, HIF_PSEQ_SEQERR] }]

/-- The registers of the HIF block (R7). -/
def tabHIF : List RegDesc := tabHIF0

/-- The registers of the UART block, part 0 (R7). -/
def tabUART0 : List RegDesc := [
  { name := "UART_CTL", first := 0x40018000, stride := 0x1000, count := 1, stride2 := 0x1000, count2 := 1, owner := .p0, flds := fun _ _ => [UART_CTL_TPART, UART_CTL_WAKEEN, UART_CTL_DEEN, UART_CTL_HDX, UART_CTL_MODE, UART_CTL_EN] },
  { name := "UART_FMT", first := 0x40018004, stride := 0x1000, count := 1, stride2 := 0x1000, count2 := 1, owner := .p0, flds := fun _ _ => [UART_FMT_STOP, UART_FMT_PAR, UART_FMT_DBITS, UART_FMT_OS] },
  { name := "UART_DIV", first := 0x40018008, stride := 0x1000, count := 1, stride2 := 0x1000, count2 := 1, owner := .p0, flds := fun _ _ => [UART_DIV_FRAC, UART_DIV_INT] },
  { name := "UART_SHDIV", first := 0x4001800C, stride := 0x1000, count := 1, stride2 := 0x1000, count2 := 1, owner := .p0, flds := fun _ _ => [UART_SHDIV_FRAC, UART_SHDIV_INT] },
  { name := "UART_DE", first := 0x40018010, stride := 0x1000, count := 1, stride2 := 0x1000, count2 := 1, owner := .p0, flds := fun _ _ => [UART_DE_TAIL, UART_DE_LEAD] },
  { name := "UART_MSGCFG", first := 0x40018014, stride := 0x1000, count := 1, stride2 := 0x1000, count2 := 1, owner := .p0, flds := fun _ _ => [UART_MSGCFG_ACKTO] },
  { name := "UART_STAT", first := 0x40018018, stride := 0x1000, count := 1, stride2 := 0x1000, count2 := 1, owner := .anyRo, flds := fun _ _ => [UART_STAT_INFRAME, UART_STAT_WAKELOST, UART_STAT_DIVREJ, UART_STAT_SHADOW, UART_STAT_DEACT, UART_STAT_TXBUSY] },
  { name := "UART_ERRCNT", first := 0x4001801C, stride := 0x1000, count := 1, stride2 := 0x1000, count2 := 1, owner := .p0, flds := fun _ _ => [UART_ERRCNT_BREAK, UART_ERRCNT_OVERRUN, UART_ERRCNT_PARITY, UART_ERRCNT_FRAME] },
  { name := "UART_TSTAT", first := 0x40018200, stride := 0x1000, count := 1, stride2 := 0x1000, count2 := 1, owner := .part, flds := fun _ _ => [UART_TSTAT_TXFREE, UART_TSTAT_RXCNT, UART_TSTAT_TXOV, UART_TSTAT_IDLE, UART_TSTAT_BRK, UART_TSTAT_OE, UART_TSTAT_PE, UART_TSTAT_FE] },
  { name := "UART_TDATA", first := 0x40018204, stride := 0x1000, count := 1, stride2 := 0x1000, count2 := 1, owner := .part, flds := fun _ _ => [UART_TDATA_VALID, UART_TDATA_CFE, UART_TDATA_CPE, UART_TDATA_DATA] }]

/-- The registers of the UART block (R7). -/
def tabUART : List RegDesc := tabUART0

/-- The registers of the PWR block, part 0 (R7). -/
def tabPWR0 : List RegDesc := [
  { name := "PWR_MODE", first := 0x40001000, stride := 0x1000, count := 1, stride2 := 0x1000, count2 := 1, owner := .anyRo, flds := fun _ _ => [PWR_MODE_TARGET, PWR_MODE_BASE, PWR_MODE_ENTERING, PWR_MODE_MODE] },
  { name := "PWR_REQ", first := 0x40001004, stride := 0x1000, count := 1, stride2 := 0x1000, count2 := 1, owner := .p0, flds := fun _ _ => [PWR_REQ_MODE] },
  { name := "PWR_REQPAR", first := 0x40001008, stride := 0x1000, count := 1, stride2 := 0x1000, count2 := 1, owner := .p0, flds := fun _ _ => [PWR_REQPAR_PARAM] },
  { name := "PWR_REQSTAT", first := 0x4000100C, stride := 0x1000, count := 1, stride2 := 0x1000, count2 := 1, owner := .p0, flds := fun _ _ => [PWR_REQSTAT_CODE, PWR_REQSTAT_MODE, PWR_REQSTAT_BUSY] },
  { name := "PWR_CTL", first := 0x40001010, stride := 0x1000, count := 1, stride2 := 0x1000, count2 := 1, owner := .p0, flds := fun _ _ => [PWR_CTL_RETWAIT, PWR_CTL_AUTOIDLE] },
  { name := "PWR_WAKEEN", first := 0x40001014, stride := 0x1000, count := 1, stride2 := 0x1000, count2 := 1, owner := .p0, flds := fun _ _ => [PWR_WAKEEN_TIMER, PWR_WAKEEN_CMP] },
  { name := "PWR_WAKESRC", first := 0x40001018, stride := 0x1000, count := 1, stride2 := 0x1000, count2 := 1, owner := .anyRo, flds := fun _ _ => [PWR_WAKESRC_FROM, PWR_WAKESRC_FIRST, PWR_WAKESRC_LVLENT, PWR_WAKESRC_SRC] },
  { name := "PWR_WAKET", first := 0x4000101C, stride := 0x1000, count := 1, stride2 := 0x1000, count2 := 1, owner := .anyRo, flds := fun _ _ => [PWR_WAKET_TICK] },
  { name := "PWR_CMPCFG", first := 0x40001020, stride := 0x1000, count := 1, stride2 := 0x1000, count2 := 1, owner := .p0, flds := fun _ _ => [PWR_CMPCFG_AUTODLY, PWR_CMPCFG_AUTOCOL, PWR_CMPCFG_MODE, PWR_CMPCFG_HYST, PWR_CMPCFG_THR] },
  { name := "PWR_CMPSTAT", first := 0x40001024, stride := 0x1000, count := 1, stride2 := 0x1000, count2 := 1, owner := .anyRo, flds := fun _ _ => [PWR_CMPSTAT_LOWSEC, PWR_CMPSTAT_CROSS, PWR_CMPSTAT_OUT] },
  { name := "PWR_PADREL", first := 0x40001200, stride := 0x1000, count := 1, stride2 := 0x1000, count2 := 1, owner := .part, flds := fun _ _ => [PWR_PADREL_HELD, PWR_PADREL_REL] },
  { name := "PWR_TMRWAKE", first := 0x40001204, stride := 0x1000, count := 1, stride2 := 0x1000, count2 := 1, owner := .part, flds := fun _ _ => [PWR_TMRWAKE_TMR] }]

/-- The registers of the PWR block (R7). -/
def tabPWR : List RegDesc := tabPWR0

/-- The registers of the COL block, part 0 (R7). -/
def tabCOL0 : List RegDesc := [
  { name := "COL_CTL", first := 0x4000F000, stride := 0x1000, count := 1, stride2 := 0x1000, count2 := 1, owner := .p0, flds := fun _ _ => [COL_CTL_RATE, COL_CTL_WIDTH, COL_CTL_EN] },
  { name := "COL_FREQ", first := 0x4000F004, stride := 0x1000, count := 1, stride2 := 0x1000, count2 := 1, owner := .p0, flds := fun _ _ => [COL_FREQ_FREQ] },
  { name := "COL_SYNC", first := 0x4000F008, stride := 0x1000, count := 1, stride2 := 0x1000, count2 := 1, owner := .p0, flds := fun _ _ => [COL_SYNC_SYNC] },
  { name := "COL_SNIFF", first := 0x4000F00C, stride := 0x1000, count := 1, stride2 := 0x1000, count2 := 1, owner := .p0, flds := fun _ _ => [COL_SNIFF_SWIN, COL_SNIFF_SPER] },
  { name := "COL_RXCFG", first := 0x4000F010, stride := 0x1000, count := 1, stride2 := 0x1000, count2 := 1, owner := .p0, flds := fun _ _ => [COL_RXCFG_EXT, COL_RXCFG_ETHR] },
  { name := "COL_TX", first := 0x4000F014, stride := 0x1000, count := 1, stride2 := 0x1000, count2 := 1, owner := .p0, flds := fun _ _ => [COL_TX_BDIV, COL_TX_TXPROF] },
  { name := "COL_PARTS", first := 0x4000F018, stride := 0x1000, count := 1, stride2 := 0x1000, count2 := 1, owner := .p0, flds := fun _ _ => [COL_PARTS_PARTS] },
  { name := "COL_WAKECRIT", first := 0x4000F01C, stride := 0x1000, count := 1, stride2 := 0x1000, count2 := 1, owner := .p0, flds := fun _ _ => [COL_WAKECRIT_AGEMAX, COL_WAKECRIT_NFULL, COL_WAKECRIT_PROG, COL_WAKECRIT_PART, COL_WAKECRIT_FULL, COL_WAKECRIT_LS, COL_WAKECRIT_ANY] },
  { name := "COL_WAKEPART", first := 0x4000F020, stride := 0x1000, count := 1, stride2 := 0x1000, count2 := 1, owner := .p0, flds := fun _ _ => [COL_WAKEPART_PARTS] },
  { name := "COL_STAT", first := 0x4000F024, stride := 0x1000, count := 1, stride2 := 0x1000, count2 := 1, owner := .anyRo, flds := fun _ _ => [COL_STAT_OCTETS, COL_STAT_FRAMES, COL_STAT_ENERGY, COL_STAT_RXON, COL_STAT_TXON, COL_STAT_ACTIVE] },
  { name := "COL_CNTA", first := 0x4000F028, stride := 0x1000, count := 1, stride2 := 0x1000, count2 := 1, owner := .anyRo, flds := fun _ _ => [COL_CNTA_STORED, COL_CNTA_SNIFFHIT] },
  { name := "COL_CNTB", first := 0x4000F02C, stride := 0x1000, count := 1, stride2 := 0x1000, count2 := 1, owner := .anyRo, flds := fun _ _ => [COL_CNTB_DROPFULL, COL_CNTB_REJECT] },
  { name := "COL_AIRUSE", first := 0x4000F030, stride := 0x1000, count := 1, stride2 := 0x1000, count2 := 1, owner := .anyRo, flds := fun _ _ => [COL_AIRUSE_TICKS] },
  { name := "COL_CETMR", first := 0x4000F034, stride := 0x1000, count := 1, stride2 := 0x1000, count2 := 1, owner := .p0, flds := fun _ _ => [COL_CETMR_TICK] },
  { name := "COL_SIGLOG", first := 0x4000F038, stride := 0x1000, count := 1, stride2 := 0x1000, count2 := 1, owner := .anyRo, flds := fun _ _ => [COL_SIGLOG_LOG] }]

/-- The registers of the COL block (R7). -/
def tabCOL : List RegDesc := tabCOL0

/-- The registers of the RET block, part 0 (R7). -/
def tabRET0 : List RegDesc := [
  { name := "RET_DOMSTAT", first := 0x4001E000, stride := 0x1000, count := 1, stride2 := 0x1000, count2 := 1, owner := .anyRo, flds := fun _ _ => [RET_DOMSTAT_BUSY, RET_DOMSTAT_ON] },
  { name := "RET_DOMAUTO", first := 0x4001E004, stride := 0x1000, count := 1, stride2 := 0x1000, count2 := 1, owner := .p0, flds := fun _ _ => [RET_DOMAUTO_SPARE, RET_DOMAUTO_NVM, RET_DOMAUTO_SEC, RET_DOMAUTO_TRL, RET_DOMAUTO_CHB, RET_DOMAUTO_TXD, RET_DOMAUTO_RFB, RET_DOMAUTO_RFA] },
  { name := "RET_IDLET", first := 0x4001E008, stride := 0x1000, count := 1, stride2 := 0x1000, count2 := 1, owner := .p0, flds := fun _ _ => [RET_IDLET_IDLE] },
  { name := "RET_PDSTAT", first := 0x4001E00C, stride := 0x1000, count := 1, stride2 := 0x1000, count2 := 1, owner := .anyRo, flds := fun _ _ => [RET_PDSTAT_ABANDON, RET_PDSTAT_FORCED, RET_PDSTAT_LASTDOM] },
  { name := "RET_VCORE", first := 0x4001E010, stride := 0x1000, count := 1, stride2 := 0x1000, count2 := 1, owner := .anyRo, flds := fun _ _ => [RET_VCORE_SLEW, RET_VCORE_TARGET, RET_VCORE_PRESENT] },
  { name := "RET_BIAS", first := 0x4001E014, stride := 0x1000, count := 1, stride2 := 0x1000, count2 := 1, owner := .anyRo, flds := fun _ _ => [RET_BIAS_ASSIST, RET_BIAS_CHANGING, RET_BIAS_RBB] },
  { name := "RET_IMG", first := 0x4001E018, stride := 0x1000, count := 1, stride2 := 0x1000, count2 := 1, owner := .anyRo, flds := fun _ _ => [RET_IMG_WORDS, RET_IMG_CHKERR, RET_IMG_SRC, RET_IMG_VALID] },
  { name := "RET_SAVET", first := 0x4001E01C, stride := 0x1000, count := 1, stride2 := 0x1000, count2 := 1, owner := .anyRo, flds := fun _ _ => [RET_SAVET_RESTORE, RET_SAVET_SAVE] },
  { name := "RET_ODSTAT", first := 0x4001E020, stride := 0x1000, count := 1, stride2 := 0x1000, count2 := 1, owner := .anyRo, flds := fun _ _ => [RET_ODSTAT_COUNT, RET_ODSTAT_MAXSTALL, RET_ODSTAT_LASTDOM] },
  { name := "RET_FPD", first := 0x4001E024, stride := 0x1000, count := 1, stride2 := 0x1000, count2 := 1, owner := .anyRo, flds := fun _ _ => [RET_FPD_TICK] }]

/-- The registers of the RET block (R7). -/
def tabRET : List RegDesc := tabRET0

/-- The registers of the CAL block, part 0 (R7). -/
def tabCAL0 : List RegDesc := [
  { name := "CAL_CTL", first := 0x4001A000, stride := 0x1000, count := 1, stride2 := 0x1000, count2 := 1, owner := .p0, flds := fun _ _ => [CAL_CTL_SAVE, CAL_CTL_EN] },
  { name := "CAL_STAT", first := 0x4001A004, stride := 0x1000, count := 1, stride2 := 0x1000, count2 := 1, owner := .anyRo, flds := fun _ _ => [CAL_STAT_FORCED, CAL_STAT_STEP, CAL_STAT_XOFBREJ, CAL_STAT_RECERR, CAL_STAT_RECCOPY, CAL_STAT_NOREC, CAL_STAT_RUN, CAL_STAT_ITEM] },
  { name := "CAL_TEMP", first := 0x4001A008, stride := 0x1000, count := 1, stride2 := 0x1000, count2 := 1, owner := .anyRo, flds := fun _ _ => [CAL_TEMP_TJ] },
  { name := "CAL_TRIG_DELTA", first := 0x4001A00C, stride := 0x1000, count := 1, stride2 := 0x1000, count2 := 1, owner := .p0, flds := fun _ _ => [CAL_TRIG_DELTA_D3, CAL_TRIG_DELTA_D2, CAL_TRIG_DELTA_D1, CAL_TRIG_DELTA_D0] },
  { name := "CAL_DEFER", first := 0x4001A010, stride := 0x1000, count := 1, stride2 := 0x1000, count2 := 1, owner := .p0, flds := fun _ _ => [CAL_DEFER_MAXDEFER] },
  { name := "CAL_XOC0", first := 0x4001A014, stride := 0x1000, count := 1, stride2 := 0x1000, count2 := 1, owner := .p0, flds := fun _ _ => [CAL_XOC0_C0] },
  { name := "CAL_XOC1", first := 0x4001A018, stride := 0x1000, count := 1, stride2 := 0x1000, count2 := 1, owner := .p0, flds := fun _ _ => [CAL_XOC1_C2, CAL_XOC1_C1] },
  { name := "CAL_XOGAIN", first := 0x4001A01C, stride := 0x1000, count := 1, stride2 := 0x1000, count2 := 1, owner := .p0, flds := fun _ _ => [CAL_XOGAIN_GF, CAL_XOGAIN_GC] },
  { name := "CAL_XOFB", first := 0x4001A020, stride := 0x1000, count := 1, stride2 := 0x1000, count2 := 1, owner := .p0, flds := fun _ _ => [CAL_XOFB_ERR] },
  { name := "CAL_TSENS", first := 0x4001A024, stride := 0x1000, count := 1, stride2 := 0x1000, count2 := 1, owner := .p0, flds := fun _ _ => [CAL_TSENS_TSSLOPE, CAL_TSENS_TSOFS] },
  { name := "CAL_PA", first := 0x4001A028, stride := 0x1000, count := 1, stride2 := 0x1000, count2 := 1, owner := .p0, flds := fun _ _ => [CAL_PA_TPA, CAL_PA_PASLOPE] },
  { name := "CAL_ITEMn", first := 0x4001A040, stride := 0x4, count := 4, stride2 := 0x1000, count2 := 1, owner := .p0, flds := fun n _ => [CAL_ITEMn_AUTO n, CAL_ITEMn_RUN n, CAL_ITEMn_PEND n, CAL_ITEMn_DEFER n, CAL_ITEMn_LASTT n] }]

/-- The registers of the CAL block (R7). -/
def tabCAL : List RegDesc := tabCAL0

/-- The registers of the NVC block, part 0 (R7). -/
def tabNVC0 : List RegDesc := [
  { name := "NVC_STAT", first := 0x4001B000, stride := 0x1000, count := 1, stride2 := 0x1000, count2 := 1, owner := .anyRo, flds := fun _ _ => [NVC_STAT_SECCNT, NVC_STAT_DEDCNT, NVC_STAT_REFR, NVC_STAT_WRBUSY] },
  { name := "NVC_REFR", first := 0x4001B004, stride := 0x1000, count := 1, stride2 := 0x1000, count2 := 1, owner := .p0, flds := fun _ _ => [NVC_REFR_DAYS] },
  { name := "NVC_CKCFG", first := 0x4001B008, stride := 0x1000, count := 1, stride2 := 0x1000, count2 := 1, owner := .p0, flds := fun _ _ => [NVC_CKCFG_CKPER] },
  { name := "NVC_CKSTAT", first := 0x4001B00C, stride := 0x1000, count := 1, stride2 := 0x1000, count2 := 1, owner := .anyRo, flds := fun _ _ => [NVC_CKSTAT_VOLATILE, NVC_CKSTAT_USED] },
  { name := "NVC_LOGHEAD", first := 0x4001B010, stride := 0x1000, count := 1, stride2 := 0x1000, count2 := 1, owner := .p0, flds := fun _ _ => [NVC_LOGHEAD_SEQ] },
  { name := "NVC_LOGIDX", first := 0x4001B014, stride := 0x1000, count := 1, stride2 := 0x1000, count2 := 1, owner := .p0, flds := fun _ _ => [NVC_LOGIDX_SEQ] },
  { name := "NVC_LOGSTAT", first := 0x4001B018, stride := 0x1000, count := 1, stride2 := 0x1000, count2 := 1, owner := .p0, flds := fun _ _ => [NVC_LOGSTAT_NOTYET, NVC_LOGSTAT_GONE] },
  { name := "NVC_LOGDATAw", first := 0x4001B040, stride := 0x4, count := 8, stride2 := 0x1000, count2 := 1, owner := .p0, flds := fun w _ => [NVC_LOGDATAw_DATA w] },
  { name := "NVC_CKQp", first := 0x4001B100, stride := 0x4, count := 32, stride2 := 0x1000, count2 := 1, owner := .p0, flds := fun p _ => [NVC_CKQp_QUOTA p] },
  { name := "NVC_CKPSTAT", first := 0x4001B200, stride := 0x1000, count := 1, stride2 := 0x1000, count2 := 1, owner := .part, flds := fun _ _ => [NVC_CKPSTAT_VOLATILE, NVC_CKPSTAT_HELD] }]

/-- The registers of the NVC block (R7). -/
def tabNVC : List RegDesc := tabNVC0

/-- The registers of the TMP block, part 0 (R7). -/
def tabTMP0 : List RegDesc := [
  { name := "TMP_LCSTAT", first := 0x4001C000, stride := 0x1000, count := 1, stride2 := 0x1000, count2 := 1, owner := .anyRo, flds := fun _ _ => [TMP_LCSTAT_LDCAUSE, TMP_LCSTAT_AUTHREJ, TMP_LCSTAT_STICKYLD, TMP_LCSTAT_LD, TMP_LCSTAT_EXPORT, TMP_LCSTAT_RECOVERY, TMP_LCSTAT_LC] },
  { name := "TMP_CTL", first := 0x4001C004, stride := 0x1000, count := 1, stride2 := 0x1000, count2 := 1, owner := .p0, flds := fun _ _ => [TMP_CTL_AUTHMSG, TMP_CTL_STICKY] },
  { name := "TMP_POLICY", first := 0x4001C008, stride := 0x1000, count := 1, stride2 := 0x1000, count2 := 1, owner := .p0, flds := fun _ _ => [TMP_POLICY_AUTHF, TMP_POLICY_TEMP, TMP_POLICY_CLOCK, TMP_POLICY_GLITCH, TMP_POLICY_LOOP] },
  { name := "TMP_LOOPCFG", first := 0x4001C00C, stride := 0x1000, count := 1, stride2 := 0x1000, count2 := 1, owner := .p0, flds := fun _ _ => [TMP_LOOPCFG_LOOPN] },
  { name := "TMP_SRC", first := 0x4001C010, stride := 0x1000, count := 1, stride2 := 0x1000, count2 := 1, owner := .p0, flds := fun _ _ => [TMP_SRC_ACTIVE, TMP_SRC_FIRED] },
  { name := "TMP_RSTCAUSE", first := 0x4001C014, stride := 0x1000, count := 1, stride2 := 0x1000, count2 := 1, owner := .anyRo, flds := fun _ _ => [TMP_RSTCAUSE_COUNT, TMP_RSTCAUSE_CAUSE] },
  { name := "TMP_AUTHCTR", first := 0x4001C018, stride := 0x1000, count := 1, stride2 := 0x1000, count2 := 1, owner := .anyRo, flds := fun _ _ => [TMP_AUTHCTR_CTR] },
  { name := "TMP_AUTHFAIL", first := 0x4001C01C, stride := 0x1000, count := 1, stride2 := 0x1000, count2 := 1, owner := .p0, flds := fun _ _ => [TMP_AUTHFAIL_MSG, TMP_AUTHFAIL_TOKEN] },
  { name := "TMP_PKGADDR", first := 0x4001C020, stride := 0x1000, count := 1, stride2 := 0x1000, count2 := 1, owner := .p0, flds := fun _ _ => [TMP_PKGADDR_ADDR] },
  { name := "TMP_LCCTL", first := 0x4001C024, stride := 0x1000, count := 1, stride2 := 0x1000, count2 := 1, owner := .p0, flds := fun _ _ => [TMP_LCCTL_ABORT, TMP_LCCTL_NEXT, TMP_LCCTL_IMPORT, TMP_LCCTL_EXPORT, TMP_LCCTL_DECOMMISSION, TMP_LCCTL_COMMISSION] },
  { name := "TMP_PKGSTAT", first := 0x4001C028, stride := 0x1000, count := 1, stride2 := 0x1000, count2 := 1, owner := .p0, flds := fun _ _ => [TMP_PKGSTAT_CODE, TMP_PKGSTAT_CHUNK, TMP_PKGSTAT_LAST, TMP_PKGSTAT_READY, TMP_PKGSTAT_DONE, TMP_PKGSTAT_BUSY] },
  { name := "TMP_PKGLEN", first := 0x4001C02C, stride := 0x1000, count := 1, stride2 := 0x1000, count2 := 1, owner := .p0, flds := fun _ _ => [TMP_PKGLEN_LEN] },
  { name := "TMP_DEVPUBn", first := 0x4001C040, stride := 0x4, count := 16, stride2 := 0x1000, count2 := 1, owner := .anyRo, flds := fun n _ => [TMP_DEVPUBn_OCTETS n] }]

/-- The registers of the TMP block (R7). -/
def tabTMP : List RegDesc := tabTMP0

/-- The registers of the DBG block, part 0 (R7). -/
def tabDBG0 : List RegDesc := [
  { name := "DBG_CTL", first := 0x40019000, stride := 0x1000, count := 1, stride2 := 0x1000, count2 := 1, owner := .p0, flds := fun _ _ => [DBG_CTL_IDLETO, DBG_CTL_PUEN, DBG_CTL_EN] },
  { name := "DBG_STAT", first := 0x40019004, stride := 0x1000, count := 1, stride2 := 0x1000, count2 := 1, owner := .p0, flds := fun _ _ => [DBG_STAT_LOCKOUT, DBG_STAT_CHAL, DBG_STAT_SCOPE] },
  { name := "DBG_HALTS", first := 0x40019008, stride := 0x1000, count := 1, stride2 := 0x1000, count2 := 1, owner := .p0, flds := fun _ _ => [DBG_HALTS_RSBPEND, DBG_HALTS_RSAPEND, DBG_HALTS_RSB, DBG_HALTS_RSA, DBG_HALTS_SV, DBG_HALTS_P0B, DBG_HALTS_P0A] },
  { name := "DBG_TESTCTL", first := 0x40019040, stride := 0x1000, count := 1, stride2 := 0x1000, count2 := 1, owner := .p0, flds := fun _ _ => [DBG_TESTCTL_INDEX, DBG_TESTCTL_KIND, DBG_TESTCTL_ABORT, DBG_TESTCTL_START] },
  { name := "DBG_TESTSTAT", first := 0x40019044, stride := 0x1000, count := 1, stride2 := 0x1000, count2 := 1, owner := .anyRo, flds := fun _ _ => [DBG_TESTSTAT_CODE, DBG_TESTSTAT_INDEX, DBG_TESTSTAT_KIND, DBG_TESTSTAT_TESTREJ, DBG_TESTSTAT_DONE, DBG_TESTSTAT_BUSY] },
  { name := "DBG_TESTRES0", first := 0x40019048, stride := 0x1000, count := 1, stride2 := 0x1000, count2 := 1, owner := .anyRo, flds := fun _ _ => [DBG_TESTRES0_RES] },
  { name := "DBG_TESTRES1", first := 0x4001904C, stride := 0x1000, count := 1, stride2 := 0x1000, count2 := 1, owner := .anyRo, flds := fun _ _ => [DBG_TESTRES1_RES] },
  { name := "DBG_TESTCNT", first := 0x40019050, stride := 0x1000, count := 1, stride2 := 0x1000, count2 := 1, owner := .anyRo, flds := fun _ _ => [DBG_TESTCNT_FAIL, DBG_TESTCNT_PASS] },
  { name := "DBG_FAILMAP", first := 0x40019054, stride := 0x1000, count := 1, stride2 := 0x1000, count2 := 1, owner := .anyRo, flds := fun _ _ => [DBG_FAILMAP_CHAIN, DBG_FAILMAP_TRL, DBG_FAILMAP_CORE, DBG_FAILMAP_ENG] },
  { name := "DBG_REPAIR", first := 0x40019058, stride := 0x1000, count := 1, stride2 := 0x1000, count2 := 1, owner := .anyRo, flds := fun _ _ => [DBG_REPAIR_PERM, DBG_REPAIR_RELOC, DBG_REPAIR_SEG] },
  { name := "DBG_PHALT", first := 0x40019200, stride := 0x1000, count := 1, stride2 := 0x1000, count2 := 1, owner := .part, flds := fun _ _ => [DBG_PHALT_SESS, DBG_PHALT_IMGB, DBG_PHALT_IMGA] }]

/-- The registers of the DBG block (R7). -/
def tabDBG : List RegDesc := tabDBG0

/-- The registers of the SYS block, part 0 (R7). -/
def tabSYS0 : List RegDesc := [
  { name := "SYS_ID", first := 0x40000000, stride := 0x1000, count := 1, stride2 := 0x1000, count2 := 1, owner := .anyRo, flds := fun _ _ => [SYS_ID_PART, SYS_ID_REVL, SYS_ID_REVN, SYS_ID_MAXGEN] },
  { name := "SYS_GEN", first := 0x40000004, stride := 0x1000, count := 1, stride2 := 0x1000, count2 := 1, owner := .anyRo, flds := fun _ _ => [SYS_GEN_GEN] },
  { name := "SYS_RSTCTL", first := 0x40000008, stride := 0x1000, count := 1, stride2 := 0x1000, count2 := 1, owner := .p0, flds := fun _ _ => [SYS_RSTCTL_GENREJ, SYS_RSTCTL_NEXTGEN] },
  { name := "SYS_FRPARTS", first := 0x4000000C, stride := 0x1000, count := 1, stride2 := 0x1000, count2 := 1, owner := .p0, flds := fun _ _ => [SYS_FRPARTS_PARTS] },
  { name := "SYS_FRCFG", first := 0x40000010, stride := 0x1000, count := 1, stride2 := 0x1000, count2 := 1, owner := .p0, flds := fun _ _ => [SYS_FRCFG_ACKPRE] }]

/-- The registers of the SYS block (R7). -/
def tabSYS : List RegDesc := tabSYS0

/-- The registers of the GPC block, part 0 (R7). -/
def tabGPC0 : List RegDesc := [
  { name := "GPC_PINn", first := 0x4001D000, stride := 0x4, count := 8, stride2 := 0x1000, count2 := 1, owner := .p0, flds := fun n _ => [GPC_PINn_OWNED n, GPC_PINn_OWNER n, GPC_PINn_DRIVE n, GPC_PINn_PULL n, GPC_PINn_OD n, GPC_PINn_INV n, GPC_PINn_SEL n, GPC_PINn_SEQ n, GPC_PINn_FUNC n] },
  { name := "GPC_STAT", first := 0x4001D020, stride := 0x1000, count := 1, stride2 := 0x1000, count2 := 1, owner := .p0, flds := fun _ _ => [GPC_STAT_REJ] },
  { name := "GPC_LEVEL", first := 0x4001D024, stride := 0x1000, count := 1, stride2 := 0x1000, count2 := 1, owner := .p0, flds := fun _ _ => [GPC_LEVEL_LEVEL] },
  { name := "GPC_PDIR", first := 0x4001D200, stride := 0x1000, count := 1, stride2 := 0x1000, count2 := 1, owner := .part, flds := fun _ _ => [GPC_PDIR_DIR] },
  { name := "GPC_POUT", first := 0x4001D204, stride := 0x1000, count := 1, stride2 := 0x1000, count2 := 1, owner := .part, flds := fun _ _ => [GPC_POUT_OUT] },
  { name := "GPC_PIN", first := 0x4001D208, stride := 0x1000, count := 1, stride2 := 0x1000, count2 := 1, owner := .part, flds := fun _ _ => [GPC_PIN_LEVEL] }]

/-- The registers of the GPC block (R7). -/
def tabGPC : List RegDesc := tabGPC0

/-- The registers of the block with this number: bits 19:12 of the address above 0x4000_0000 (R7). -/
def blockRegs : Nat → List RegDesc
  | 0 => tabSYS
  | 1 => tabPWR
  | 2 => tabCLK
  | 3 => tabTBS
  | 4 => tabSYNx
  | 5 => tabSYNx
  | 6 => tabSYNx ++ tabSYNT
  | 7 => tabRXx
  | 8 => tabRXx ++ tabRXB
  | 9 => tabCHB
  | 10 => tabTRL
  | 11 => tabTXM
  | 12 => tabPKT
  | 13 => tabAIR
  | 14 => tabASC
  | 15 => tabCOL
  | 16 => tabPRT
  | 17 => tabPEC
  | 18 => tabSAD
  | 19 => tabENG
  | 20 => tabSEC
  | 21 => tabKEY
  | 22 => tabCRC
  | 23 => tabHIF
  | 24 => tabUART
  | 25 => tabDBG
  | 26 => tabCAL
  | 27 => tabNVC
  | 28 => tabTMP
  | 29 => tabGPC
  | 30 => tabRET
  | _ => []

/-- Which register stands at a word address: its description and its two indices. -/
def findReg (addr : Nat) : Option (RegDesc × Nat × Nat) :=
  if addr < 0x40000000 then none
  else (blockRegs ((addr - 0x40000000) / 4096)).findSome? fun d => d.at? addr

end Sys2Proof.Machine
end

