-- ==== Sys2Proof/Machine/CalOps.lean ====
section
/-!
DEFINITION. The calibration record (R512, R513) and the computations of calibration: the die
temperature (R503), the XO trim (R507, R508), the PA drive levels (R510).
-/

namespace Sys2Proof.Machine

open Reg

/-! ## Rounding -/

/-- The nearest whole number; a half goes up (DEDUCED: the spec writes `round`). -/
def roundQ (q : Rat) : Int := (q + 1 / 2).floor

/-- A 16-bit field as a signed number. -/
def State.get16 (s : State) (F : Fld) : Int := sext 16 (s.get F)

/-! ## The record (R512) -/

/-- The word a register's fields hold. -/
def State.rawWord (s : State) (addr : Nat) : Nat :=
  match findReg addr with
  | some (d, i, j) => ((d.flds i j).map fun F => s.get F * 2 ^ F.lo).sum
  | none => 0

/-- Setting every field of a register from a word. -/
def State.putRaw (s : State) (addr w : Nat) : State :=
  match findReg addr with
  | some (d, i, j) => (d.flds i j).foldl (fun s F => s.set F (bits w F.lo F.w)) s
  | none => s

/-- The addresses of a chain's registers in the record, in its order. -/
def calChainRegs (x : Nat) : List Nat :=
  (List.range 3).map (fun n => (RXx_GSTEPn_STEP0 x n).addr) ++
  [(RXx_IQCORR_GAIN x).addr, (RXx_DCOFF_DCI x).addr, (RXx_ADCGAIN_GAIN x).addr] ++
  (List.range 4).map (fun n => (RXx_EQn_TAPEVEN x n).addr) ++ [(RXx_RSSIOFS_LOW x).addr]

/-- DRV of an entry of the PA gain table. -/
def paDrv (e : Nat) : Fld := if e % 2 = 0 then TXM_PAGAINn_DRV0 (e / 2) else TXM_PAGAINn_DRV1 (e / 2)

/-- DRVbase of an entry (R510): as the record holds it; before any record the field's reset value. -/
def State.drvBase (s : State) (e : Nat) : Nat := match Tab.get none s.cal.drvBase e with | some v => v | none => (paDrv e).rst

/-- A PA gain word with DRVbase in its DRV fields. -/
def State.paWord (s : State) (n : Nat) : Nat :=
  let w := s.rawWord (TXM_PAGAINn_DRV0 n).addr
  let f := fun (w e : Nat) => w - bits w (paDrv e).lo 8 * 2 ^ (paDrv e).lo + s.drvBase e % 256 * 2 ^ (paDrv e).lo
  f (f w (2 * n)) (2 * n + 1)

/-- The octets of a record with a generation count, check word last. -/
def State.calRecord (s : State) (gen : Nat) : List Byte :=
  let o := octets 4 0x43414C52 ++ octets 1 1 ++ octets 1 (s.get ASC_DGW_DGW) ++ octets 2 0 ++ octets 4 gen ++
    octets 2 (s.get CAL_PA_TPA) ++ octets 2 0 ++
    [0, 1].flatMap (fun x => (calChainRegs x).flatMap (fun a => octets 4 (s.rawWord a)) ++ octets 4 0) ++
    [0, 1, 2].flatMap (fun x => ((List.range 32).map fun r => BitVec.ofNat 8 (Tab.get 0 (s.synth x).coarse r % 128)) ++
      octets 2 (s.get (SYNx_KVCO_KVCO x)) ++ octets 2 (if x = 2 then s.get SYNT_TPM_TPMGAIN else 0) ++ octets 4 0) ++
    (List.range 40).flatMap (fun n => octets 4 (s.paWord n)) ++
    (List.range 8).flatMap (fun n => octets 4 (s.rawWord (TXM_RAMPn_A0 n).addr)) ++
    octets 2 (s.get CAL_PA_PASLOPE) ++ octets 2 0 ++ octets 4 (s.get CAL_XOC0_C0) ++ octets 2 (s.get CAL_XOC1_C1) ++
    octets 2 (s.get CAL_XOC1_C2) ++ octets 2 (s.get CAL_XOGAIN_GC) ++ octets 2 (s.get CAL_XOGAIN_GF) ++
    octets 2 (s.get CAL_TSENS_TSOFS) ++ octets 2 (s.get CAL_TSENS_TSSLOPE) ++ octets 4 (s.rawWord CAL_TRIG_DELTA_D0.addr) ++
    octets 1 (((List.range 4).map fun n => s.get (CAL_ITEMn_AUTO n) * 2 ^ n).sum) ++ octets 1 (s.get CAL_DEFER_MAXDEFER) ++ octets 2 0 ++
    (List.range 4).flatMap (fun n => octets 2 (s.get (CAL_ITEMn_LASTT n))) ++ List.replicate 48 0
  o ++ octets 4 (crc32 o)

/-- The address of a copy. -/
def calCopy (c : Nat) : Nat := 0x000C0000 + 0x2000 * c

/-- Whether a copy is valid (R513). -/
def State.calValid (s : State) (c : Nat) : Bool :=
  decide (s.num (calCopy c) 4 = 0x43414C52) && decide (s.num (calCopy c + 4) 1 = 1) &&
    decide (s.num (calCopy c + 508) 4 = crc32 (s.octs (calCopy c) 508))

/-- The copy loaded at boot (R513). -/
def State.calPick (s : State) : Option Nat :=
  match s.calValid 0, s.calValid 1 with
  | true, true => if s.num (calCopy 0 + 8) 4 < s.num (calCopy 1 + 8) 4 then some 1 else some 0
  | true, false => some 0
  | false, true => some 1
  | false, false => none

/-- Loading a copy into the registers (R512). -/
def State.calLoad (s : State) (c : Nat) : State :=
  let a := calCopy c
  let s := s.sets [(ASC_DGW_DGW, s.num (a + 5) 1), (CAL_PA_TPA, s.num (a + 12) 2), (CAL_STAT_RECCOPY, c), (CAL_STAT_NOREC, 0)]
  let s := [0, 1].foldl (fun s x =>
    ((calChainRegs x).zipIdx).foldl (fun s r => s.putRaw r.1 (s.num (a + 16 + 48 * x + 4 * r.2) 4)) s) s
  let s := [0, 1, 2].foldl (fun s x =>
    let b := a + 112 + 40 * x
    let t := (List.range 32).foldl (fun t r => Tab.set 0 t r (s.num (b + r) 1 % 128)) []
    let s := (s.updSynth x fun y => { y with coarse := t }).set (SYNx_KVCO_KVCO x) (s.num (b + 32) 2)
    if x = 2 then s.set SYNT_TPM_TPMGAIN (s.num (b + 34) 2) else s) s
  let s := s.each (List.range 40) fun s n => s.putRaw (TXM_PAGAINn_DRV0 n).addr (s.num (a + 232 + 4 * n) 4)
  let s := { s with cal := { s.cal with
    drvBase := (List.range 80).foldl (fun t e => Tab.set none t e (some (s.get (paDrv e)))) []
    gen := s.num (a + 8) 4 } }
  let s := s.each (List.range 8) fun s n => s.putRaw (TXM_RAMPn_A0 n).addr (s.num (a + 392 + 4 * n) 4)
  let s := s.sets [(CAL_PA_PASLOPE, s.num (a + 424) 2), (CAL_XOC0_C0, s.num (a + 428) 4), (CAL_XOC1_C1, s.num (a + 432) 2),
    (CAL_XOC1_C2, s.num (a + 434) 2), (CAL_XOGAIN_GC, s.num (a + 436) 2), (CAL_XOGAIN_GF, s.num (a + 438) 2),
    (CAL_TSENS_TSOFS, s.num (a + 440) 2), (CAL_TSENS_TSSLOPE, s.num (a + 442) 2)]
  let s := (s.putRaw CAL_TRIG_DELTA_D0.addr (s.num (a + 444) 4)).set CAL_DEFER_MAXDEFER (s.num (a + 449) 1)
  s.each (List.range 4) fun s n =>
    (s.set (CAL_ITEMn_AUTO n) (bits (s.num (a + 448) 1) n 1)).set (CAL_ITEMn_LASTT n) (s.num (a + 452 + 2 * n) 2)

/-- Writing a record into the other copy, with GEN one above the loaded one (R513); `ok`: it verifies. A
record that does not verify keeps a check word that is not known. -/
def State.calWrite (s : State) (ok : Bool) : State :=
  let c := if s.calPick.isNone then 0 else 1 - s.get CAL_STAT_RECCOPY
  let g := s.cal.gen + 1
  let s := { s with nvq := s.nvq.erase .calRecord, nvs := { s.nvs with writes := s.nvs.writes + 1 } }
  let s := s.store (calCopy c) (s.calRecord g)
  if ok then
    { s.sets [(CAL_STAT_RECCOPY, c), (CAL_STAT_RECERR, 0)] with cal := { s.cal with gen := g, dirty := false, failAt := none } }
  else
    let r := s.free 32
    let s := (r.2.putNum (calCopy c + 508) 4 r.1).set CAL_STAT_RECERR 1
    ({ s with cal := { s.cal with failAt := some s.tick } }).scree 26 0x0502 1 [0]

/-- A stored value has changed: a record at most once per 10 minutes (R513). -/
def State.calAsk (s : State) : State :=
  let ok := match s.cal.recAt with | some t => decide (t + 600000000 ≤ s.tick) | none => true
  if s.cal.dirty && ok && s.cal.failAt.isNone && !s.nvq.contains .calRecord then
    { s with nvq := s.nvq ++ [.calRecord], cal := { s.cal with recAt := some s.tick } }
  else s

/-! ## The XO trim (R507, R508) -/

/-- e(T) for a temperature in 0.25 °C, in ppb (R507). -/
def State.xoError (s : State) (tj : Int) : Rat :=
  let d : Rat := (tj : Rat) / 4 - 25
  (sext 32 (s.get CAL_XOC0_C0) : Rat) + (s.get16 CAL_XOC1_C1 : Rat) / 16 * d + (s.get16 CAL_XOC1_C2 : Rat) / 256 * d * d

/-- The COARSE and FINE that R508 chooses; a gain of 0 leaves the field the rule divides by it open. -/
def State.trimFor (s : State) (tj : Int) (c0 : Nat) : (Nat × Int) × State :=
  let c : Rat := -(s.xoError tj)
  let gc := s.get16 CAL_XOGAIN_GC
  let gf := s.get16 CAL_XOGAIN_GF
  let fine := fun (co : Int) => 512 + roundQ ((c - ((co - 8) * gc : Int)) * 16 / (gf : Rat))
  if gf = 0 then
    let r := s.free 10
    ((c0, (r.1 : Int)), r.2)
  else
    let f := fine c0
    if 0x040 ≤ f ∧ f ≤ 0x3C0 then ((c0, f), s)
    else if gc = 0 then
      let r := s.free 4
      ((r.1, fine r.1), r.2)
    else
      let co := 8 + roundQ (c / (gc : Rat))
      ((wrap 4 co, fine co), s)

/-- The trim computed at a sample (R508): the first of a BOOT whole, later ones in steps of at most 160 ppb. -/
def State.trimStep (s : State) (tj : Int) : State :=
  let p := match s.clk.trim with | some p => p | none => (s.get CLK_XOTRIM_COARSE, s.get CLK_XOTRIM_FINE)
  let r := s.trimFor tj p.1
  let co := r.1.1
  let s := r.2
  let gc := s.get16 CAL_XOGAIN_GC
  let gf := s.get16 CAL_XOGAIN_GF
  let dc : Int := ((co : Int) - p.1) * gc
  let d : Rat := (dc : Rat) + ((r.1.2 - p.2) * gf : Int) / 16
  let lim : Rat := if d < -160 then -160 else 160
  let fine : Int :=
    if s.cal.firstXo || (-160 ≤ d && d ≤ 160) || gf = 0 then r.1.2
    else
      let q : Rat := (lim - (dc : Rat)) * 16 / (gf : Rat)
      p.2 + (if q < 0 then -((-q).floor) else q.floor)
  { s with clk := { s.clk with trim := some (co, (max 0 (min 1023 fine)).toNat) }, cal := { s.cal with firstXo := false } }

/-! ## PA drive levels (R510) -/

/-- Every entry's DRV from its base at a temperature, clamped to 0–255. -/
def State.paCorrect (s : State) (tj : Int) : State :=
  let d := roundQ ((s.get16 CAL_PA_PASLOPE : Rat) * ((tj - s.get16 CAL_PA_TPA : Int) : Rat) / 4096)
  s.each (List.range 80) fun s e => s.set (paDrv e) (max 0 (min 255 ((s.drvBase e : Int) + d))).toNat

end Sys2Proof.Machine
end

