-- ==== Sys2Proof/Machine/TmpOps.lean ====
section
/-!
DEFINITION. Image slots (R346), the key records of SV (R384, R385, R525, R529), and the handover package
(R548 to R551): its octets, and what an import has written.
-/

namespace Sys2Proof.Machine

open Reg

/-! ## Image slots (R346) -/

/-- The number of a system image slot (kinds 0, 2, 3, 4). -/
def sysKey (kind i : Nat) : Nat := 2 * kind + i

/-- Where a system image slot lies in the eNVM: the supervisor areas; the P0 system area, whose layout
within the pool the spec does not give (DESIGN CHOICE: from the pool's start). -/
def sysBase (kind i : Nat) : Nat :=
  match kind with
  | 0 => 0x18000 * i
  | 2 => 0x30000 + 0x1000 * i
  | 3 => 0x32000 + 0x1000 * i
  | _ => 0x34000 + 0x2000 * i

/-- The size of a system image slot. -/
def sysSize (kind : Nat) : Nat := if kind = 0 then 0x18000 else if kind = 4 then 0x2000 else 0x1000

/-- A system image slot. -/
def State.sysSlot (s : State) (kind i : Nat) : ImgSlot :=
  { Tab.get {} s.sysImg (sysKey kind i) with base := sysBase kind i, size := sysSize kind }

/-- The slot `i` of an owner and kind. -/
def State.imgSlot (s : State) (p kind i : Nat) : ImgSlot := if kind = 1 then (s.part p).slot i else s.sysSlot kind i

/-- The state with a slot changed. -/
def State.putImg (s : State) (p kind i : Nat) (x : ImgSlot) : State :=
  if kind = 1 then s.updPart p fun P => P.putSlot i x
  else { s with sysImg := Tab.set {} s.sysImg (sysKey kind i) { x with base := 0, size := 0 } }

/-- The header fields of an image (R345). -/
def hdrOf (o : List Byte) : ImgHdr :=
  let f := fun a n => ofOctets ((o.drop a).take n)
  { kind := f 4 1, keepData := bit (f 6 1) 0, minGen := f 7 1, version := f 8 4, codeLen := f 12 4, dataLen := f 16 4,
    dataOfs := f 20 4, dataSize := f 24 4, entry := f 28 4 }

/-- The installer signing key (R525): SV's own records 32, 36 and 37 of the key store. DESIGN CHOICE of the records. -/
def State.signKey (s : State) : List Byte := s.octs (ksAddr 32) 24 ++ s.octs (ksAddr 36) 24 ++ s.octs (ksAddr 37) 16

/-! ## SV's records -/

/-- Whether an installer-key record is held. -/
def State.hasInstaller (s : State) : Bool := s.ksKind 0 ≠ 0
/-- Storing the installer key, wrapped under the DUK's key (R384). -/
def State.putInstaller (s : State) (k : List Byte) : State := s.ksPut 0 1 0 0 0 (Config.keyWrap Config.svRecordKey k)
/-- Storing the installer signing key. -/
def State.putSign (s : State) (k : List Byte) : State :=
  ((s.ksPut 32 6 0 0 0 (k.take 24)).ksPut 36 6 0 0 0 ((k.drop 24).take 24)).ksPut 37 6 0 0 0 (k.drop 48)
/-- AUTHCTR as SV's record 35 holds it. DESIGN CHOICE of the record. -/
def State.authCtr (s : State) : Nat := s.num (ksAddr 35) 4
/-- Storing AUTHCTR, which TMP_AUTHCTR shows (R529). -/
def State.putAuthCtr (s : State) (n : Nat) : State := (s.ksPut 35 6 0 0 0 (octets 4 n)).set TMP_AUTHCTR_CTR n

/-- DEVPUB (R526). -/
def devPub : List Byte := (List.range 64).map Config.devPub

/-! ## The package (R548) -/

/-- The settings a TYPE 6 section carries. -/
structure Settings where
  reg   : Option RegProf := none
  sums  : Tab Nat := []
  plan  : Option Plan := none
  regs  : Tab Nat := []
  duals : Tab (Option NvDual) := []
  deriving DecidableEq, Repr, Inhabited

/-- The octets of a TYPE 6 section: their layout is not given. -/
opaque settingsPut : Settings → List Byte
/-- The settings that octets of a TYPE 6 section spell. -/
opaque settingsGet : List Byte → Settings

/-- The octets of a descriptor (R265). -/
def Desc.octets (d : Desc) : List Byte :=
  Sys2Proof.octets 1 d.pnum ++ Sys2Proof.octets 1 (d.ls.toNat + 2 * d.port + 4 * d.transp.toNat) ++ Sys2Proof.octets 1 d.nids.length ++ Sys2Proof.octets 1 0 ++
    ((List.range 4).flatMap fun i => Sys2Proof.octets 2 (d.nids.getD i 0)) ++ Sys2Proof.octets 2 d.codeG ++ Sys2Proof.octets 2 d.dataG ++
    Sys2Proof.octets 2 d.pktFlr ++ Sys2Proof.octets 2 d.assocQ ++ Sys2Proof.octets 1 d.kslotQ ++ Sys2Proof.octets 1 d.crcQ ++
    Sys2Proof.octets 1 d.txQ ++ Sys2Proof.octets 1 0 ++ (d.ownKey ++ List.replicate 24 0).take 24 ++ (d.signId ++ List.replicate 16 0).take 16

/-- A section. -/
def pkgSec (t : Nat) (b : List Byte) : List Byte := octets 4 t ++ octets 4 b.length ++ b

/-- The transport key KT: of a shared secret, the exporter's DEVPUB and SPUB. -/
def transportKey (z dev spub : List Byte) : List Byte := (Config.sha256 (z ++ dev ++ spub)).take 16

/-- A number's 16 octets, most significant first. -/
def be16 (n : Nat) : List Byte := (octets 16 n).reverse

/-- AES-CTR of octets that lie from an offset of the package on. -/
def pkgCrypt (k : List Byte) (ofs : Nat) (l : List Byte) : List Byte :=
  l.zipIdx.map fun e =>
    let a := ofs + e.2
    e.1 ^^^ (Config.aesBlock k (be16 (a / 16 * 16))).getD (a % 16) 0

/-- The image slots a package carries: owner, kind, slot. -/
def State.pkgSlots (s : State) : List (Nat × Nat × Nat) :=
  let ok := fun (x : ImgSlot) => x.st = .active || x.st = .imageB || x.st = .verified
  (s.live.flatMap fun p => ([0, 1].filter fun i => ok ((s.part p).slot i)).map fun i => (p, 1, i)) ++
    ([2, 3, 4].flatMap fun k => ([0, 1].filter fun i => ok (s.sysSlot k i)).map fun i => (0, k, i))

/-- Octets of an image: header, body, PUBKEY, SIG. -/
def State.imgOcts (s : State) (base : Nat) (h : ImgHdr) : List Byte := s.octs base (64 + h.codeLen + h.dataLen + 128)

/-- A TYPE 5 section: owner, kind, slot and state, then the image. DESIGN CHOICE of these four octets. -/
def State.pkgImage (s : State) (e : Nat × Nat × Nat) : List Byte :=
  let x := s.imgSlot e.1 e.2.1 e.2.2
  pkgSec 5 (octets 1 e.1 ++ octets 1 e.2.1 ++ octets 1 e.2.2 ++ octets 1 x.st.num ++ s.imgOcts x.base x.hdr)

/-- An entry of a TYPE 4 section: local index and partition, then the entry with its counters raised. DESIGN CHOICE of
the order. -/
def State.pkgEntry (s : State) (p li : Nat) : List Byte :=
  let ph := s.entOf p li
  let up := fun o => octets 4 (min (s.ent ph o 4 + 4096) 0xFFFFFFFF)
  octets 2 li ++ octets 2 p ++ s.octs (ntFirst + 64 * ph) 52 ++ up 52 ++ up 56 ++ s.octs (ntFirst + 64 * ph + 60) 4

/-- The settings of P0, AIR, ASC, SAD, PEC and TXM with the profile, the sums and the plan. -/
def State.pkgSettings (s : State) (sums : Tab Nat) (duals : Tab (Option NvDual)) : Settings :=
  { reg := s.air.prof, sums := sums, plan := s.chb.active, duals := duals
    regs := s.regs.filter fun e => [11, 13, 14, 17, 18].contains ((e.1 / 32 % 0x100000000 - 0x40000000) / 4096) }

/-! ## Reading a package -/

/-- The whole sections of octets: type and body. -/
def pkgParse (o : List Byte) : Nat → List (Nat × List Byte)
  | 0 => []
  | n + 1 =>
    let t := ofOctets (o.take 4)
    let len := ofOctets ((o.drop 4).take 4)
    if o.length < 8 + len then [] else (t, (o.drop 8).take len) :: pkgParse (o.drop (8 + len)) n

/-- The sections of a decrypted package. -/
def pkgSections (o : List Byte) : List (Nat × List Byte) := pkgParse (o.drop 128) (ofOctets ((o.drop 112).take 4))

/-- The image slots an import has written. -/
def importSlots (o : List Byte) : List (Nat × Nat × Nat) :=
  (pkgSections o).filterMap fun e =>
    if e.1 = 5 then some (ofOctets (e.2.take 1), ofOctets ((e.2.drop 1).take 1), ofOctets ((e.2.drop 2).take 1) % 2) else none

/-- A slot wiped. -/
def State.wipeImg (s : State) (e : Nat × Nat × Nat) : State :=
  let x := s.imgSlot e.1 e.2.1 e.2.2
  (s.zero x.base x.size).putImg e.1 e.2.1 e.2.2 { base := x.base, size := x.size }

/-- Zeroing the key records of an estate, the checkpoint, and the regulatory and configuration area but for the
generation octet (R531, R551, R581). -/
def State.estateWipe (s : State) : State :=
  let s := (s.zero (ksAddr 0) (32 * 32)).zero (ksAddr ksTable) (32 * 976)
  let s := s.zero ckFirst (64 * 1536)
  { s with nv := { gen := s.nv.gen }, p0new := none, key := { s.key with noted := [] } }

/-- Everything an import has written is wiped (R551). -/
def State.importWipe (s : State) (o : List Byte) : State := ((importSlots o).foldl State.wipeImg s).estateWipe

end Sys2Proof.Machine
end

