-- ==== Sys2Proof/Machine/PwrOps.lean ====
section
/-!
DEFINITION. Shared operations of modes and tamper: the boot record (R532), LOCKDOWN (R543), tamper sources (R539, R540) and the device reset (R538).
-/

namespace Sys2Proof.Machine

open Reg

/-! ## Registers by key -/

/-- The field a key of the register store belongs to. -/
def keyFld (k : Nat) : Option Fld :=
  match findReg (k / 32 % 0x100000000) with
  | some (d, i, j) => (d.flds i j).find? fun F => F.lo = k % 32
  | none => none

/-- The number of the block a key lies in. -/
def keyBlock (k : Nat) : Nat := (k / 32 % 0x100000000 - 0x40000000) / 4096

/-- The blocks of the AO domain (R485). -/
def aoBlock (b : Nat) : Bool := [1, 2, 3, 15, 28, 30].contains b

/-- A field of the AO domain that is no PART register (R485). -/
def aoKey (k : Nat) : Bool := aoBlock (keyBlock k) && (match keyFld k with | some F => !F.part | none => true)

/-- Whether a field may be written at all: RW or RWL. -/
def rwKey (k : Nat) : Bool := match keyFld k with | some F => F.acc = .rw || F.acc = .rwl | none => false

/-- The counters kept since POR. -/
def sincePor : List Nat :=
  [CLK_STAT_LOSSCNT, TBS_PSACC_ACC, SYNx_STAT_LOSSCNT 0, SYNx_STAT_LOSSCNT 1, SYNx_STAT_LOSSCNT 2, ENG_SFAULT_COUNT,
    SEC_TRNGSTAT_RCTFAIL, SEC_TRNGSTAT_APTFAIL].map Fld.key

/-- The fields on the retention list (R496): those of the blocks that power down, PART banks left out. DEDUCED:
R496's counts are those of whole blocks; what they leave out of a block is what its other state gives again. -/
def retainKey (k : Nat) : Bool := !aoBlock (keyBlock k) && (match keyFld k with | some F => !F.part | none => false)

/-- The state with the registers whose keys satisfy a test; the others take their reset values. -/
def State.keepRegs (s : State) (f : Nat → Bool) : State := { s with regs := s.regs.filter fun e => f e.1 }

/-- Putting back saved registers. -/
def State.putRegs (s : State) (l : Tab Nat) : State :=
  l.foldl (fun s e => match keyFld e.1 with
    | some F => { s with regs := Tab.set F.rst s.regs e.1 e.2 }
    | none => s) s

/-! ## The GP pins (R596, R597) -/

/-- Whether an EXTPA pin follows its sequencer output (R597): a transmit interval in progress, no forced ramp-down begun. -/
def State.extPa (s : State) : Bool := match s.txAir with | some t => t.out.isNone | none => false

/-- The level GPC drives a GP pin to: none where the pin is an input, or released by open drain. -/
def State.gpcDrive (s : State) (n : Nat) : Option Bool :=
  let o := s.get (GPC_PINn_OWNER n)
  let inv := s.flag (GPC_PINn_INV n)
  let out := (s.seqr (s.get (GPC_PINn_SEQ n))).outs.testBit (s.get (GPC_PINn_SEL n))
  let v : Option Bool :=
    match s.get (GPC_PINn_FUNC n) with
    | 0 => if s.flag (GPC_PINn_OWNED n) && (s.get (GPC_PDIR_DIR.at o)).testBit n then some ((s.get (GPC_POUT_OUT.at o)).testBit n) else none
    | 1 => some (s.tbs.tickOut != inv)
    | 2 => some (out != inv)
    | 3 => some ((out && s.extPa && !s.pwr.lockdown) != inv)
    | _ => some (decide (s.tbs.now < Tab.get 0 s.evOut n) != inv)
  if s.flag (GPC_PINn_OD n) && v = some true then none else v

/-- The level a GP pin is driven to: while it is latched, the level at entry (R499). -/
def State.gpDrive (s : State) (n : Nat) : Option Bool :=
  if s.ret.pads.contains n then s.ret.padDrv.getD n none else s.gpcDrive n

/-! ## The boot record (R532) -/

/-- The boot record. -/
structure BootRec where
  active    : Nat := 0
  confirmed : Bool := true
  ldSticky  : Bool := false
  importing : Bool := false
  lc        : Nat := 0
  ldCause   : Nat := 0
  svFloor   : Nat := 0
  gen       : Nat := 0
  deriving DecidableEq, Repr

/-- The key-store record of a copy: REF 1 and REF 2. -/
def bootAt (c : Nat) : Nat := 33 + c

/-- Whether a copy is valid. -/
def State.bootValid (s : State) (c : Nat) : Bool :=
  decide (s.ksKind (bootAt c) = 6) && decide (s.ksRef (bootAt c) = c + 1) &&
    decide (s.octs (ksAddr (bootAt c) + 16) 8 = (Config.cmac Config.sealKey (s.octs (ksAddr (bootAt c)) 16)).take 8)

/-- The fields of a copy. -/
def State.bootRead (s : State) (c : Nat) : BootRec :=
  let a := ksAddr (bootAt c)
  let o := s.num a 1
  { active := bits o 0 1, confirmed := bit o 1, ldSticky := bit o 2, importing := bit o 3, lc := bits o 4 2,
    ldCause := s.num (a + 1) 1, svFloor := s.num (a + 4) 4, gen := s.num (a + 8) 4 }

/-- The copy used: the valid one with the larger GEN. -/
def State.bootCopy (s : State) : Option Nat :=
  match s.bootValid 0, s.bootValid 1 with
  | true, true => some (if (s.bootRead 0).gen < (s.bootRead 1).gen then 1 else 0)
  | true, false => some 0
  | false, true => some 1
  | false, false => none

/-- The boot record in use; the factory state where no copy is valid. -/
def State.bootRec (s : State) : BootRec := match s.bootCopy with | some c => s.bootRead c | none => {}

/-- The octets of a record before its tag. -/
def BootRec.octets (r : BootRec) : List Byte :=
  Sys2Proof.octets 1 (r.active % 2 + 2 * r.confirmed.toNat + 4 * r.ldSticky.toNat + 8 * r.importing.toNat + 16 * (r.lc % 4)) ++
    Sys2Proof.octets 1 r.ldCause ++ Sys2Proof.octets 2 0 ++ Sys2Proof.octets 4 r.svFloor ++ Sys2Proof.octets 4 r.gen ++ Sys2Proof.octets 4 0

/-- Updating the boot record: the other copy is written, with the next GEN. -/
def State.bootPut (s : State) (f : BootRec → BootRec) : State :=
  let r := f s.bootRec
  let r := { r with gen := s.bootRec.gen + 1 }
  let c := match s.bootCopy with | some c => 1 - c | none => 0
  s.ksPut (bootAt c) 6 0 (c + 1) 0 (r.octets ++ (Config.cmac Config.sealKey r.octets).take 8)

/-! ## Work that ends with a code -/

/-- Ending the outstanding tickets of some services under a code; transmit tickets end with their frames. -/
def State.endTickets (s : State) (f : Nat → Bool) (c : Code) : State :=
  s.each allParts fun s p =>
    ((s.part p).tickets.filter fun t => t.status.isNone && t.service ≠ 0 && f t.service).foldl (fun s t => s.ticketDone p t.num c.num []) s

/-- Ending the host messages being executed under a code. -/
def State.endBusy (s : State) (f : Nat → Bool) (c : Code) : State :=
  s.each s.live fun s p =>
    match (s.mb p).inq with
    | m :: _ => if (s.mb p).busy && f m.typ then s.answer p c [] else s
    | [] => s

/-- The services that use keys (R395). -/
def keyService (n : Nat) : Bool := 5 ≤ n && n ≤ 7
/-- The messages that use keys. -/
def keyMessage (n : Nat) : Bool := n = 0x38 || n = 0x39 || n = 0x51

/-- Ending every frame that waits for transmission under a code, and the one on air. -/
def State.endTxs (s : State) (c : Code) (cut : Bool) : State :=
  let s := s.txAbort c cut
  (s.txs.filter fun t => t.stage ≠ .onAir).foldl (fun s t =>
    let s := if t.stage = .bound then s.unbind else s
    if t.stage = .acked then s.txDel t.id else s.txUnsent t c) s

/-- Wiping every frame being received or in quarantine (R25). -/
def State.wipeRx (s : State) : State := (s.rx.map Prod.fst).foldl (fun s fid => s.endFrame fid) s

/-- Discarding every pending group entry; what they reserved returns. -/
def State.wipeGroups (s : State) : State :=
  let gone := s.air.gents
  let s := { s with air := { s.air with gents := [] } }
  s.each allParts (fun s p => s.set (AIR_PACK_GPEND.at p) 0) |> fun s => gone.foldl (fun s g => s.refund g.p g.air) s

/-- The Col key store (R472): where it lies in Cairn (R495). -/
def colKeyStore : Nat := 0x38003800

/-- Zeroing every key slot and the Col key store (R395, R543). -/
def State.zeroKeys (s : State) : State := (s.zeroSlots fun _ => true).zero colKeyStore 1024

/-- Stopping a context's engine turn: the MAC engines, the sequencers and CE run nothing (R468). -/
def State.stopEngines (s : State) : State :=
  { s with
    eng := []
    progs := s.progs.map fun e => if e.1 = 32 then e else (e.1, e.2.stop) }

/-! ## LOCKDOWN (R543, R544) -/

/-- The domains that are on in every run mode (R483, R484): AO, ENG, HIF and MEM0 to MEM4. -/
def domRun : Nat := 0x7D03

/-- Discarding a package operation: an export is discarded, an import wiped (R549, R551, R553). -/
def State.pkgDrop (s : State) : State :=
  let s := if s.tmp.pkg.kind = some .importing then (s.importWipe s.tmp.pkg.octs).bootPut fun r => { r with importing := false } else s
  let s := { s with tmp := { s.tmp with pkg := {} } }
  s.sets [(TMP_LCSTAT_EXPORT, 0), (TMP_PKGSTAT_BUSY, 0), (TMP_PKGSTAT_READY, 0), (TMP_PKGSTAT_LAST, 0)]

/-- Entry to LOCKDOWN with a cause (R543); `sticky`: recorded in the boot record. -/
def State.lockdownIn (s : State) (cause : Nat) : State :=
  if s.pwr.lockdown then s
  else
    let s := (s.zeroKeys.endTickets keyService .abortedTamper).endBusy keyMessage .abortedTamper
    let s := (s.endTxs .abortedTamper true).wipeRx.wipeGroups
    let s := [0, 1, 2, 3].foldl (fun s i => s.calAbandon i) s
    let s := (s.testStop .abortedTamper).dbgClose
    let s := if s.tmp.pkg.kind.isSome then s.pkgDrop else s
    let s := s.stopEngines
    let s := if s.pwr.entry.isSome then s.sets [(RET_IMG_VALID, 0), (RET_DOMSTAT_ON, domRun)] else s
    let s := { s with pwr := { s.pwr with
      lockdown := true, entry := none, sleep := none, waking := false, calib := false, idle := false, boot := false } }
    let s := s.loseSlots CHB_LOSTB_OTHER allSlots
    let s := (s.vcoreTo vRun).scree 28 0x0311 2 [BitVec.ofNat 8 cause]
    let s := (s.raise 0 .tamper).raiseAll .mode
    let s := s.sets [(TMP_LCSTAT_LD, 1), (TMP_LCSTAT_LDCAUSE, cause)]
    if s.flag TMP_CTL_STICKY || cause = 4 then
      (s.bootPut fun r => { r with ldSticky := true, ldCause := cause }).set TMP_LCSTAT_STICKYLD 1
    else s

/-! ## The device reset (R538) -/

/-- Whether the timebase goes on through a reset (R39). -/
def RstCause.keepsTime : RstCause → Bool
  | .watchdog | .tamper | .debug => true
  | .por | .resetn | .brownout => false

/-- Whether the buckets start empty after a reset (R283). -/
def RstCause.empties : RstCause → Bool
  | .por | .brownout => true
  | .resetn | .watchdog | .tamper | .debug => false

/-- What of a partition's record is held in the eNVM, with its bucket level where that is kept. -/
def Part.kept (P : Part) (level : Bool) : Part :=
  { slot0 := { P.slot0 with verify := false }, slot1 := { P.slot1 with verify := false }, erase := P.erase,
    level := if level then P.level else 0 }

/-- What of memory outlives a reset: the eNVM, and Cairn but for the Col key store (R538). -/
def memKept (cairn : Bool) (a : Nat) : Bool :=
  decide (a < 0x100000) || (cairn && decide (0x38000000 ≤ a ∧ a < 0x38010000 ∧ ¬(colKeyStore ≤ a ∧ a < colKeyStore + 1024)))

/-- The Scree entries that wait, written out. -/
def State.flushScree (s : State) : State :=
  (s.nvq.filter fun q => q.rank = 3).foldl (fun s q => (s.nvDrop q).nvDo q) s

/-- The external state that no reset of the device changes: the supply in use (R194). -/
def outerKeys : List Nat := [TXM_STAT_SUPPLY].map Fld.key

/-- Every RWL field and RW field at its reset value, TMP kept but for TMP_SRC, the counters kept since POR (R538). -/
def resetKey (por : Bool) (k : Nat) : Bool :=
  outerKeys.contains k ||
    (!por && (sincePor.contains k || (keyBlock k = 28 && k / 32 % 0x100000000 ≠ TMP_SRC_FIRED.addr) || k = TBS_STAT_DISCONT.key))

/-- An import leaves what it has written, until the boot wipes it (R551). -/
def PkgSt.left (k : PkgSt) : PkgSt := if k.kind = some .importing then k else {}

/-- A device reset of any cause (R538): every engine and block stops, and BOOT begins, at once or at RESET_RELEASE. -/
def State.deviceReset (s : State) (c : RstCause) : State :=
  let s := if c.keepsTime then s.flushScree else s
  let lost := s.live.filter fun p => !(s.volatile p).isEmpty
  let por := decide (c = .por)
  let n := if por then 0 else s.get TMP_RSTCAUSE_COUNT + 1
  let old := s
  let s : State := {
    regs := s.regs.filter fun e => resetKey por e.1
    mem := s.mem.filter fun e => memKept (!por) e.1
    fresh := s.fresh
    drbg := s.drbg
    clk := { xo := if c.keepsTime then .run else .stopped }
    tbs := if c.keepsTime then { now := s.tbs.now, refill := s.tbs.refill } else {}
    parts := Tab.norm {} (s.parts.map fun e => (e.1, e.2.kept (!c.empties)))
    sysImg := Tab.norm {} (s.sysImg.map fun e => (e.1, { e.2 with verify := false }))
    pwr := { held := !c.keepsTime, lostVol := lost, vddio := s.pwr.vddio, svDog := s.tick }
    p0new := s.p0new
    nv := s.nv
    nvs := { writes := s.nvs.writes, repair := s.nvs.repair }
    scrSeq := s.scrSeq
    tmp := if por then { pkg := s.tmp.pkg.left } else { s.tmp with pkg := s.tmp.pkg.left, loopBad := 0, tempBad := 0 }
    pending := s.pending }
  let s := s.sets [(TMP_RSTCAUSE_CAUSE, c.num), (TMP_RSTCAUSE_COUNT, min n 65535), (TMP_LCSTAT_LD, 0), (TMP_LCSTAT_EXPORT, 0),
    (TMP_LCSTAT_RECOVERY, 0), (RET_IMG_VALID, 0), (TMP_PKGSTAT_BUSY, 0), (TMP_PKGSTAT_READY, 0), (TMP_PKGSTAT_LAST, 0)]
  let s := if c.keepsTime then s.sets [(CLK_STAT_XORUN, 1), (CLK_CTL_PLLEN, 1), (CLK_STAT_PLLLOCK, 1)]
    else s.set TBS_STAT_DISCONT 1
  { s with pending := old.pending }

/-! ## Tamper (R539 to R542) -/

/-- The policy of a source: 0 LOOP, 1 GLITCH, 2 CLOCK, 3 TEMP, 4 AUTHF. -/
def State.policy (s : State) (src : Nat) : Nat :=
  match src with
  | 0 => s.get TMP_POLICY_LOOP | 1 => s.get TMP_POLICY_GLITCH | 2 => s.get TMP_POLICY_CLOCK
  | 3 => s.get TMP_POLICY_TEMP | _ => s.get TMP_POLICY_AUTHF

/-- Whether a source is watched now (R539). -/
def State.watched (s : State) (src : Nat) : Bool :=
  s.policy src ≠ 0 && s.pwr.sleep ≠ some .off && !s.pwr.held && (!s.pwr.boot || s.clk.xo = .run) &&
    (src < 2 || src = 3 || s.pwr.sleep.isNone)

/-- TMP_SRC.ACTIVE of a source. -/
def State.srcActive (s : State) (src : Nat) (on : Bool) : State :=
  let a := s.get TMP_SRC_ACTIVE
  s.set TMP_SRC_ACTIVE (if on then a ||| 2 ^ src else if a.testBit src then a - 2 ^ src else a)

/-- The policy's response (R540). -/
def State.respondTamper (s : State) (src : Nat) : State :=
  let pol := s.policy src
  let s := (s.scree 28 0x0310 2 [BitVec.ofNat 8 src, BitVec.ofNat 8 s.mode, BitVec.ofNat 8 pol]).raise 0 .tamper
  if s.pwr.lockdown then s
  else if pol = 2 then s.deviceReset .tamper
  else if pol = 3 then s.lockdownIn 1
  else s

/-- A source fires (R539, R542); `pre`: in BOOT, before the key hierarchy is unlocked. -/
def State.tamperFire (s : State) (src : Nat) (pre : Bool) : State :=
  if !s.watched src then s
  else
    let s := s.set TMP_SRC_FIRED (s.get TMP_SRC_FIRED ||| 2 ^ src)
    match s.pwr.sleep with
    | some m =>
      let s := { s with pwr := { s.pwr with tampers := if s.pwr.tampers.contains src then s.pwr.tampers else s.pwr.tampers ++ [src] } }
      let s := if m = .deep then { s with pwr := { s.pwr with fired := true } } else s
      s.wakeFire 0
    | none =>
      if s.pwr.boot && (pre || s.flag TMP_LCSTAT_RECOVERY) then
        { s.scree 33 0x0310 2 [BitVec.ofNat 8 src, 0, BitVec.ofNat 8 (s.policy src)] with pwr := { s.pwr with fired := true } }
      else s.respondTamper src

/-- A failure that counts towards AUTHF: the fourth within 60 s fires it (R539, R546). -/
def State.authFail (s : State) : State :=
  let l := (s.tmp.fails.filter fun t => decide (s.tick < t + 60000000)) ++ [s.tick]
  if 4 ≤ l.length then ({ s with tmp := { s.tmp with fails := [] } }).tamperFire 4 true
  else { s with tmp := { s.tmp with fails := l } }

end Sys2Proof.Machine
end

