-- ==== Sys2Proof/Machine/Cal.lean ====
section
/-!
DEFINITION. Calibration (spec/19, R502 to R513): temperature samples, items and their runs, the record.
The values a step measures are operands of the command that ends it.
-/

namespace Sys2Proof.Machine

open Reg

/-! ## Items (R502, R504) -/

/-- DELTA of an item, in °C. -/
def calDelta : Nat → Fld
  | 0 => CAL_TRIG_DELTA_D0 | 1 => CAL_TRIG_DELTA_D1 | 2 => CAL_TRIG_DELTA_D2 | _ => CAL_TRIG_DELTA_D3

/-- An item becomes due (R504). -/
def State.calDue (s : State) (i : Nat) (byRun : Bool) : State :=
  let s := if byRun && !s.cal.byRun.contains i then { s with cal := { s.cal with byRun := s.cal.byRun ++ [i] } } else s
  if s.flag (CAL_ITEMn_PEND i) then s
  else { s.set (CAL_ITEMn_PEND i) 1 with cal := { s.cal with dueAt := Tab.set 0 s.cal.dueAt i s.tick } }

/-- An OUT chain's item is not run automatically (R506). -/
def State.calBarred (s : State) (i : Nat) : Bool := decide (i < 2) && decide (s.svc i = 2) && !s.cal.byRun.contains i

/-- The item that runs next: the lowest-numbered due one (R504). -/
def State.calNext (s : State) : Option Nat :=
  if !s.flag CAL_CTL_EN || s.cal.run.isSome then none
  else [0, 1, 2, 3].find? fun i => s.flag (CAL_ITEMn_PEND i) && !s.calBarred i

/-- An item's run has ended: LASTT, PEND and DEFER (R504), and a record where a stored value differs (R513). -/
def State.calEnded (s : State) (i temp : Nat) : State :=
  let s := s.sets [(CAL_ITEMn_LASTT i, temp), (CAL_ITEMn_PEND i, 0), (CAL_ITEMn_DEFER i, 0), (CAL_STAT_RUN, 0), (CAL_STAT_STEP, 0)]
  let changed := s.flag CAL_STAT_NOREC || decide (s.calRecord s.cal.gen ≠ s.octs (calCopy (s.get CAL_STAT_RECCOPY)) 512)
  { s with cal := { s.cal with run := none, step := none, byRun := s.cal.byRun.filter (· ≠ i), dirty := s.cal.dirty || changed } }.calAsk

/-- Item 3 runs when its turn comes: no step, nothing blanked (R510). -/
def State.calPa (s : State) : State :=
  if s.calNext = some 3 then (s.paCorrect (s.get16 CAL_TEMP_TJ)).calEnded 3 (s.get CAL_TEMP_TJ) else s

/-! ## Temperature (R503) -/

/-- A temperature sample of the sensor: Tj in CAL_TEMP and the XO trim (R503, R508). -/
def State.tempRead (s : State) (raw : Nat) : Int × State :=
  let tj : Int := s.get16 CAL_TSENS_TSOFS + roundQ ((4 * s.get CAL_TSENS_TSSLOPE * raw : Nat) / 65536)
  let s := s.set CAL_TEMP_TJ (wrap 16 tj)
  (tj, if s.flag CAL_CTL_EN then s.trimStep tj else s)

/-- The tamper source TEMP at a sample (R539). -/
def State.tempWatch (s : State) (tj : Int) : State :=
  let bad := decide (tj < -180 ∨ 460 < tj)
  let n := if bad then min 4 (s.tmp.tempBad + 1) else 0
  let s := { s with tmp := { s.tmp with tempBad := n } }
  let s := s.srcActive 3 (3 ≤ n)
  if n = 3 then s.tamperFire 3 false else s

/-- TEMPERATURE_SAMPLE (R503, R504, R508, R539): not in BOOT, LOCKDOWN, DEEP SLEEP or OFF. -/
def execTemperatureSample (raw : BitVec 12) (s : State) : Host.Outcome State Fault Refusal :=
  .next (if s.pwr.boot || s.pwr.lockdown || s.pwr.held || s.pwr.sleep = some .deep || s.pwr.sleep = some .off then s
  else
    let r := s.tempRead raw.toNat
    let s := r.2
    let s := if s.pwr.sleep.isSome then s
      else
        let s := s.each [0, 1, 2, 3] fun s i =>
          if s.flag (CAL_ITEMn_AUTO i) && decide (4 * (s.get (calDelta i)) < (r.1 - s.get16 (CAL_ITEMn_LASTT i)).natAbs) then s.calDue i false else s
        s.calPa.calAsk
    s.tempWatch r.1)

/-! ## Steps (R502, R505, R506) -/

/-- When a step of any item may start (R505): 350 µs before every fixed start, no transmit interval running. -/
def State.calRoom (s : State) : Bool :=
  !s.flag TXM_STAT_ACTIVE &&
    !(s.txs.any fun t => t.fixed && decide (t.t0 ≤ s.tbs.now + 350 * 64) && (t.stage = .fixed || t.stage = .atRsa || t.stage = .bound))

/-- Whether a slot is in SYNC or FRAME (R106). -/
def State.slotUsed (s : State) (k : Nat) : Bool := s.slotState s.txBlank k = 2 || s.slotState s.txBlank k = 3

/-- Whether step 1 of an item may start now, R505 apart (R506, R67). -/
def State.calMay (s : State) (i : Nat) : Bool :=
  if i = 2 then s.calStepOk 200
  else if s.svc i = 2 || s.svc i = 3 then true
  else if s.combined then s.svc (1 - i) = 0 && !s.chainOff (1 - i)
  else !((s.chainSlots i).any s.slotUsed)

/-- Entering a step of the run: SYNT leaves its target (R66), a chain's item works on its test tone. -/
def State.calStep (s : State) (r : CalRun) : State :=
  let st : CalStep := { item := r.item, forced := r.forced, chain := if r.item < 2 then some r.item else none }
  let s := { s with cal := { s.cal with run := some r, step := some st } }
  let s := s.sets [(CAL_STAT_RUN, 1), (CAL_STAT_ITEM, r.item), (CAL_STAT_STEP, r.done + 1), (CAL_ITEMn_DEFER r.item, 0)]
  if r.item = 2 then
    (s.updSynth 2 fun y => { y with ph := .calStep }).sets [(SYNx_STAT_LOCK 2, 0), (SYNx_STAT_SETTLING 2, 0), (SYNx_STAT_CALBUSY 2, 1)]
  else s

/-- Starting an item's run with its first step: a chain item blanks its chain's slots (R502, R107). -/
def State.calBegin (s : State) (i : Nat) (forced : Bool) : State :=
  let s := if i < 2 then
      let s := s.updChain i fun c => { c with blCal := true }
      let s := if s.combined then s else s.loseSlots CHB_LOSTB_OTHER (s.chainSlots i)
      s.rxStat i
    else s
  s.calStep { item := i, temp := s.get CAL_TEMP_TJ, regs := if i = 2 then s.cal.regions else [], forced := forced }

/-- CAL_STEP_START (R504 to R506). -/
def execCalStepStart (s : State) : Host.Outcome State Fault Refusal :=
  .next (if s.svHalted then s else if s.radioOff || s.pwr.entry.isSome || s.cal.step.isSome then s
  else match s.cal.run with
  | some r => if s.flag CAL_CTL_EN && s.calRoom && (r.item ≠ 2 || s.calStepOk 200) then s.calStep r else s
  | none =>
    match s.calNext with
    | none => s
    | some i =>
      if i = 3 then s.calPa
      else if s.calMay i then (if s.calRoom then s.calBegin i false else s)
      else if i < 2 && !s.combined then s.set (CAL_ITEMn_DEFER i) 1
      else s)

/-- Setting a synthesiser's coarse code of the region that holds a frequency. -/
def State.putCoarse (s : State) (x r c : Nat) : State := s.updSynth x fun y => { y with coarse := Tab.set 0 y.coarse r (c % 128) }

/-- What the n-th step of a chain item measures (R502). -/
def State.chainStep (s : State) (x n : Nat) (v : List Nat) : State :=
  let a := fun i => v.getD i 0
  match n with
  | 1 => ((s.putCoarse x (coarseRegion (s.planFreq x)) (a 0)).putCoarse x (coarseRegion (s.get (RXx_FBFREQ_FREQ x))) (a 1)).set (SYNx_KVCO_KVCO x) (a 2)
  | 2 => s.sets [(RXx_DCOFF_DCI x, a 0), (RXx_DCOFF_DCQ x, a 1)]
  | 3 => s.sets [(RXx_IQCORR_GAIN x, a 0), (RXx_IQCORR_PHASE x, a 1)]
  | 7 => s.set (RXx_ADCGAIN_GAIN x) (a 0)
  | 8 => s.each (List.range 4) fun s n => s.sets [(RXx_EQn_TAPEVEN x n, a (2 * n)), (RXx_EQn_TAPODD x n, a (2 * n + 1))]
  | 9 => s.sets [(RXx_RSSIOFS_LOW x, s.get (RXx_RSSIOFS_LOW x) + a 0), (RXx_RSSIOFS_HIGH x, s.get (RXx_RSSIOFS_HIGH x) + a 0)]
  | _ => s.sets [(RXx_GSTEPn_STEP0 x (n - 4), a 0), (RXx_GSTEPn_STEP1 x (n - 4), a 1), (RXx_GSTEPn_STEP2 x (n - 4), a 2), (RXx_GSTEPn_STEP3 x (n - 4), a 3)]

/-- What the n-th step of the SYNT item measures: a coarse code for each region, then KVCO, then TPM (R502). -/
def State.syntStep (s : State) (regs : List Nat) (n : Nat) (v : List Nat) : State :=
  let a := v.getD 0 0
  match regs[n - 1]? with
  | some r => s.putCoarse 2 r a
  | none => if n = regs.length + 1 then s.set (SYNx_KVCO_KVCO 2) a else s.set SYNT_TPM_TPMGAIN a

/-- The number of steps of a run. -/
def CalRun.steps (r : CalRun) : Nat := if r.item < 2 then 9 else r.regs.length + 2

/-- The end of a run: a chain's synthesiser relocks (R502). -/
def State.calRunEnd (s : State) (r : CalRun) : State :=
  let s := s.calEnded r.item r.temp
  if r.item < 2 then
    let s := s.updChain r.item fun c => { c with blCal := false }
    (if s.flag (SYNx_CTL_EN r.item) then s.synStart r.item (s.get (SYNx_FREQ_FREQ r.item)) else s).rxStat r.item
  else { s with cal := { s.cal with regions := [] } }

/-- CAL_STEP_END (R502, R66, R504): `v` is what the step measured. -/
def execCalStepEnd (v : List Nat) (s : State) : Host.Outcome State Fault Refusal :=
  .next (match s.cal.run, s.cal.step with
  | some r, some _ =>
    let n := r.done + 1
    let s := { s with cal := { s.cal with step := none } }
    let s := if r.item < 2 then s.chainStep r.item n v
      else
        let s := s.syntStep r.regs n v
        if (s.synth 2).ph = .calStep then (s.set (SYNx_STAT_CALBUSY 2) 0).synStart 2 (s.get (SYNx_FREQ_FREQ 2)) else s
    let r := { r with done := n }
    if r.steps ≤ n then s.calRunEnd r else { s with cal := { s.cal with run := some r } }
  | _, _ => s)

/-- CAL_FORCED_RUN (R506): a split-mode item that has waited MAXDEFER minutes. -/
def execCalForcedRun (s : State) : Host.Outcome State Fault Refusal :=
  .next (if s.svHalted then s else if s.radioOff || s.pwr.entry.isSome || s.cal.step.isSome || s.combined then s
  else match s.calNext with
  | none => s
  | some i =>
    if 2 ≤ i || !s.calRoom || s.calMay i || s.tick < Tab.get 0 s.cal.dueAt i + s.get CAL_DEFER_MAXDEFER * 60000000 then s
    else
      let own := s.ownersOf (s.chainSlots i)
      let s := ((s.calBegin i true).raiseMask own .cal).count CAL_STAT_FORCED 1
      s.scree 26 0x0501 0 (octets 1 i ++ octets 2 (s.get CAL_TEMP_TJ)))

/-! ## Requests of P0 (R504, R509, R511) -/

/-- A write of CAL_ITEMn (R504). -/
def State.calItemWrite (s : State) (n w : Nat) : State :=
  let s := s.putFld w (CAL_ITEMn_AUTO n)
  if bit w 30 then (s.calDue n true).calPa else s

/-- CAL_ITEM_RUN (R504). -/
def execCalItemRun (n : Fin 4) (s : State) : Host.Outcome State Fault Refusal := .next (s.calDue n true).calPa

/-- A record at once, whatever the rate limit (R511). -/
def State.calSave (s : State) : State :=
  if s.nvq.contains .calRecord then s
  else { s with nvq := s.nvq ++ [.calRecord], cal := { s.cal with recAt := some s.tick } }

/-- CAL_SAVE (R511). -/
def execCalSave (s : State) : Host.Outcome State Fault Refusal := .next s.calSave

/-- A write of CAL_CTL (R511). -/
def State.calCtl (s : State) (w : Nat) : State :=
  let s := s.putFld w CAL_CTL_EN
  if bit w 1 then s.calSave else s

/-- A write of CAL_XOFB (R509): a value outside ±2000 ppb counts as the nearer limit. DEDUCED: "limited to". -/
def State.xoFeedback (s : State) (w : Nat) : State :=
  let early := match s.cal.fbAt with | some t => decide (s.tick < t + 60000000) | none => false
  if early then s.set CAL_STAT_XOFBREJ 1
  else
    let e : Int := max (-2000) (min 2000 (sext CAL_XOFB_ERR.w (bits w CAL_XOFB_ERR.lo CAL_XOFB_ERR.w)))
    let d := roundQ ((e : Rat) / 4)
    let s := s.sets [(CAL_XOFB_ERR, w), (CAL_STAT_XOFBREJ, 0), (CAL_XOC0_C0, wrap 32 (sext 32 (s.get CAL_XOC0_C0) + d))]
    { s with cal := { s.cal with fbAt := some s.tick, dirty := s.cal.dirty || decide (d ≠ 0) } }.calAsk

/-- XO_FEEDBACK_WRITE (R509). -/
def execXoFeedbackWrite (w : Word) (s : State) : Host.Outcome State Fault Refusal := .next (s.xoFeedback w.toNat)

/-! ## The record (R513) -/

/-- CAL_RECORD_WRITE_DONE (R513, R515): `ok` tells whether the write verified. -/
def execCalRecordWriteDone (ok : Bool) (s : State) : Host.Outcome State Fault Refusal :=
  .next (if nvNext s.nvq = some .calRecord then s.calWrite ok else s)

/-- CAL_RECORD_RETRY (R513): 10 minutes after a write that did not verify. -/
def execCalRecordRetry (s : State) : Host.Outcome State Fault Refusal :=
  .next (if s.svHalted then s else match s.cal.failAt with
  | none => s
  | some t =>
    if s.tick < t + 600000000 then s
    else { s with cal := { s.cal with failAt := none } }.calSave)

/-! ## CALIBRATE (R467, R511) -/

/-- Every step of a chain item, from what each measured. -/
def State.chainAll (s : State) (x : Nat) (v : List (List Nat)) : State :=
  s.each (List.range 9) fun s n => s.chainStep x (n + 1) (v.getD n [])

/-- Every step of the SYNT item. -/
def State.syntAll (s : State) (v : List (List Nat)) : State :=
  let regs := s.cal.regions
  let s := s.each (List.range (regs.length + 2)) fun s n => s.syntStep regs (n + 1) (v.getD n [])
  { s with cal := { s.cal with regions := [] } }

/-- CALIBRATE_END (R467, R511): items 0 to 2 in full, every register's value the new base, a record; `va`,
`vb` and `vt` are what the steps of items 0, 1 and 2 measured. -/
def execCalibrateEnd (va vb vt : List (List Nat)) (s : State) : Host.Outcome State Fault Refusal :=
  .next (if !s.pwr.calib then s
  else
    let tj := s.get CAL_TEMP_TJ
    let s := ((s.chainAll 0 va).chainAll 1 vb).syntAll vt
    let base := (List.range 80).foldl (fun t e => Tab.set none t e (some (s.get (paDrv e)))) []
    let s := s.set CAL_PA_TPA tj
    let s := s.each [0, 1, 2] fun s i => s.sets [(CAL_ITEMn_LASTT i, tj), (CAL_ITEMn_PEND i, 0), (CAL_ITEMn_DEFER i, 0)]
    let s := { s with
      cal := { s.cal with drvBase := base, byRun := s.cal.byRun.filter (3 ≤ ·), dirty := true }
      pwr := { s.pwr with calib := false } }
    let s := s.calSave
    let s := s.each [0, 1, 2] fun s x => if s.flag (SYNx_CTL_EN x) then s.synStart x (s.get (SYNx_FREQ_FREQ x)) else s
    ((s.rxStat 0).rxStat 1).raiseAll .mode)

end Sys2Proof.Machine
end

