-- ==== Sys2Proof/Machine/Pkt.lean ====
section
/-!
DEFINITION. The packet handler and the receive path after it (spec/06_coding_and_frames.md, R22, R380):
PHR, header, MIC verdict, end of frame, the record in the ring.
-/

namespace Sys2Proof.Machine

open Reg

/-! ## PHR (R119, R178, R179) -/

/-- Ending a frame at the PHR stage: the slot searches again; a weaker frame at a canceller is lost with it. -/
def State.phrEnd (s : State) (fid : Nat) : State :=
  let s := s.endFrame fid
  if fid < 128 then s.sicLost fid else s

/-- Whether a frame on the other chain is the same transmission (R119). -/
def State.phrTwin (s : State) (fid : Nat) (f : RxFrame) (phr : Nat) : Bool :=
  !s.combined && s.rx.any fun e =>
    match e.2 with
    | none => false
    | some g =>
      e.1 ≠ fid && decide (e.1 < 256) && g.chain ≠ f.chain && (g.stage = .header || g.stage = .body) && g.fmt = f.fmt && g.phr = phr &&
        hypMod (s.desc g.slot) g.hyp = hypMod (s.desc f.slot) f.hyp && hypRate (s.desc g.slot) g.hyp = hypRate (s.desc f.slot) f.hyp &&
        hypDev (s.desc g.slot) g.hyp = hypDev (s.desc f.slot) f.hyp &&
        decide (((g.stamp : Int) - (f.stamp : Int)).natAbs * hypRate (s.desc f.slot) f.hyp ≤ 640000000)

/-- The checks of R178 in order, the reservation of blocks (R179), the duplicate rule of R119. -/
def State.phrDecoded (s : State) (fid : Nat) (f : RxFrame) (phr : Nat) : State :=
  let len := phrLen f.fmt phr
  let fcst := phrFcst f.fmt phr
  let blocks := ceilDiv len 128
  if !s.flag PKT_CTL_EN then s.phrEnd fid
  else if f.fmt = 2 && phrCrc phr ≠ bits phr 16 8 then (s.phrEnd fid).count PKT_PHRERR_CRCERR 1
  else if f.fmt = 2 && (5 ≤ bits phr 11 3 || len < 5 + fcsLen 2 fcst) then (s.phrEnd fid).count PKT_PHRERR_LENERR 1
  else if f.fmt = 1 && len < 8 then (s.phrEnd fid).count PKT_PHRERR_LENERR 1
  else if f.fmt = 3 && bit phr 15 then (s.phrEnd fid).count PKT_DROP_MS 1
  else if f.fmt = 3 && len = 0 then (s.phrEnd fid).count PKT_PHRERR_LENERR 1
  else if 1024 < s.get PKT_RXREG_INUSE + blocks then (s.phrEnd fid).count PKT_DROP_RXBUF 1
  else
    let n := s.get PKT_RXREG_INUSE + blocks
    let s := (s.set PKT_RXREG_INUSE n).set PKT_RXREG_PEAK (max (s.get PKT_RXREG_PEAK) n)
    let f := { f with
      stage := (if f.fmt = 3 then .body else .header), phr := phr, len := len, fcst := fcst, blocks := blocks
      code := (if f.fmt = 2 then bits phr 11 3 else if f.fmt = 3 then f.sfdc.toNat else 1), wht := phrWht f.fmt phr }
    let twin := s.phrTwin fid f phr
    let s := s.setFrame fid (some f)
    if twin then (s.phrEnd fid).count (CHB_LOSTA_OVERLAP.at f.slot) 1 else s

/-- PHR_DECODED (R178): the PHR bits of a frame, the LEN octet in format 1. -/
def execPhrDecoded (fid : Fin 256) (phr : BitVec 24) (s : State) : Host.Outcome State Fault Refusal :=
  .next (match s.frame fid with
    | some f => if f.stage = .phr then s.phrDecoded fid f phr.toNat else s
    | none => s)

/-! ## Header (R181, R22 step 4, R380 checks 1 to 6) -/

/-- The checks of R380 after the first, in order: the failure that decides the frame, or the frame with
its key, counter and repeat judged (R381). -/
def State.rxChecks (s : State) (p li : Nat) (f : RxFrame) : RxFrame × Bool :=
  let ph := s.entOf p li
  let m := micLen f.hdr.lvl
  let hl := f.hdr.hlen
  let pay := f.len - hl - m - fcsLen f.fmt f.fcst
  let aad := if 5 ≤ f.hdr.lvl then hl else hl + pay
  let cur := f.fmt = 1 || f.hdr.kid = s.entFlag ph 10 1
  let key : KRef := if cur then .cur li else .next li
  let rx := s.ent ph 48 4
  let n := rxCounter f.fmt f.hdr.ctr rx
  let rep := cur && n + 1 = rx
  let fresh := decide (n < 0xFFFFFFFF) && (!cur || decide (rx ≤ n))
  if 64 < aad || 2031 < pay then ({ f with stop := some (.status .refusedLength) }, false)
  else if !cur && s.entFlag ph 11 1 = 0 then ({ f with stop := some (.status .authFail) }, false)
  else if s.keyLimit p ≤ s.keyCount p key then ({ f with stop := some (.status .refusedKeyLimit) }, false)
  else if !s.keysOn p then ({ f with stop := some (.status .refusedQuota) }, false)
  else if !rep && !fresh then ({ f with stop := some (.status .authFail) }, true)
  else ({ f with ctr := n, repeated := rep, usedNext := !cur,
                 wrapped := (s.wrappedKey p key).getD [] }, false)

/-- The fields of a decoded header are handed to AIR and ASC: partition, association, version, room in
the ring, the checks of SEC, the acknowledgement (R22 step 4, R181, R244, R260, R618). -/
def State.mhrDecoded (s : State) (fid : Nat) (f : RxFrame) (o : List Byte) : State :=
  let hb := if f.fmt = 1 then mhrForerunner o f.len (bits (s.desc f.slot 2) 0 16) else mhrNative o f.len f.fcst
  let f := { f with stage := .body, hdr := hb.1, badHdr := hb.2 }
  if f.badHdr then s.setFrame fid (some f)
  else match s.nidOwner f.hdr.nid with
    | none => s.setFrame fid (some { f with stop := some .nonid })
    | some (p, i) =>
      if f.fmt = 1 && !f.fr.testBit p then s.setFrame fid (some { f with stop := some .nonid })
      else
        let f := { f with part := some p, nidx := i }
        let total := f.len - micLen f.hdr.lvl - fcsLen f.fmt f.fcst
        let full := !s.ringRoom p (recBlocks total)
        match (if s.flag ASC_CTL_EN then s.lookup p i f.hdr.sam f.hdr.src else none) with
        | none => s.setFrame fid (some (if full then { f with stop := some .full } else f))
        | some li =>
          let f := { f with entry := some li, window := some (s.inWindow (s.entOf p li) f.stamp) }
          if f.fmt = 2 && s.verRefused p li f.hdr.pver then s.setFrame fid (some { f with stop := some .version })
          else if full then s.setFrame fid (some { f with stop := some .full })
          else
            let r := if f.secured then s.rxChecks p li f else (f, false)
            let s := if r.2 then s.count (SEC_PAUTH_STALE.at p) 1 else s
            let s := s.setFrame fid (some r.1)
            if r.1.stop.isSome then s else s.ackReserve fid r.1 p li

/-- MHR_DECODED (R181): the octets of a frame's header; the octets after LEN in format 1. -/
def execMhrDecoded (fid : Fin 256) (o : List Byte) (s : State) : Host.Outcome State Fault Refusal :=
  .next (match s.frame fid with
    | some f => if f.stage = .header then s.mhrDecoded fid f o else s
    | none => s)

/-! ## MIC (R380 to R382) -/

/-- The key that a frame began with (R395), brought into a slot, with one invocation counted (R387); a key that
has been replaced since is unwrapped, and has no count any more. -/
def State.frameKey (s : State) (p li : Nat) (f : RxFrame) : Option (List Byte × State) :=
  match s.rxKey p li f with
  | some k => (s.useKey p k).map fun r => (r.1, r.2.invoke p k)
  | none => ((s.ownerKey p).bind fun o => Config.keyUnwrap o f.wrapped).map fun k => (k, s.blocks 12)

/-- The frame is decrypted and its MIC compared: one invocation of its key (R387). -/
def State.micVerdict (s : State) (p li : Nat) (f : RxFrame) (hdr body : List Byte) : RxFrame × State :=
  let aad := if f.fmt = 1 then hdr.take 6 else hdr.take f.hdr.hlen
  match s.frameKey p li f with
  | none => ({ f with verdict := some false }, s)
  | some (key, s) =>
    let pay := body.length - micLen f.hdr.lvl
    let s := s.blocks (if 5 ≤ f.hdr.lvl then ccmBlocks aad.length pay else ccmBlocks (aad.length + pay) 0)
    match ccmCheck key (s.ent (s.entOf p li) 26 8) f.ctr f.hdr.lvl aad body with
    | some pay => ({ f with verdict := some true, psdu := aad ++ pay }, s)
    | none => ({ f with verdict := some false }, s)

/-- MIC_VERDICT (R380): the header octets as received, and the payload and MIC octets. It waits while its
invocation would bring KUSE to KURES (R388). -/
def execMicVerdict (fid : Nat) (hdr body : List Byte) (s : State) : Host.Outcome State Fault Refusal :=
  .next (match s.frame fid with
    | none => s
    | some f =>
      match f.part, f.entry with
      | some p, some li =>
        if f.secured && f.stop.isNone && !f.badHdr && f.verdict.isNone && (f.stage = .body || f.stage = .tag) &&
            !(s.rxKey p li f = some (.cur li) && s.useHolds p li) then
          let r := s.micVerdict p li f hdr body
          let s := r.2.setFrame fid (some r.1)
          if f.stage = .tag then s.rxRelease fid r.1 false else s
        else s
      | _, _ => s)

/-! ## End of frame (R182, R22) -/

/-- The outcomes of R22 from step 4 on, for a frame in quarantine. -/
def State.rxOutcome (s : State) (q : Nat) (f : RxFrame) : State :=
  match f.stop, f.part with
  | some .nonid, _ => (s.endFrame q).count AIR_NONID_COUNT 1
  | some .version, some p => (s.endFrame q).count (ASC_PCNT2_VERERR.at p) 1
  | some .full, some p => (s.count (PRT_RXCNT_FULL.at p) 1).rxDone q f Code.refusedQuota.num []
  | some (.status c), some _ => s.rxDone q f c.num []
  | _, _ => if f.secured && f.entry.isSome && f.verdict.isNone then s.setFrame q (some { f with stage := .tag }) else s.rxRelease q f false

/-- Format 3 frames go raw to the lowest-numbered partition of OWNERS (R166). -/
def State.rxRaw (s : State) (q : Nat) (f : RxFrame) : State :=
  match s.live.find? fun p => (s.owners f.slot).testBit p with
  | none => (s.endFrame q).count AIR_NONID_COUNT 1
  | some p =>
    let f := { f with part := some p }
    if s.ringRoom p (recBlocks f.psdu.length) then s.rxRelease q f false
    else (s.count (PRT_RXCNT_FULL.at p) 1).rxDone q f Code.refusedQuota.num []

/-- The end of a frame with its PSDU as received, FCS included. -/
def State.frameEnd (s : State) (fid : Nat) (f : RxFrame) (psdu : List Byte) (lqi : Nat) : State :=
  if !fcsOk f.fmt f.fcst f.len psdu then (s.phrEnd fid).count PKT_FCSERR_FCS 1
  else
    let s := if fid < 128 then s.updSlot fid fun t => { t with sic := t.sic.map fun c => { c with strongOk := true } } else s
    if f.badHdr then (s.endFrame fid).count PKT_FCSERR_HDRERR 1
    else
      let s := s.count PKT_RXOK_COUNT 1
      let whole := psdu.take (psdu.length - fcsLen f.fmt f.fcst)
      let f := { f with lqi := lqi, psdu := (if f.secured && f.entry.isSome then f.psdu else whole) }
      let r := s.quarantine fid f
      if f.fmt = 3 then r.2.rxRaw r.1 f else r.2.rxOutcome r.1 f

/-- FRAME_END (R182): a frame whose header was not handed over before is judged on it first (R181). -/
def execFrameEnd (fid : Fin 256) (psdu : List Byte) (lqi : Byte) (s : State) : Host.Outcome State Fault Refusal :=
  .next (match s.frame fid with
    | none => s
    | some f =>
      if psdu.length ≠ f.len then s
      else if f.stage = .body then s.frameEnd fid f psdu lqi.toNat
      else if f.stage = .header then
        let s := s.mhrDecoded fid f psdu
        match s.frame fid with
        | some f => s.frameEnd fid f psdu lqi.toNat
        | none => s
      else s)

/-- A released frame's record has been copied: WR advances, EV_RX_FRAME is raised, its blocks are freed
(R182, R618); without room only the event. -/
def State.rxRecord (s : State) (q : Nat) (f : RxFrame) (p : Nat) : State :=
  let room := s.ringRoom p (recBlocks f.psdu.length)
  let late := f.status = 0 && !room
  let f' := if late then { f with status := Code.refusedQuota.num, psdu := [] } else f
  let s := if late then s.count (PRT_RXCNT_FULL.at p) 1 else s
  let s := if s.ringRoom p (recBlocks f'.psdu.length) then s.ringPut p (f'.header f'.psdu.length) f'.psdu f.imgB
    else s.count (PRT_RXCNT_NOREC.at p) 1
  let s := (s.set PKT_RXREG_INUSE (s.get PKT_RXREG_INUSE - f.blocks)).setFrame q none
  s.raiseImg p f.imgB .rxFrame

/-- RX_RECORD_WRITTEN (R618). -/
def execRxRecordWritten (q : Nat) (s : State) : Host.Outcome State Fault Refusal :=
  .next (match s.frame q with
    | none => s
    | some f => match f.part with
      | some p => if f.stage = .done then s.rxRecord q f p else s
      | none => s)

/-- ACK_COMMIT_POINT (R21): 100 ticks before its T0 an acknowledgement goes on to be released where the tag
has verified, and is withdrawn otherwise. -/
def execAckCommitPoint (id : Nat) (s : State) : Host.Outcome State Fault Refusal :=
  .next (match s.txFind id with
    | none => s
    | some t => match t.kind with
      | .ack fid =>
        if t.stage = .fixed && !t.ok && decide (t.t0 ≤ s.tbs.now + 6400) then
          let s := ((s.txDel id).giveBack t).missAck fid
          if (s.frame fid).isNone then s.ackNotSent t.p else s
        else s
      | _ => s)

/-! ## Enable and counters (R178, R619) -/

/-- Clearing every PKT counter and PEAK. -/
def State.pktClear (s : State) : State :=
  s.sets [(PKT_RXREG_PEAK, 0), (PKT_PHRERR_LENERR, 0), (PKT_PHRERR_CRCERR, 0), (PKT_FCSERR_HDRERR, 0), (PKT_FCSERR_FCS, 0),
    (PKT_DROP_MS, 0), (PKT_DROP_RXBUF, 0), (PKT_RXOK_COUNT, 0)]

/-- PKT_CLEAR_COUNTERS (R178). -/
def execPktClearCounters (s : State) : Host.Outcome State Fault Refusal := .next s.pktClear

/-- A write of PKT_CTL.EN (R619): at 0 the frames in the pool and in PKT are ended. -/
def State.writePktEn (s : State) (en : Bool) : State :=
  let s := s.setB PKT_CTL_EN en
  if en then s else s.each (List.range 256) fun s fid => if (s.frame fid).isSome then s.phrEnd fid else s

/-- PKT_ENABLE_WRITE (R619). -/
def execPktEnableWrite (en : Bool) (s : State) : Host.Outcome State Fault Refusal := .next (s.writePktEn en)

end Sys2Proof.Machine
end

