-- ==== Sys2Proof/Machine/Col.lean ====
section
/-!
DEFINITION. The Col link (spec/17, R472 to R481): sniffing, reception and the frame store, wake criteria,
transmissions, and what a wake from COL releases and charges. Energies and frames as received are operands.
-/

namespace Sys2Proof.Machine

open Reg

/-! ## Parameters -/

/-- The Col symbol rate in 0.1 symbols a second (R473). -/
def State.colRate (s : State) : Nat := if s.flag COL_CTL_RATE then 48000 else 12000

/-- The transmit profile of Col transmissions. -/
def State.colProf (s : State) : Nat := s.get COL_TX_TXPROF

/-- Whether a COL request may be accepted (R472). -/
def State.colReady (s : State) : Bool :=
  let f := s.get COL_FREQ_FREQ
  let n := s.colProf
  s.flag COL_CTL_EN && freqOk f && (s.bandOf f).isSome && syncOk 2 (s.get COL_SYNC_SYNC) &&
    decide (s.get (TXM_PROFnC_PARTMASK n) ≠ 0) && decide (profMod (s.profA n) = 1) && decide (profRate (s.profA n) = s.colRate)

/-! ## Sniffing (R473, R480) -/

/-- The Col receiver turns off. -/
def State.colRxOff (s : State) : State := { s.set COL_STAT_RXON 0 with col := { s.col with search := none } }

/-- COL_SNIFF (R473): a sniff instant; one within a Col transmit interval is skipped. -/
def execColSniff (s : State) : Host.Outcome State Fault Refusal :=
  .next (if !s.inCol || s.tick % (s.get COL_SNIFF_SPER * 1000) ≠ 0 || s.flag COL_STAT_TXON then s
  else (s.set COL_STAT_RXON 1).latch 35 0)

/-- COL_SNIFF_WINDOW_END (R473): `e` is the energy measured, in 0.25 dBm. -/
def execColSniffWindowEnd (e : Int) (s : State) : Host.Outcome State Fault Refusal :=
  .next (if !s.inCol || !s.flag COL_STAT_RXON || s.col.search.isSome || s.tick % (s.get COL_SNIFF_SPER * 1000) < s.get COL_SNIFF_SWIN * 100 then s
  else if -4 * (s.get COL_RXCFG_ETHR : Int) ≤ e then
    let s := (s.set COL_STAT_ENERGY 1).count COL_CNTA_SNIFFHIT 1
    { s with col := { s.col with search := some (s.tick + s.get COL_RXCFG_EXT * 1000) } }
  else (s.set COL_STAT_ENERGY 0).colRxOff)

/-- COL_SYNC_FOUND (R480): the search for a frame restarts. -/
def execColSyncFound (s : State) : Host.Outcome State Fault Refusal :=
  .next (if !s.inCol || !s.flag COL_STAT_RXON then s
  else
    let s := s.latch 35 1
    { s with col := { s.col with search := some (s.tick + s.get COL_RXCFG_EXT * 1000) } })

/-- COL_SEARCH_END (R473). -/
def execColSearchEnd (s : State) : Host.Outcome State Fault Refusal :=
  .next (match s.col.search with
  | some t => if s.inCol && decide (t ≤ s.tick) then s.colRxOff else s
  | none => s)

/-! ## Acknowledgement (R477) -/

/-- Making a Col reservation for a frame whose T_S is set: released to CE 100 ticks before T0 (R478). -/
def State.colReserve (s : State) (t : Tx) : Option State :=
  let c := s.txSnap t.prof
  let a := t.airtime c
  let lead := (c.ramp + c.lead) * 64
  let t0 := t.ts - lead
  if lead ≤ t.ts ∧ s.tbs.now + 100 * 64 ≤ t0 ∧ !s.spanBusy t0 (t0 + (a + 12) * 64) then
    some (s.txAdd { t with stage := .fixed, fixed := true, snap := c, air := a, t0 := t0, ok := true })
  else none

/-- Acknowledging a stored frame or a repeat (R477): whether a group entry was made, and the state after it.
`rec`: the number that names its record. -/
def State.colAck (s : State) (f : RxFrame) (p li recN : Nat) : Bool × State :=
  if !f.hdr.ackReq || !s.flag (AIR_ACKCFG_EN.at p) then (false, s)
  else
    let e := f.endAt 1 s.colRate
    if s.flag (AIR_ACKGRP_GEN.at p) && s.colRate < s.get (AIR_ACKGRP_GRPBELOW.at p) then
      if 128 ≤ (s.air.gents.filter fun g => g.p = p).length then (false, s.ackNotSent p)
      else
        let g : GEnt := { p := p, fid := recN, saddr := s.entSaddr (s.entOf p li), seq := f.hdr.seq, rate := s.colRate, air := 0,
                          ok := true, endT := e / 64 }
        (true, ({ s with air := { s.air with gents := s.air.gents ++ [g] } }).set (AIR_PACK_GPEND.at p) (s.get (AIR_PACK_GPEND.at p) + 1))
    else
      let freq := s.get COL_FREQ_FREQ
      let t : Tx := {
        kind := .ack recN, p := p, entry := some li, prof := s.colProf, freq := freq, fmt := 2, codeF := f.code, wht := f.wht, fcst := 0
        pre := s.get (AIR_ACKCFG_PRE.at p), len := 13, sync := s.get COL_SYNC_SYNC, seq := f.hdr.seq
        body := octets 2 f.hdr.nid ++ octets 4 (if f.secured then f.ctr else 0), ts := e + s.get (AIR_ACKCFG_TURN.at p) * 64
        after := e, sub := s.tick, host := false }
      match s.colReserve t with
      | none => (false, s.ackNotSent p)
      | some s => (false, ((s.set (SYNx_CTL_EN 2) 1).freqCommand 2 freq).2)

/-! ## Reception (R474 to R476) -/

/-- A node's key, unwrapped under the owner key in the Col key store (R474). -/
def State.colKey (s : State) (p : Nat) (k : KRef) : Option (List Byte) :=
  match Tab.get none (s.col.keys.map fun e => (e.1, some e.2)) p, s.wrappedKey p k with
  | some o, some w => Config.keyUnwrap o w
  | _, _ => none

/-- The octets a stored frame takes: header and PSDU, padded to 4 (R475). -/
def colSize (n : Nat) : Nat := 32 + ceilDiv n 4 * 4

/-- The header of a stored record (R475). -/
def colHeader (f : RxFrame) (p li : Nat) (grp : Bool) : List Byte :=
  octets 8 f.stamp ++ octets 2 (wrap 16 f.rssi) ++ octets 2 (wrap 16 f.snr) ++ octets 1 f.lqi ++
    octets 1 (p + 32 * f.nidx) ++ octets 2 li ++ octets 4 (if f.secured then f.ctr else 0) ++ octets 2 f.psdu.length ++
    octets 1 ((if f.hdr.sec then f.hdr.lvl else 0) + 8 * grp.toNat) ++ octets 1 Code.done.num ++ octets 4 (wrap 32 f.foff) ++ octets 4 0

/-- The wake criteria a stored record of a partition meets (R476). -/
def State.colWakes (s : State) (p : Nat) : Bool :=
  s.flag COL_WAKECRIT_ANY || (s.flag COL_WAKECRIT_LS && (s.part p).desc.ls) ||
    (s.flag COL_WAKECRIT_FULL && decide (s.get COL_WAKECRIT_NFULL ≤ s.get COL_STAT_FRAMES)) ||
    (s.flag COL_WAKECRIT_PART && (s.get COL_WAKEPART_PARTS).testBit p)

/-- Storing a frame that has passed the checks (R474, R475): counters advance as on release, and it is acknowledged. -/
def State.colStoreFrame (s : State) (f : RxFrame) (p li : Nat) : State :=
  let off := s.get COL_STAT_OCTETS
  let ph := s.entOf p li
  let s := if !f.secured then s
    else if f.usedNext then
      (if s.entFlag ph 11 1 = 1 && s.wrappedKey p (.next li) = some f.wrapped then s.promote p li (f.ctr + 1) else s)
    else s.putEnt ph 48 4 (f.ctr + 1)
  let s := if f.secured then s.ckCheck p li else s
  let r := s.colAck f p li (colRecFirst + off)
  let s := r.2.store (colStore + off) (colHeader f p li r.1 ++ f.psdu)
  let s := s.sets [(COL_STAT_OCTETS, off + colSize f.psdu.length), (COL_STAT_FRAMES, s.get COL_STAT_FRAMES + 1)]
  let s := ({ s with col := { s.col with frames := s.col.frames ++ [f] } }).count COL_CNTA_STORED 1
  let s := s.latch 35 2
  if s.colWakes p then s.wakeFire 3 else s

/-- The security checks of a secured frame (R474 check 4): the frame with its verdict, or none where one fails. -/
def State.colCheck (s : State) (f : RxFrame) (p li : Nat) (whole : List Byte) : Option RxFrame × State :=
  let r := (s.rxChecks p li f).1
  if r.stop.isSome then (none, s)
  else
    let k : KRef := if r.usedNext then .next li else .cur li
    match s.colKey p k with
    | none => (none, s)
    | some key =>
      let hdr := whole.take f.hdr.hlen
      let body := whole.drop f.hdr.hlen
      let pay := body.length - micLen f.hdr.lvl
      let s := (s.invoke p k).blocks (if 5 ≤ f.hdr.lvl then ccmBlocks hdr.length pay else ccmBlocks (hdr.length + pay) 0)
      match ccmCheck key (s.ent (s.entOf p li) 26 8) r.ctr f.hdr.lvl hdr body with
      | some plain => (some { r with verdict := some true, psdu := hdr ++ plain }, s)
      | none => (none, s)

/-- A frame discarded under R474. -/
def State.colReject (s : State) : State := s.count COL_CNTB_REJECT 1

/-- A received frame judged (R474): checks 1 to 5 in order. -/
def State.colJudge (s : State) (f : RxFrame) (psdu : List Byte) : State :=
  if phrCrc f.phr ≠ bits f.phr 16 8 || f.len < 5 + fcsLen 2 f.fcst || !fcsOk 2 f.fcst f.len psdu then s.colReject
  else
    let h := mhrNative psdu f.len f.fcst
    let f := { f with hdr := h.1, badHdr := h.2 }
    match s.nidOwner f.hdr.nid with
    | none => s.colReject
    | some (p, i) =>
      if f.badHdr || !(s.get COL_PARTS_PARTS).testBit p || !s.toCoord p f.hdr then s.colReject
      else match s.lookup p i f.hdr.sam f.hdr.src with
        | none => s.colReject
        | some li =>
          if s.verRefused p li f.hdr.pver then s.colReject
          else
            let whole := psdu.take (psdu.length - fcsLen 2 f.fcst)
            let f := { f with part := some p, nidx := i, entry := some li, psdu := whole }
            let r := if f.secured then s.colCheck f p li whole else (some f, s)
            let s := if f.secured then r.2.latch 35 3 else r.2
            match r.1 with
            | none => s.colReject
            | some f =>
              if f.repeated then (s.colAck f p li 0).2
              else if 32 ≤ s.get COL_STAT_FRAMES || 8192 < s.get COL_STAT_OCTETS + colSize f.psdu.length then
                let s := s.count COL_CNTB_DROPFULL 1
                if s.flag COL_WAKECRIT_FULL then s.wakeFire 3 else s
              else s.colStoreFrame f p li

/-- COL_FRAME (R473, R474): a frame as the Col demodulator received it; the receiver turns off after it. -/
def execColFrame (stamp : BitVec 62) (rssi snr foff : Int) (lqi : Byte) (phr : BitVec 24) (psdu : List Byte) (s : State) :
    Host.Outcome State Fault Refusal :=
  .next (if !s.inCol || !s.flag COL_STAT_RXON then s
  else
    let w := phr.toNat
    let s := s.colRxOff
    let f : RxFrame := {
      fmt := 2, stamp := stamp.toNat, rssi := rssi, snr := snr, foff := foff, lqi := lqi.toNat, phr := w, len := phrLen 2 w
      fcst := phrFcst 2 w, code := bits w 11 3, wht := phrWht 2 w, fr := s.get SYS_FRPARTS_PARTS }
    if phrCrc w = bits w 16 8 && 2 ≤ f.code then s else s.colJudge f psdu)

/-- COL_AGE_WAKE (R476): the oldest record is AGEMAX s old. -/
def execColAgeWake (s : State) : Host.Outcome State Fault Refusal :=
  .next (match s.col.frames with
  | f :: _ =>
    let m := s.get COL_WAKECRIT_AGEMAX
    if s.inCol && decide (m ≠ 0 ∧ f.stamp / 64 + m * 1000000 ≤ s.tick) then s.wakeFire 3 else s
  | [] => s)

/-! ## Transmission (R478, R479) -/

/-- A partition's pending entries are discarded: BDIV is 0 (R478, R230). -/
def State.colDropGents (s : State) (p : Nat) : State :=
  let gone := s.air.gents.filter fun g => g.p = p
  let s := { s with air := { s.air with gents := s.air.gents.filter fun g => g.p ≠ p } }
  (gone.foldl (fun s g => (s.refund g.p g.air).ackNotSent p) s).set (AIR_PACK_GPEND.at p) 0

/-- The Col beacon of a partition at boundary `b` (R478): COL 1, the Col period, and the group frame that follows. -/
def State.colBeacon (s : State) (p b : Nat) : Tx :=
  let bd := s.get COL_TX_BDIV
  let body := s.beaconBody p bd true
  let t := s.beaconFrame p b body
  let g := s.flag (AIR_ACKGRP_GEN.at p)
  let body := t.body.take 27 ++ octets 4 (if g then s.get AIR_BPER_PER * bd / 1000 else 0) ++ t.body.drop 31
  let t := { t with body := body, prof := s.colProf, sync := s.get COL_SYNC_SYNC }
  let c := s.txSnap t.prof
  { t with after := (t.ts / 64 - (c.ramp + c.lead) + t.airtime c + 20000) * 64 }

/-- The group frame that follows a Col beacon, T_S 20 ms after its interval ends (R478, R231). -/
def State.colGroup (s : State) (p g : Nat) : State :=
  let n := s.colProf
  let l := (s.air.gents.filter fun e => e.p = p && e.ok && e.rate = s.colRate).take 64
  let l := s.groupTake p g n l l.length
  if l.isEmpty then s.groupMiss p g []
  else
    let t := { s.groupFrame p g n l with sync := s.get COL_SYNC_SYNC }
    match s.colReserve t with
    | some s => (s.updPart p fun P => { P with seqG := (P.seqG + 1) % 256 }).groupMiss p g l
    | none => s.groupMiss p g []

/-- COL_BEACON (R478): the beacons and group frames of every BDIV-th boundary. With BDIV 0 pending entries are discarded. -/
def execColBeacon (s : State) : Host.Outcome State Fault Refusal :=
  .next (if !s.inCol then s
  else
    let ps := s.live.filter fun p => (s.get COL_PARTS_PARTS).testBit p
    if s.get COL_TX_BDIV = 0 then ps.foldl State.colDropGents s
    else match s.col.due with
      | none => s
      | some b =>
        let s := { s with col := { s.col with due := none } }
        (ps.filter fun p => s.flag (AIR_BCNP_EN.at p)).foldl (fun s p =>
          let t := s.colBeacon p b
          let s := match s.colReserve t with
            | some s' => s'.updPart p fun P => { P with seqB := (P.seqB + 1) % 256 }
            | none => s
          s.colGroup p (t.after / 64)) s)

/-- Whether the air rules let a Col transmission start at its T0 (R479). -/
def State.colGrant (s : State) (t : Tx) : Bool :=
  let start := t.t0 / 64
  match s.bandOf t.freq, s.air.prof with
  | some (j, sb), some r =>
    let win := if start < s.col.entered + 3600000000 then (s.bandUse j).sum (s.col.entered / 1000000) else 0
    let m := start / 60000000
    let c := ((s.col.mins.filter fun e => decide (e.1 / 2 ^ 40 = j ∧ e.1 % 2 ^ 40 ≤ m ∧ m < e.1 % 2 ^ 40 + 60)).map Prod.snd).sum
    let off := max (Tab.get 0 s.col.last j) (match (s.bandUse j).last with | some e => e | none => 0)
    let dwell := match s.dwellOf t.freq with
      | some ch => ({ s.air with dwell := s.col.dwell } : AirSt).dwellOk ch (r.hop * 1000) start t.air = start && decide (t.air ≤ ch.dwell * 1000)
      | none => true
    (sb.maxon = 0 || decide (t.air ≤ sb.maxon * 1000)) && decide (win + c + t.air ≤ sb.duty * 3600) &&
      (off = 0 || decide (off + sb.minoff * 1000 ≤ start)) && dwell
  | _, _ => false

/-- COL_TRANSMIT_RELEASE (R478, R479): 100 ticks before T0; `e`: the energies, in 0.25 dBm, of the N samples
listened to before T0 − 20 ticks, after E for an immediate acknowledgement. -/
def execColTransmitRelease (id : Nat) (e : List Int) (s : State) : Host.Outcome State Fault Refusal :=
  .next (match s.txFind id with
  | none => s
  | some t =>
    if !s.inCol || t.stage ≠ .fixed || s.tbs.now + 6400 < t.t0 then s
    else
      let clear := match s.fixedLbt t, s.lbtParams t.freq with
        | true, some (thr, n) => decide (n ≤ e.length) && !((e.take n).any fun v => decide (-4 * (thr : Int) ≤ v))
        | _, _ => true
      if clear && s.colGrant t then (s.txUpd id fun u => { u with stage := .atRsa, until_ := s.tick, decided := true }).latch 35 4
      else s.fixedCannot t)

/-- CE_TIMER (R480): the tick whose low bits equal COL_CETMR, once. -/
def execCeTimer (s : State) : Host.Outcome State Fault Refusal :=
  .next (if !s.inCol || s.tick % 2 ^ 32 ≠ s.get COL_CETMR_TICK || s.col.ceAt = some s.tick then s
  else ({ s with col := { s.col with ceAt := some s.tick } }).latch 35 7)

/-! ## Entry and wake (R460 step 7, R464 step 5, R479) -/

/-- The Col link is prepared (R472, R480): owner keys, dwell counts; CE's context is cleared. -/
def State.colEnter (s : State) : State :=
  let ps := s.live.filter fun p => (s.get COL_PARTS_PARTS).testBit p
  let keys := ps.filterMap fun p => (s.ownerKey p).map fun k => (p, k)
  let s := s.updProg 35 fun _ => {}
  let s := s.sets [(COL_STAT_ACTIVE, 1), (COL_STAT_RXON, 0), (COL_STAT_TXON, 0), (COL_STAT_ENERGY, 0), (COL_STAT_FRAMES, 0),
    (COL_STAT_OCTETS, 0), (COL_AIRUSE_TICKS, 0)]
  let s := keys.foldl (fun s k => s.store (colKeyStore + 32 * k.1) k.2) (s.zero colKeyStore 1024)
  { s with col := { keys := keys, entered := s.tick, dwell := s.air.dwell } }

/-- The Col link stops: what it has reserved is not sent, its keys are zeroed (R481, R464). -/
def State.colStop (s : State) : State :=
  let s := s.fixedDue.foldl State.fixedCannot s
  let s := (s.zero colKeyStore 1024).sets [(COL_STAT_ACTIVE, 0), (COL_STAT_RXON, 0), (COL_STAT_TXON, 0)]
  { s with col := { s.col with keys := [], search := none, due := none } }

/-- Charging the Col airtime (R479): up to 64 intervals at their own ticks, the rest at the wake instant;
buckets are reduced, never below 0. -/
def State.colSettle (s : State) : State :=
  let ivs := s.col.ivs ++ s.col.more.map fun i => { i with t := s.tick }
  let s := ivs.foldl (fun s i => s.charge i.p i.freq i.t i.a) s
  let s := ivs.foldl (fun s i => s.updPart i.p fun P => { P with level := max 0 (P.level - ((i.a : Nat) : Rat)) }) s
  { s with col := { s.col with ivs := [], more := [], mins := [], last := [], dwell := [] } }

/-- Releasing the stored frames in arrival order (R464, R264): each is a contact with its own stamp. The slot and
the hypothesis a record names have no value in the spec for a Col frame: they are free. -/
def State.colRelease (s : State) : State :=
  let fs := s.col.frames
  let s := { s.sets [(COL_STAT_FRAMES, 0), (COL_STAT_OCTETS, 0)] with col := { s.col with frames := [] } }
  let s := fs.foldl (fun s f =>
    match f.part, f.entry with
    | some p, some li =>
      let ph := s.entOf p li
      let w := s.inWindow ph f.stamp
      let s := if f.secured && f.hdr.pver = s.entVer ph + 1 then
          ((s.putEnt ph 38 2 (putBits (s.ent ph 38 2) 0 3 f.hdr.pver)).raise p .assoc).ckAskHeld p li
        else s
      let s := if f.secured && f.ctr + 1 = 0xFFFFFFFF then s.raise p .counterEnd else s
      let s := if f.secured then s.contact ph f.stamp else s
      let a := s.free 7
      let b := a.2.free 2
      let f := { f with slot := a.1, hyp := b.1, window := some w, imgB := s.rxImg p (some li), blocks := 0 }
      let r := b.2.quarantine (quarFirst + b.2.rxNext) f
      r.2.rxDone r.1 f Code.done.num f.psdu
    | _, _ => s) s
  if s.flag TBS_STAT_DISCONT then s else s.closePassed true

end Sys2Proof.Machine
end

