-- ==== Sys2Proof/Machine/SeqOps.lean ====
section
/-!
DEFINITION. Shared operations of the sequencers, of image staging and verification, and of the supervisor's
image (spec/12, R336 to R361).
-/

namespace Sys2Proof.Machine

open Reg

/-! ## Image slots (R346) -/

/-- The supervisor area whose image runs (R360, R361). -/
def State.svArea (s : State) : Nat := if s.sv.confirmBy.isSome then 1 - s.get ENG_STAT_SVSLOT else s.get ENG_STAT_SVSLOT

/-- The slot that holds the active image of an owner and kind; the other one is the inactive slot (R346, R430). A
partition without an active image stages into slot 0. DESIGN CHOICE. -/
def State.actImg (s : State) (p kind : Nat) : Nat :=
  match kind with
  | 0 => s.svArea
  | 1 => if ((s.part p).slot (s.actSlot p)).st = .active then s.actSlot p else 1
  | 2 => s.get (ENG_SEQCTLx_SRC 0)
  | 3 => s.get (ENG_SEQCTLx_SRC 1)
  | _ => s.get ENG_COLCTL_SLOT

/-! ## Verification (R345 to R347) -/

/-- Whether PUBKEY is the signer's key (R346). -/
def State.signerOk (s : State) (p kind : Nat) (pub : List Byte) : Bool :=
  match kind with
  | 0 => pub = Config.supervisorKey
  | 1 => if p = 0 then pub = s.signKey else (Config.sha256 pub).take 16 = (s.part p).desc.signId
  | _ => pub = s.signKey

/-- Check 5 of R347. -/
def State.imgSigned (s : State) (p kind base : Nat) (h : ImgHdr) : Bool :=
  let n := h.codeLen + h.dataLen
  let o := s.imgOcts base h
  let body := (o.drop 64).take n
  let pub := (o.drop (64 + n)).take 64
  let sig := (o.drop (64 + n + 64)).take 64
  s.signerOk p kind pub && Config.ecdsaVerify pub (o.take (64 + n)) sig && decide (Config.sha256 body = (o.drop 32).take 32)

/-- Check 3 of R347: the slot and the limits of R346. -/
def State.imgFits (s : State) (p kind : Nat) (x : ImgSlot) (h : ImgHdr) : Bool :=
  let d := (s.part p).desc
  decide (x.len ≤ x.size ∧ 64 + h.codeLen + h.dataLen + 128 ≤ x.size) &&
    match kind with
    | 0 => true
    | 1 => decide (h.codeLen ≤ d.codeG * 4096 ∧ h.dataOfs + h.dataSize ≤ d.dataG * 4096)
    | 4 => decide (h.codeLen ≤ 4096 ∧ h.dataLen ≤ 2048)
    | _ => decide (h.codeLen ≤ 2048 ∧ h.dataLen ≤ 512)

/-- Check 4 of R347. -/
def imgForm (o : List Byte) (kind : Nat) (h : ImgHdr) : Bool :=
  decide (ofOctets (o.take 4) = 0x56494D47 ∧ ofOctets ((o.drop 5).take 1) = 1 ∧ h.kind = kind ∧
    ofOctets ((o.drop 6).take 1) ≤ 1 ∧ h.minGen ≠ 0 ∧ h.codeLen % 4 = 0 ∧ h.dataLen % 4 = 0 ∧ h.entry % 4 = 0 ∧ h.entry < h.codeLen) &&
    (if kind = 1 then decide (h.dataOfs % 4096 = 0 ∧ h.dataSize % 4096 = 0 ∧ h.dataLen ≤ h.dataSize) else decide (h.dataOfs = 0 ∧ h.dataSize = 0))

/-- Check 2 of R347: image B of a window, a switch or a bank load from the slot pending. -/
def State.imgBusy (s : State) (p kind i : Nat) : Bool :=
  match kind with
  | 0 => s.flag ENG_STAT_SVPEND || s.sv.confirmBy.isSome
  | 1 => (s.part p).dual.isSome || (match (s.part p).act with
      | some (.switch j) => j = i
      | some (.dual j _ _) => j = i
      | some (.start j) => j = i
      | _ => false)
  | 4 => false
  | k => (s.seqr (k - 2)).loading && decide ((s.seqr (k - 2)).loadSlot = i)

/-- The VERSION of the active image of an owner and kind, if there is one. -/
def State.actVersion (s : State) (p kind : Nat) : Option Nat :=
  match kind with
  | 1 => if ((s.part p).slot (s.actSlot p)).st = .active then some ((s.part p).slot (s.actSlot p)).hdr.version else none
  | 0 => some (s.sysSlot 0 s.svArea).hdr.version
  | 4 => if (s.sysSlot 4 (s.get ENG_COLCTL_SLOT)).st = .verified then some (s.sysSlot 4 (s.get ENG_COLCTL_SLOT)).hdr.version else none
  | k =>
    let q := s.seqr (k - 2)
    let b := if s.get (ENG_SEQSTATx_BANK (k - 2)) = 0 then q.bank0 else q.bank1
    if b.loaded then some b.version else none

/-- The outcome of a verification (R347): the first failing check. -/
def State.imgVerdict (s : State) (p kind i req : Nat) : Code :=
  let x := s.imgSlot p kind i
  let o := s.octs x.base 64
  let h := hdrOf o
  if (kind ≠ 1 && req ≠ 0) || (kind = 1 && req ≠ p && req ≠ 0) then .refusedAccess
  else if s.imgBusy p kind i then .refusedState
  else if !s.imgFits p kind x h then .refusedLength
  else if !imgForm o kind h then .refusedState
  else if !s.imgSigned p kind x.base h then .authFail
  else if (match s.actVersion p kind with | some v => decide (h.version < v) | none => false) then .refusedState
  else if s.get SYS_GEN_GEN < h.minGen then .refusedState
  else .done

/-- Staging a chunk into the inactive slot (R347): the code, or none where verification has started. -/
def State.stage (s : State) (p kind req ofs : Nat) (data : List Byte) (last byHost imgB : Bool) : Option Code × State :=
  let i := 1 - s.actImg p kind
  let x := s.imgSlot p kind i
  let bad : Option Code :=
    if (kind ≠ 1 && req ≠ 0) || (kind = 1 && req ≠ p && req ≠ 0) then some .refusedAccess
    else if s.imgBusy p kind i then some .refusedState
    else if x.size < ofs + data.length then some .refusedLength
    else none
  let mark := fun (x : ImgSlot) => { x with verify := true, lastBy := req, byHost := byHost, byImgB := imgB, lastAt := s.tick }
  match bad with
  | some c => if last then (none, s.putImg p kind i (mark x)) else (some c, s)
  | none =>
    let cut := x.st ≠ .staging || x.chunks.any fun c => decide (ofs < c.1 + c.2 ∧ c.1 < ofs + data.length)
    let s := if cut then s.zero x.base x.size else s
    let x := if cut then { x with chunks := [], len := 0, sealD := none } else x
    let x := { x with st := .staging, chunks := x.chunks ++ [(ofs, data.length)], len := max x.len (ofs + data.length) }
    let s := s.store (x.base + ofs) data
    if last then (none, s.putImg p kind i (mark x)) else (some .done, s.putImg p kind i x)

/-- The end of a verification (R347, R536): the slot's state, and the code for its requester. -/
def State.verifyEnd (s : State) (p kind i : Nat) : Code × State :=
  let x := s.imgSlot p kind i
  let c := s.imgVerdict p kind i x.lastBy
  let held := c = .refusedAccess || s.imgBusy p kind i
  let x := { x with verify := false }
  let x := if held then x
    else if c = .done then
      let x := { x with st := .verified, hdr := hdrOf (s.octs x.base 64) }
      { x with sealD := some (s.imgDigest x) }
    else { x with st := .rejected }
  (c, (s.putImg p kind i x).askConfig)

/-- A verified slot still meets its seal as it is activated (R536): the image has not changed since. -/
def State.sealOk (s : State) (p kind i : Nat) : Bool :=
  s.sealHolds (s.imgSlot p kind i)

/-- A slot that fails its seal is REJECTED (R536). -/
def State.sealFail (s : State) (p kind i : Nat) : State :=
  (s.putImg p kind i { s.imgSlot p kind i with st := .rejected, sealD := none }).scree 19 0x0314 2 (octets 1 p ++ octets 1 i ++ octets 1 kind)

/-! ## Activation (R349, R360) -/

/-- Asking for an activation of a partition's image (R349): 0 SWITCH, 1 DUAL, 2 COMMIT, 3 REVERT. -/
def State.imageAct (s : State) (p mode endBnd : Nat) (endAct : Bool) : Code × State :=
  let P := s.part p
  let i := 1 - s.actImg p 1
  let ok := (P.slot i).st = .verified
  let put := fun a => (Code.accepted, s.updPart p fun P => { P with act := some a })
  match mode with
  | 0 => if !ok then (.refusedState, s) else if s.pstate p = PState.stopped.num then put (.start i) else put (.switch i)
  | 1 => if !ok || P.dual.isSome || endBnd = 0 || s.pstate p ≠ PState.running.num then (.refusedState, s) else put (.dual i endBnd endAct)
  | 2 => if P.dual.isSome then put .commit else (.refusedState, s)
  | 3 => put .revert
  | _ => (.refusedState, s)

/-- Asking for a switch of the supervisor (R360). -/
def State.svAct (s : State) (mode : Nat) : Code × State :=
  if mode ≠ 0 || (s.sysSlot 0 (1 - s.svArea)).st ≠ .verified || s.sv.confirmBy.isSome then (.refusedState, s)
  else (.accepted, { s.set ENG_STAT_SVPEND 1 with sv := { s.sv with askedAt := s.tick } })

/-- SV's program starts at the entry of its image, in place in the eNVM (R291, R336). -/
def State.svStart (s : State) : State :=
  let a := s.svArea
  s.updProg 32 fun g => g.enter (BitVec.ofNat 32 (sysBase 0 a + 64 + (s.sysSlot 0 a).hdr.entry))

/-! ## Sequencers (R338 to R344, R357, R358) -/

/-- The octets of a region as a store of their own. -/
def State.region (s : State) (a n : Nat) : Tab Byte :=
  (s.mem.filter fun e => decide (a ≤ e.1 ∧ e.1 < a + n)).map fun e => (e.1 - a, e.2)

/-- A bank of a sequencer. -/
def SeqSt.bank (q : SeqSt) (b : Nat) : Bank := if b = 0 then q.bank0 else q.bank1
/-- Putting a bank of a sequencer. -/
def SeqSt.putBank (q : SeqSt) (b : Nat) (v : Bank) : SeqSt := if b = 0 then { q with bank0 := v } else { q with bank1 := v }

/-- The context of a sequencer. -/
def seqCtx (x : Nat) : Nat := 33 + x

/-- Whether a context's program is running: not stopped, not blocked, not halted. -/
def Prog.going (g : Prog) : Bool := decide (g.run = .ready) && !g.halted

/-- ENG_SEQSTATx.SWPEND (R357, R358). -/
def State.seqPend (s : State) (x : Nat) : State :=
  s.setB (ENG_SEQSTATx_SWPEND x) ((s.seqr x).swap || (s.seqr x).toBasic.isSome)

/-- Starting a sequencer's program: its bank's, or the basic sequence (R357, R358). Event latches are kept. -/
def State.seqStart (s : State) (x : Nat) (basic : Bool) : State :=
  let b := (s.seqr x).bank (s.get (ENG_SEQSTATx_BANK x))
  let s := s.updProg (seqCtx x) fun g => { g.enter (if basic then 0 else BitVec.ofNat 32 b.entry) with wdog := s.tick }
  s.setB (ENG_SEQSTATx_BASICACT x) basic

/-- Copying a VERIFIED image into a bank (R357). -/
def State.bankLoad (s : State) (x b i : Nat) : State :=
  let im := s.sysSlot (2 + x) i
  let h := im.hdr
  let v : Bank := { code := s.region (im.base + 64) h.codeLen, data := s.region (im.base + 64 + h.codeLen) h.dataLen, entry := h.entry,
                    loaded := true, faulted := false, version := h.version, minGen := h.minGen }
  s.updSeqr x fun q => q.putBank b v

/-- A fault of RSA, RSB or CE: 0, 1 or 2 (R344, R481). -/
def State.seqFault (s : State) (e : Nat) (c : FCause) (a : Nat) : State :=
  let s := s.updProg (seqCtx e) fun g => g.failed c.num
  let s := (s.sets [(ENG_SFAULT_ENGID, 5 + e), (ENG_SFAULT_FCAUSE, c.num), (ENG_SFADDR_ADDR, a)]).count ENG_SFAULT_COUNT 1
  let s := (s.scree 19 0x0202 1 (octets 1 (5 + e) ++ octets 1 c.num ++ octets 4 a)).raise 0 .fault
  if e = 2 then s.colStop.wakeFire 4
  else
    let s := if e = 0 then (match s.txBound with | some t => s.fixedCannot t | none => s) else s
    s.updSeqr e fun q =>
      let q := if s.flag (ENG_SEQSTATx_BASICACT e) then q
        else q.putBank (s.get (ENG_SEQSTATx_BANK e)) { q.bank (s.get (ENG_SEQSTATx_BANK e)) with faulted := true }
      { q with stopped := true }

/-- Copying CE's program into Cairn (R359, R495); with BASIC set, or without a VERIFIED image, CE runs its basic sequence (R358, R536). -/
def State.ceLoad (s : State) : State :=
  let x := s.sysSlot 4 (s.get ENG_COLCTL_SLOT)
  let enter := fun (s : State) (pc : Nat) => s.updProg 35 fun g => { g.enter (BitVec.ofNat 32 pc) with wdog := s.tick }
  if x.st = .verified && !s.flag ENG_COLCTL_BASIC then
    let s := (s.zero 0x38002000 0x1000).copy (x.base + 64) 0x38002000 x.hdr.codeLen
    let s := (s.zero 0x38003000 0x800).copy (x.base + 64 + x.hdr.codeLen) 0x38003000 x.hdr.dataLen
    enter s x.hdr.entry
  else enter s 0

/-- The sequencers start at their active banks, or at the basic sequence (R544, R534). -/
def State.seqsStart (s : State) : State :=
  s.each [0, 1] fun s x => s.seqStart x (s.flag (ENG_SEQSTATx_BASICACT x))

end Sys2Proof.Machine
end

