-- ==== Sys2Proof/Machine/Eng.lean ====
section
/-!
DEFINITION. Engines, images and live update (spec/12): slices and watchdogs, engine service, the sequencers'
banks, image verification and activation, the supervisor's switch.
-/

namespace Sys2Proof.Machine

open Reg

/-! ## MAC engines (R15, R285, R362 to R366) -/

/-- The contexts of a partition. -/
def State.ctxsOf (s : State) (p : Nat) : List Nat := if (s.part p).dual.isSome then [p, 64 + p] else [p]

/-- The partition a context of a MAC engine belongs to. -/
def ctxPart (k : Nat) : Nat := k % 64

/-- The partitions an engine serves. -/
def State.engParts (s : State) (e : Nat) : List Nat := s.live.filter fun p => s.get (PRT_PSTATp_ENGINE p) = e

/-- The runnable contexts of an engine, in order of partition number. -/
def State.runnable (s : State) (e : Nat) : List Nat := (s.engParts e).flatMap fun p => (s.ctxsOf p).filter fun k => (s.prog k).going

/-- The context whose turn follows that of `k`: the next partition in order; the two contexts of a window take
its turns alternately (R285, R353). -/
def State.nextTurn (s : State) (e k : Nat) : Option Nat :=
  let l := s.runnable e
  let p := ctxPart k
  match l.find? fun j => decide (p < ctxPart j) with
  | some j => some j
  | none => match l.find? fun j => decide (ctxPart j < p) with
    | some j => some j
    | none => match l.find? (· ≠ k) with
      | some j => some j
      | none => l.head?

/-- An engine with no context left stops (R365). -/
def State.engDrained (s : State) (e : Nat) : State :=
  if (s.get ENG_STAT_DRAIN).testBit e && (s.engParts e).isEmpty then
    let s := s.sets [(ENG_STAT_DRAIN, s.get ENG_STAT_DRAIN - 2 ^ e), (ENG_STAT_INSVC, s.get ENG_STAT_INSVC &&& (15 - 2 ^ e))]
    s.updEngine e fun _ => {}
  else s

/-- Moving a partition to an engine (R15). -/
def State.engTo (s : State) (p e : Nat) : State := s.engMove [(p, e)]

/-- At a slice boundary: a draining engine's context moves to where the assignment places it; a partition moves
onto a returned engine where that levels the load (R365, R366). -/
def State.sliceMove (s : State) (e p : Nat) : State :=
  let w := s.get (SAD_ENGp_WSLICE p)
  let f := s.get (SAD_ENGp_FLOOR p)
  if (s.get ENG_STAT_DRAIN).testBit e then
    match s.engPlan s.engIn p w f with
    | some a => match a.find? fun x => x.1 = p with
      | some x => s.engTo p x.2
      | none => s
    | none => s
  else match s.engIn.find? fun d => (s.engine d).back with
    | none => s
    | some d =>
      let fits := (engAssign ((s.engParts d ++ [p]).map fun q => (q, s.get (SAD_ENGp_WSLICE q), s.get (SAD_ENGp_FLOOR q))) [(d, 0, 100000)]).isSome
      if d ≠ e && decide (s.engLoad d + w < s.engLoad e) && fits then s.engTo p d
      else if (s.live.all fun q => decide (s.engLoad (s.get (PRT_PSTATp_ENGINE q)) ≤ s.engLoad d + s.get (SAD_ENGp_WSLICE q))) then
        s.updEngine d fun g => { g with back := false }
      else s

/-- SLICE_END (R362, R285): the engine switches only when another context on it is runnable and the turn is over. -/
def execSliceEnd (e : Fin 4) (s : State) : Host.Outcome State Fault Refusal :=
  .next (match (s.engine e).cur with
  | none => s.engDrained e
  | some k =>
    let s := s.updEngine e fun g => { g with slices := g.slices + 1 }
    let s := s.sliceMove e (ctxPart k)
    let s := if (s.engine e).cur = some k && decide (s.get (SAD_ENGp_WSLICE (ctxPart k)) ≤ (s.engine e).slices) then
        match s.nextTurn e k with
        | some j => s.updEngine e fun g => { g with cur := some j, slices := 0 }
        | none => s.updEngine e fun g => { g with cur := none, slices := 0 }
      else s
    s.engDrained e)

/-- ENGINE_WATCHDOG_EXPIRY (R364, R335). -/
def execEngineWatchdogExpiry (p : Fin 32) (imgB : Bool) (s : State) : Host.Outcome State Fault Refusal :=
  .next (
    let g := s.prog (if imgB then 64 + p.val else p.val)
    let n := s.get (ENG_WDOGp_LIMIT p)
    if n ≠ 0 && decide (n * 1000 ≤ g.wdog) && g.going then
      s.partFault p imgB .watchdog g.pc.toNat
    else s)

/-- WATCHDOG_KICK (R364): any write restarts the writing context's watchdog. -/
def execWatchdogKick (p : Fin 32) (imgB : Bool) (s : State) : Host.Outcome State Fault Refusal :=
  .next (s.updProg (if imgB then 64 + p.val else p.val) fun g => { g with wdog := 0 })

/-- A write of ENG_SVC (R365, R366). -/
def State.writeEngSvc (s : State) (out : Nat) : State :=
  let out := out % 16
  let left := (List.range 4).filter fun e => !out.testBit e
  match (if left.isEmpty then none else s.engPlan left 32 0 0) with
  | none => s.set ENG_STAT_SVCREJ 1
  | some a =>
    let old := s.get ENG_SVC_OUT
    let s := s.sets [(ENG_SVC_OUT, out), (ENG_STAT_SVCREJ, 0)]
    let s := s.each (List.range 4) fun s e =>
      if out.testBit e && !old.testBit e then
        let cur := (s.engine e).cur.map ctxPart
        let mv := a.filter fun x => decide (s.get (PRT_PSTATp_ENGINE x.1) = e ∧ cur ≠ some x.1)
        ((s.set ENG_STAT_DRAIN (s.get ENG_STAT_DRAIN ||| 2 ^ e)).engMove mv).engDrained e
      else if !out.testBit e && old.testBit e then
        (s.sets [(ENG_STAT_DRAIN, s.get ENG_STAT_DRAIN &&& (15 - 2 ^ e)), (ENG_STAT_INSVC, s.get ENG_STAT_INSVC ||| 2 ^ e)]).updEngine e
          fun g => { g with back := true }
      else s
    s.testGone

/-- ENGINE_SERVICE_WRITE (R365, R366). -/
def execEngineServiceWrite (out : BitVec 4) (s : State) : Host.Outcome State Fault Refusal := .next (s.writeEngSvc out.toNat)

/-! ## Sequencers (R344, R357, R358) -/

/-- A write of LOAD (R357). -/
def State.seqLoad (s : State) (x : Nat) : State :=
  let i := s.get (ENG_SEQCTLx_SRC x)
  if (s.sysSlot (2 + x) i).st ≠ .verified || s.flag (ENG_SEQSTATx_SWPEND x) then s.set (ENG_SEQSTATx_LOADREJ x) 1
  else if !s.sealOk 0 (2 + x) i then (s.sealFail 0 (2 + x) i).set (ENG_SEQSTATx_LOADREJ x) 1
  else
    let s := s.sets [(ENG_SEQSTATx_LOADREJ x, 0), (ENG_SEQSTATx_FAULTED x, 0)]
    s.updSeqr x fun q => { q with loading := true, loadSlot := i }

/-- SEQUENCER_LOAD (R357). -/
def execSequencerLoad (x : Fin 2) (s : State) : Host.Outcome State Fault Refusal := .next (s.seqLoad x)

/-- SEQUENCER_LOAD_DONE (R357). -/
def execSequencerLoadDone (x : Fin 2) (s : State) : Host.Outcome State Fault Refusal :=
  .next (if (s.seqr x).loading then
    (s.bankLoad x (1 - s.get (ENG_SEQSTATx_BANK x)) (s.seqr x).loadSlot).updSeqr x fun q => { q with loading := false }
  else s)

/-- A write of SWAP (R357). -/
def State.seqSwapAsk (s : State) (x : Nat) : State := (s.updSeqr x fun q => { q with swap := true }).seqPend x

/-- SEQUENCER_SWAP_REQUEST (R357). -/
def execSequencerSwapRequest (x : Fin 2) (s : State) : Host.Outcome State Fault Refusal := .next (s.seqSwapAsk x)

/-- SEQUENCER_SWAP (R357, R358): in the first cycle in which the sequencer is blocked in WAITE, nothing is bound to
it and no interval is in progress. -/
def execSequencerSwap (x : Fin 2) (s : State) : Host.Outcome State Fault Refusal :=
  .next (
    let q := s.seqr x
    let idle := match (s.prog (seqCtx x)).run with | .waitE _ => true | _ => false
    if !s.flag (ENG_SEQSTATx_SWPEND x) || !idle || q.loading || s.flag TXM_STAT_ACTIVE || (x = 0 && s.flag ENG_TXBIND_BOUND) then s
    else
      let s := if q.swap then s.set (ENG_SEQSTATx_BANK x) (1 - s.get (ENG_SEQSTATx_BANK x)) else s
      let s := (s.updSeqr x fun q => { q with swap := false, toBasic := none }).seqPend x
      s.seqStart x (s.flag (ENG_SEQCTLx_BASIC x)))

/-- A write of BASIC (R358): a change takes effect as a swap. -/
def State.seqBasic (s : State) (x : Nat) (b : Bool) : State :=
  let s := s.setB (ENG_SEQCTLx_BASIC x) b
  (s.updSeqr x fun q => { q with toBasic := if b = s.flag (ENG_SEQSTATx_BASICACT x) then none else some b }).seqPend x

/-- SEQUENCER_BASIC_WRITE (R358). -/
def execSequencerBasicWrite (x : Fin 2) (b : Bool) (s : State) : Host.Outcome State Fault Refusal := .next (s.seqBasic x b)

/-- A write of ENG_SEQCTLx (R357, R358). -/
def State.writeSeqctl (s : State) (x w : Nat) : State :=
  let s := s.putFlds w [ENG_SEQCTLx_SRC x, ENG_SEQCTLx_EN x]
  let s := if bit w 3 = s.flag (ENG_SEQCTLx_BASIC x) then s else s.seqBasic x (bit w 3)
  let s := if bit w 1 then s.seqLoad x else s
  if bit w 2 then s.seqSwapAsk x else s

/-- SEQUENCER_RESTART (R344): the other bank where it holds a program that has not faulted, else the basic sequence. -/
def execSequencerRestart (x : Fin 2) (s : State) : Host.Outcome State Fault Refusal :=
  .next (if s.svHalted then s else if !(s.seqr x).stopped then s
  else
    let b := 1 - s.get (ENG_SEQSTATx_BANK x)
    let v := (s.seqr x).bank b
    let s := (s.updSeqr x fun q => { q with stopped := false }).set (ENG_SEQSTATx_FAULTED x) 1
    if v.loaded && !v.faulted then (s.set (ENG_SEQSTATx_BANK x) b).seqStart x false else s.seqStart x true)

/-- SEQUENCER_WATCHDOG_EXPIRY (R344): RSA, RSB or CE has run for its time without a blocking wait. -/
def execSequencerWatchdogExpiry (e : Fin 3) (s : State) : Host.Outcome State Fault Refusal :=
  .next (
    let g := s.prog (seqCtx e)
    let ms := s.get (match e with | 0 => ENG_SEQWD_RSAWD | 1 => ENG_SEQWD_RSBWD | _ => ENG_SEQWD_CEWD)
    if g.going && decide (g.wdog + ms * 1000 ≤ s.tick) && (e = 2 || s.flag (ENG_SEQCTLx_EN e)) && (e ≠ 2 || s.inCol) then
      s.seqFault e .watchdog g.pc.toNat
    else s)

/-! ## Images (R347, R349) -/

/-- The end of a verification told to its requester: a host message is answered, a waiting context's g0 is set (R367). -/
def State.verifyTell (s : State) (x : ImgSlot) (c : Code) : State :=
  if x.byHost then s.answer x.lastBy c []
  else s.updProg (if x.byImgB then 64 + x.lastBy else x.lastBy) fun g =>
    match g.run with
    | .trap 2 => { g with g := Tab.set 0 g.g 0 (BitVec.ofNat 32 c.num) }
    | _ => g

/-- IMAGE_VERIFY_DONE (R347): 40 ms after the LAST chunk. -/
def execImageVerifyDone (p : Fin 32) (kind : Fin 5) (s : State) : Host.Outcome State Fault Refusal :=
  .next (if s.svHalted then s else match [0, 1].find? fun i => (s.imgSlot p kind i).verify with
  | none => s
  | some i =>
    let x := s.imgSlot p kind i
    if s.tick < x.lastAt + 40000 then s
    else
      let r := s.verifyEnd p kind i
      r.2.verifyTell x r.1)

/-- IMAGE_START (R349): at the next tick boundary. -/
def execImageStart (p : Fin 32) (s : State) : Host.Outcome State Fault Refusal :=
  .next (if s.svHalted then s else match (s.part p).act with
  | some (.start i) => s.imageStart p i
  | _ => s)

/-! ## The supervisor's image (R360, R361) -/

/-- SUPERVISOR_SWITCH (R360, R361, R533): until the new image confirms itself, a reset returns to the other area. -/
def execSupervisorSwitch (s : State) : Host.Outcome State Fault Refusal :=
  .next (if s.svHalted then s else if !s.flag ENG_STAT_SVPEND then s
  else
    let n := 1 - s.svArea
    let s := s.set ENG_STAT_SVPEND 0
    if !s.sealOk 0 0 n then s.sealFail 0 0 n
    else
      let s := ({ s with sv := { s.sv with confirmBy := some (s.tick + 1000000) } }).svStart
      let s := s.bootPut fun r => { r with active := n, confirmed := false }
      (s.scree 19 0x0601 0 (octets 1 0 ++ octets 4 (s.sysSlot 0 n).hdr.version)).raise 0 .imageSwitch)

/-- SUPERVISOR_CONFIRM (R361, R533). -/
def execSupervisorConfirm (s : State) : Host.Outcome State Fault Refusal :=
  .next (if s.svHalted then s else if s.sv.confirmBy.isNone then s
  else
    let n := s.svArea
    let old := s.sysSlot 0 (1 - n)
    let s := (s.putImg 0 0 n { s.sysSlot 0 n with st := .active }).putImg 0 0 (1 - n) { old with st := .verified }
    let s := (s.set ENG_STAT_SVSLOT n).bootPut fun r => { r with active := n, confirmed := true, svFloor := old.hdr.version }
    { s with sv := { s.sv with confirmBy := none } })

/-- SUPERVISOR_CONFIRM_TIMEOUT (R361): a WATCHDOG reset. -/
def execSupervisorConfirmTimeout (s : State) : Host.Outcome State Fault Refusal :=
  .next (match s.sv.confirmBy with
  | some t => if t ≤ s.tick then s.deviceReset .watchdog else s
  | none => s)

end Sys2Proof.Machine
end

