-- ==== Sys2Proof/Machine/Pwr.lean ====
section
/-!
DEFINITION. Operating modes (spec/17, R454 to R471): mode requests, entry to the sleep modes, wake, IDLE and
the comparator.
-/

namespace Sys2Proof.Machine

open Reg

/-! ## Requests (R458, R467, R544) -/

/-- The sleep mode of a code (R454). -/
def Sleep.ofNum : Nat → Option Sleep
  | 8 => some .sleep | 9 => some .col | 10 => some .deep | 11 => some .off | _ => none

/-- Whether the clear of LOCKDOWN is accepted, its authority apart (R544). -/
def State.ldClearOk (s : State) : Bool :=
  decide (s.get TMP_LCSTAT_LDCAUSE ≠ 4) && (List.range 5).all fun i => s.policy i ≠ 3 || !(s.get TMP_SRC_ACTIVE).testBit i

/-- LOCKDOWN is left (R544): partitions restart as after a SOFT reset, sequencers at their active banks. -/
def State.ldClear (s : State) : State :=
  let s := s.bootPut fun r => { r with ldSticky := false, ldCause := 0 }
  let s := (s.sets [(TMP_LCSTAT_LD, 0), (TMP_LCSTAT_LDCAUSE, 0), (TMP_LCSTAT_STICKYLD, 0)]).scree 28 0x0312 2 (octets 4 (s.get TMP_AUTHCTR_CTR))
  let s := { s with pwr := { s.pwr with lockdown := false } }
  let s := s.each s.live fun s p =>
    if (s.part p).rst.isSome then s
    else ((s.sets [(PRT_FAULT_FCAUSE.at p, 0), (PRT_PSTATp_FCAUSE p, 0)]).restart p).releaseHeld p
  ((s.seqsStart.rxStat 0).rxStat 1).raiseAll .mode

/-- The frames being received are lost and what is released to RSA goes back; reservations end (R460 steps 3 and 4). -/
def State.radioStop (s : State) : State :=
  let s := s.fixedDue.foldl State.fixedCannot s
  let s := s.looseAtRsa.foldl State.withdraw s
  s.loseSlots CHB_LOSTB_OTHER allSlots

/-- Entry to CALIBRATE (R467). -/
def State.calEnter (s : State) : State :=
  let s := [0, 1, 2, 3].foldl (fun s i => s.calAbandon i) s.radioStop
  let s := { s with pwr := { s.pwr with calib := true } }
  ((s.rxStat 0).rxStat 1).raiseAll .mode

/-- A mode request (R458): its code and the state after it; `auth`: AUTH = 1; `byMsg`: a mode-request message. -/
def State.modeRequest (s : State) (mode par : Nat) (auth byMsg : Bool) : Code × State :=
  let no := (Code.refusedState, s)
  let r : Code × State :=
    if s.pwr.lockdown then (if mode = 1 && auth && par = 0 && s.ldClearOk then (.accepted, s.ldClear) else no)
    else if s.pwr.entry.isSome || s.pwr.boot || s.anyHalted then no
    else if mode = 5 then (if par = 0 && (s.mode = 1 || s.mode = 2) then (.accepted, s.calEnter) else no)
    else match Sleep.ofNum mode with
      | none => no
      | some m =>
        if !([1, 2, 4, 6].contains s.mode) || (m = .col && !s.colReady) || ((m = .deep || m = .off) && par ≠ 0) then no
        else
          let ans := match (s.mb 0).inq with | q :: _ => q.alive | [] => 0
          let e : Entry := { target := m, param := par, byMsg := byMsg, ans := ans, began := s.tick }
          let at' := if par = 0 then none else some (s.tick + par * 1000000)
          (.accepted, { s with pwr := { s.pwr with entry := some e, wakeAt := at' } }.raiseAll .mode)
  (r.1, r.2.sets [(PWR_REQSTAT_CODE, r.1.num), (PWR_REQSTAT_MODE, mode)])

/-- MODE_REQUEST_WRITE (R458): a write of PWR_REQ. -/
def execModeRequestWrite (w : Word) (s : State) : Host.Outcome State Fault Refusal :=
  .next (s.modeRequest (bits w.toNat 0 4) (s.get PWR_REQPAR_PARAM) false false).2

/-! ## Entry (R460, R461) -/

/-- Whether the response to the request has been retired or its time has passed (R460 step 2). -/
def State.entryAnswered (s : State) (e : Entry) : Bool :=
  let mine := fun (m : Msg) => m.cls = 1 && m.typ = 0x62 && m.ans = some e.ans
  let b := s.mb 0
  !e.byMsg || !(b.outq.any mine || b.wait.any mine) || decide (e.began + 1000 * s.get PWR_CTL_RETWAIT ≤ s.tick)

/-- Whether power goes away: DEEP SLEEP and OFF. -/
def Sleep.cuts (m : Sleep) : Bool := m = .deep || m = .off

/-- Whether the steps from 3 on may proceed (R460, R439, R505). -/
def State.entryGo (s : State) (e : Entry) : Bool :=
  !e.steps && s.entryAnswered e && !s.flag TXM_STAT_ACTIVE && s.cal.step.isNone &&
    (!e.target.cuts || (s.creation.isNone && !(s.live.any fun p => (s.mb p).busy)))

/-- The orderly save (R388, R213, R356, R513, R521), with every write that waits. -/
def State.orderlySave (s : State) : State :=
  let s := (s.nvDo .save).flushScree
  let sums := s.nv.sums
  let s := if s.cal.dirty || s.nvq.contains .calRecord then s.calWrite true else s
  let s := { s with nv := { s.nvConfig with sums := sums, duals := s.dualRecords }, nvs := { s.nvs with writes := s.nvs.writes + 2 }, nvq := [] }
  { s with ret := { s.ret with nvGen := s.nvs.writes, sums := s.dutySums } }

/-- The AO fields saved on entry to OFF (R485). -/
def State.aoSave (s : State) : Tab Nat :=
  s.regs.filter fun e => rwKey e.1 && aoKey e.1 && keyBlock e.1 ≠ 3

/-- A synthesiser loses its power. -/
def State.synPowerOff (s : State) (x : Nat) : State :=
  let s := s.sets [(SYNx_STAT_LOCK x, 0), (SYNx_STAT_SETTLING x, 0)]
  let s := s.updSynth x fun y => { y with ph := .off }
  if x < 2 then s.chainRetune x else s

/-- The retention image is written (R497); `deep`: for DEEP SLEEP. -/
def State.imageSave (s : State) (deep : Bool) : State :=
  let l := s.regs.filter fun e => retainKey e.1
  { s.sets [(RET_IMG_VALID, 1), (RET_IMG_SRC, deep.toNat), (RET_SAVET_SAVE, 1906)] with ret := { s.ret with img := l } }

/-- Steps 3 to 8 of an entry (R460). -/
def State.entrySteps (s : State) (e : Entry) : State :=
  let m := e.target
  let drv := (List.range 8).map s.gpDrive ++ [s.hirqDrive 0, s.hirqDrive 1]
  let s := (s.testStop .abortedPower).radioStop
  let s := if m.cuts then (s.endTxs .abortedPower false).wipeGroups else s
  let s := { s.dbgClose.sets [(UART_STAT_TXBUSY, 0), (UART_STAT_DEACT, 0)] with uart := { s.uart with send := none } }
  let s := if m.cuts then s.orderlySave else s
  let s := if m = .off then { s with ret := { s.ret with aoImg := some s.aoSave } } else s
  let s := if m = .col then s.colEnter.ceLoad else s
  let s := s.each [0, 1, 2] State.synPowerOff
  let s := if m = .off then s.set RET_IMG_VALID 0 else s.imageSave (m = .deep)
  let s := s.zeroSlots fun _ => true
  let s := { s.sets [(RET_DOMSTAT_ON, 1), (RET_DOMSTAT_BUSY, 0)] with
    ret := { s.ret with drain := [], padSv := true, pads := List.range 8, padDrv := drv }
    pwr := { s.pwr with entry := some { e with steps := true } } }
  (((s.vcoreTo m.mv).rxStat 0).rxStat 1)

/-- MODE_ENTRY_PROCEED (R460). -/
def execModeEntryProceed (s : State) : Host.Outcome State Fault Refusal :=
  .next (match s.pwr.entry with
  | some e => if s.entryGo e then s.entrySteps e else s
  | none => s)

/-- What outlives DEEP SLEEP or OFF: the eNVM, Cairn, what SV saved, in DEEP SLEEP the AO registers (R465, R485). -/
def State.powerCut (s : State) (m : Sleep) : State :=
  let deep := decide (m = .deep)
  let alive := [HIF_PALIVE_OUTNEXT, HIF_PALIVE_OUTRET, HIF_PALIVE_INLAST].flatMap fun F => allParts.map fun p => (F.at p).key
  let keep := fun k => outerKeys.contains k || alive.contains k || k = RET_IMG_VALID.key || (deep && aoKey k)
  { regs := s.regs.filter fun e => keep e.1
    mem := (s.zero colKeyStore 1024).mem.filter fun e => memKept true e.1
    fresh := s.fresh
    drbg := s.drbg
    tbs := { now := s.tbs.now, refill := s.tbs.refill, adjPend := deep && s.tbs.adjPend, setPend := if deep then s.tbs.setPend else none,
             psFirst := deep && s.tbs.psFirst, psFrac := if deep then s.tbs.psFrac else 0, psNext := if deep then s.tbs.psNext else 0 }
    parts := Tab.norm {} (s.parts.map fun e => (e.1, e.2.kept true))
    sysImg := Tab.norm {} (s.sysImg.map fun e => (e.1, { e.2 with verify := false }))
    pwr := { boot := false, sleep := some m, lostVol := s.live.filter fun p => !(s.volatile p).isEmpty, vddio := s.pwr.vddio, svDog := s.tick
             lowFrom := if deep then s.pwr.lowFrom else none, lowAsk := if deep then s.pwr.lowAsk else 0 }
    p0new := s.p0new
    nv := s.nv
    nvs := { writes := s.nvs.writes, repair := s.nvs.repair }
    scrSeq := s.scrSeq
    ret := s.ret
    tmp := if deep then { s.tmp with pkg := {} } else {}
    pending := s.pending }

/-- Whether the comparator's level wakes (R470). -/
def State.cmpLevel (s : State) : Bool :=
  s.flag PWR_WAKEEN_CMP && ((s.get PWR_CMPCFG_MODE = 1 && s.flag PWR_CMPSTAT_OUT) || (s.get PWR_CMPCFG_MODE = 2 && !s.flag PWR_CMPSTAT_OUT))

/-- Whether an enabled timer has expired (R462). -/
def State.timerLevel (s : State) : Bool :=
  s.flag PWR_WAKEEN_TIMER && s.live.any fun p => (List.range 4).any fun n =>
    (s.get (PWR_TMRWAKE_TMR.at p)).testBit n && s.flag ((TBS_TMRnC_EXP n).at p)

/-- Whether the timed wake is due (R458). -/
def State.wakeAtDue (s : State) : Bool := match s.pwr.wakeAt with | some t => decide (t ≤ s.tick) | none => false

/-- The level sources asserted in a sleep mode (R461, R462); `pin` is the level of WAKE. -/
def State.wakeLevels (s : State) (m : Sleep) (pin : Bool) : List Nat :=
  let light := m = .sleep || m = .col
  (if m ≠ .off && (List.range 5).any (fun i => s.policy i ≠ 0 && (s.get TMP_SRC_ACTIVE).testBit i) then [0] else []) ++
    (if pin then [1] else []) ++ (if m ≠ .off && s.cmpLevel then [2] else []) ++
    (if light && s.timerLevel then [6] else []) ++ (if light && s.wakeAtDue then [7] else [])

/-- MODE becomes the target; held and asserted sources start the wake (R461, R463). -/
def State.entryDone (s : State) (e : Entry) (pin : Bool) : State :=
  let m := e.target
  let lvl := s.wakeLevels m pin
  let srcs := (List.range 8).filter fun i => e.held.contains i || lvl.contains i
  let s := { s with
    pwr := { s.pwr with sleep := some m, entry := none, idle := false, waking := false }
    clk := { s.clk with xo := if m.cuts then .stopped else .sustain, relock := .idle } }
  let s := s.sets [(CLK_STAT_XORUN, 0), (CLK_STAT_PLLLOCK, 0), (CLK_STAT_FALLBACK, 0), (CLK_STAT_SPILIM, 0), (HIF_STAT_SPILIM, 0),
    (PWR_WAKESRC_SRC, 0), (PWR_WAKESRC_FIRST, 0), (PWR_WAKESRC_FROM, 0), (PWR_WAKESRC_LVLENT, 0)]
  let s := if m.cuts then s.powerCut m else s
  let s := if lvl.isEmpty then s else s.set PWR_WAKESRC_LVLENT 1
  srcs.foldl State.wakeFire s

/-- MODE_ENTRY_COMPLETE (R461). -/
def execModeEntryComplete (pin : Bool) (s : State) : Host.Outcome State Fault Refusal :=
  .next (match s.pwr.entry with
  | some e => if e.steps then s.entryDone e pin else s
  | none => s)

/-! ## Wake (R462 to R465, R498) -/

/-- Whether a source fires here (R462); TAMPER, COL and CEFAULT fire by what raises them. -/
def State.wakeReady (s : State) (src : Nat) : Bool :=
  let off := s.pwr.sleep = some .off
  let light := s.pwr.sleep = some .sleep || s.pwr.sleep = some .col || s.pwr.entry.isSome
  match src with
  | 1 => true
  | 2 => !off && s.cmpLevel
  | 5 => !off && s.flag UART_CTL_WAKEEN && s.pwr.vddio
  | 6 => light && s.timerLevel
  | 7 => light && s.wakeAtDue
  | _ => false

/-- WAKE_EVENT (R463, R452): a UART start edge that wakes loses its frame. -/
def execWakeEvent (src : Fin 8) (s : State) : Host.Outcome State Fault Refusal :=
  .next (if s.wakeReady src then
    let s := s.wake src
    if src = 5 then s.set UART_STAT_WAKELOST 1 else s
  else s)

/-- Restoring the retention image (R498). -/
def State.imageRestore (s : State) : State :=
  let tj := s.get CAL_TEMP_TJ
  let s := ((s.keepRegs fun k => !retainKey k).putRegs s.ret.img).set CAL_TEMP_TJ tj
  let s := s.sets [(RET_IMG_VALID, 0), (RET_SAVET_RESTORE, 1906), (NVC_LOGHEAD_SEQ, s.scrSeq)]
  { s with ret := { s.ret with img := [] } }

/-- The image failed its check word: BOOT as after OFF (R498). -/
def State.imageFail (s : State) : State :=
  let s := ((s.count RET_IMG_CHKERR 1).set RET_IMG_VALID 0).scree 30 0x0402 3 []
  let s := (s.flushScree).powerCut .deep
  let s := { s with pwr := { s.pwr with sleep := none, boot := true, bootFrom := some .off }, clk := { s.clk with xo := .run } }
  s.sets [(TBS_STAT_DISCONT, 1), (CLK_STAT_XORUN, 1), (CLK_STAT_PLLLOCK, 1)]

/-- SV releases its pads and those of no owner (R500). -/
def State.padsSv (s : State) : State :=
  { s with ret := { s.ret with padSv := false, pads := s.ret.pads.filter fun n => s.flag (GPC_PINn_OWNED n) } }

/-- The domains that power up as the run mode is reached: RFA, RFB and CHB where they are enabled (R484). -/
def State.domWake (s : State) : State :=
  let on := fun (b : Bool) (n : Nat) => if b then 2 ^ n else 0
  s.sets [(RET_DOMSTAT_ON, domRun), (RET_DOMSTAT_BUSY, on (s.flag (RXx_CTL_EN 0)) 2 + on (s.flag (RXx_CTL_EN 1)) 3 + on (s.flag CHB_STAT_RUN) 5)]

/-- The synthesisers that are enabled start again at their words. -/
def State.radioWake (s : State) : State :=
  let s := s.each [0, 1, 2] fun s x => if s.flag (SYNx_CTL_EN x) then s.synStart x (s.get (SYNx_FREQ_FREQ x)) else s
  (s.rxStat 0).rxStat 1

/-- A wake from SLEEP or COL reaches its run mode (R464); `pll`: the PLL has locked. -/
def State.wakeDone (s : State) (col pll : Bool) : State :=
  let s := s.imageRestore
  let ev := s.pwr.timerEv
  let hits := s.pwr.tampers
  let s := { s with
    clk := { s.clk with xo := .run }
    pwr := { s.pwr with sleep := none, waking := false, wakeAt := none, timerEv := [], tampers := [] } }
  let s := s.sets [(CLK_STAT_XORUN, 1), (PWR_WAKET_TICK, s.tick)]
  let s := if pll then (s.set CLK_STAT_PLLLOCK 1).fbUnrank else s.fbUnrank.fallbackIn
  let s := s.padsSv.domWake
  let s := if col then s.colStop.colSettle else s
  let s := hits.foldl (fun s i => if s.pwr.boot then s else s.respondTamper i) s
  if s.pwr.boot then s
  else
    let s := if pll && !s.pwr.lockdown then s.raiseAll .mode else s
    let s := ev.foldl (fun s e => s.raise e.1 (Ev.timer e.2)) s
    if s.pwr.lockdown then { s.sets [(COL_STAT_FRAMES, 0), (COL_STAT_OCTETS, 0)] with col := {} }
    else
      let s := if col then s.colRelease else if s.flag TBS_STAT_DISCONT then s else s.closePassed true
      s.radioWake

/-- WAKE_COMPLETE (R464, R498): `imgOk`: the check word of the retention image holds. -/
def execWakeComplete (pll imgOk : Bool) (s : State) : Host.Outcome State Fault Refusal :=
  .next (match s.pwr.sleep with
  | some m =>
    if m.cuts || !s.pwr.waking || s.flag COL_STAT_TXON then s
    else if imgOk then s.wakeDone (m = .col) pll else s.imageFail
  | none => s)

/-! ## IDLE (R466) -/

/-- Whether a context other than one blocked is runnable. -/
def State.anyGoing (s : State) : Bool :=
  s.progs.any fun e => e.2.going && (e.1 < 33 || 64 ≤ e.1 || (e.1 < 35 && s.flag (ENG_SEQCTLx_EN (e.1 - 33))))

/-- The conditions of R466. -/
def State.idleOk (s : State) : Bool :=
  decide (s.mode = 1) && s.flag PWR_CTL_AUTOIDLE && s.pwr.entry.isNone && !s.anyGoing &&
    !s.flag (RXx_CTL_EN 0) && !s.flag (RXx_CTL_EN 1) && (s.txs.all fun t => t.stage = .acked) &&
    s.trl.wait.isEmpty && (s.rx.all fun e => match e.2 with | some f => f.stage = .done | none => true) &&
    (s.parts.all fun e => e.2.tickets.all fun t => t.status.isSome) && !(s.live.any fun p => (s.mb p).busy) && s.dbg.scope.isNone

/-- IDLE_ENTRY (R466): the conditions have held for 100 µs. -/
def execIdleEntry (s : State) : Host.Outcome State Fault Refusal :=
  .next (if s.idleOk then { s with pwr := { s.pwr with idle := true } }.vcoreTo 850 else s)

/-- IDLE_EXIT (R466). -/
def execIdleExit (s : State) : Host.Outcome State Fault Refusal :=
  .next (if s.pwr.idle then { s with pwr := { s.pwr with idle := false } }.vcoreTo vRun else s)

/-! ## The comparator (R470, R471) -/

/-- Whether a change of the comparator to `out` wakes (R470). -/
def State.cmpWakes (s : State) (out : Bool) : Bool :=
  s.flag PWR_WAKEEN_CMP && match s.get PWR_CMPCFG_MODE with
    | 1 | 3 => out
    | 2 | 4 => !out
    | 5 => true
    | _ => false

/-- COMPARATOR_CHANGE (R470, R343). -/
def execComparatorChange (out : Bool) (s : State) : Host.Outcome State Fault Refusal :=
  .next (if s.get PWR_CMPCFG_MODE = 0 || s.pwr.sleep = some .off || s.flag PWR_CMPSTAT_OUT = out then s
  else
    let s := (s.setB PWR_CMPSTAT_OUT out).set PWR_CMPSTAT_CROSS 1
    let s := { s with pwr := { s.pwr with lowFrom := if out then none else some s.tick } }
    let s := if s.inCol then s.latch 35 6 else s
    if s.cmpWakes out then s.wake 2 else s)

/-- A write of PWR_CMPCFG: a comparator switched on counts OUT = 0 from now (R471). -/
def State.writeCmpcfg (s : State) (w : Nat) : State :=
  let was := s.get PWR_CMPCFG_MODE
  let s := s.putFlds w [PWR_CMPCFG_AUTODLY, PWR_CMPCFG_AUTOCOL, PWR_CMPCFG_MODE, PWR_CMPCFG_HYST, PWR_CMPCFG_THR]
  if was = 0 && s.get PWR_CMPCFG_MODE ≠ 0 && !s.flag PWR_CMPSTAT_OUT then { s with pwr := { s.pwr with lowFrom := some s.tick } } else s

/-- Seconds for which OUT has been 0 (PWR_CMPSTAT.LOWSEC), saturating. -/
def State.lowSec (s : State) : Nat := match s.pwr.lowFrom with | some t => min 65535 ((s.tick - t) / 1000000) | none => 0

/-- AUTO_COL_REQUEST (R471). -/
def execAutoColRequest (s : State) : Host.Outcome State Fault Refusal :=
  .next (match s.pwr.lowFrom with
  | none => s
  | some t =>
    if !s.flag PWR_CMPCFG_AUTOCOL || s.get PWR_CMPCFG_MODE = 0 || s.flag PWR_CMPSTAT_OUT || s.pwr.sleep.isSome || s.pwr.boot ||
        s.pwr.lockdown || s.tick < max t s.pwr.lowAsk + 1000000 * s.get PWR_CMPCFG_AUTODLY then s
    else ({ s with pwr := { s.pwr with lowAsk := s.tick } }.modeRequest 9 0 false false).2)

end Sys2Proof.Machine
end

