-- ==== Sys2Proof/Machine/Ret.lean ====
section
/-!
DEFINITION. Power domains, VCORE, body bias and pad release (spec/18, R483 to R500).
-/

namespace Sys2Proof.Machine

open Reg

/-! ## Domains (R486 to R489) -/

/-- A bit of RET_DOMSTAT.ON. -/
def State.domOn (s : State) (n : Nat) : Bool := (s.get RET_DOMSTAT_ON).testBit n
/-- A bit of RET_DOMSTAT.BUSY. -/
def State.domBusy (s : State) (n : Nat) : Bool := (s.get RET_DOMSTAT_BUSY).testBit n
/-- Setting a bit of a mask. -/
def putBit (m n : Nat) (b : Bool) : Nat := if b then m ||| 2 ^ n else if m.testBit n then m - 2 ^ n else m
/-- A domain's ON and BUSY. -/
def State.domSet (s : State) (n : Nat) (on busy : Bool) : State :=
  s.sets [(RET_DOMSTAT_ON, putBit (s.get RET_DOMSTAT_ON) n on), (RET_DOMSTAT_BUSY, putBit (s.get RET_DOMSTAT_BUSY) n busy)]

/-- The domains of the synthesisers: RFA 2, RFB 3, TXD 4. -/
def domSynth (n : Nat) : Option Nat := if 2 ≤ n ∧ n ≤ 4 then some (n - 2) else none

/-- Whether an access may wake a domain now: in the run modes; in COL those on demand (R484); none that is shed (R490). -/
def State.domWakes (s : State) (n : Nat) : Bool :=
  (match s.pwr.sleep with | none => true | some .col => [4, 7, 9, 13].contains n | some _ => false) &&
    !(s.ret.shed && s.ret.cut.contains n)

/-- DOMAIN_WAKE_ON_DEMAND (R486, R489): an automatic power-down that still drains is cancelled. -/
def execDomainWakeOnDemand (n : Fin 16) (s : State) : Host.Outcome State Fault Refusal :=
  .next (if !s.domWakes n then s
  else if s.domOn n then
    if s.ret.drain.contains n.val then { s.domSet n true false with ret := { s.ret with drain := s.ret.drain.filter (· ≠ n.val) } } else s
  else if s.domBusy n then s
  else
    let s := ((s.domSet n false true).count RET_ODSTAT_COUNT 1).set RET_ODSTAT_LASTDOM n
    match domSynth n with
    | some x => if s.flag (SYNx_CTL_EN x) && (s.synth x).ph = .off then s.synStart x (s.get (SYNx_FREQ_FREQ x)) else s
    | none => s)

/-- DOMAIN_READY (R486): `us` is the longest stall of an access that waited, in µs. -/
def execDomainReady (n : Fin 16) (us : Nat) (s : State) : Host.Outcome State Fault Refusal :=
  .next (if s.domOn n || !s.domBusy n then s
  else (s.domSet n true false).set RET_ODSTAT_MAXSTALL (max (s.get RET_ODSTAT_MAXSTALL) (min us 4095)))

/-- Whether RET_DOMAUTO lets a domain power down. -/
def State.domAuto (s : State) : Nat → Bool
  | 2 => s.flag RET_DOMAUTO_RFA | 3 => s.flag RET_DOMAUTO_RFB | 4 => s.flag RET_DOMAUTO_TXD | 5 => s.flag RET_DOMAUTO_CHB
  | 6 => s.flag RET_DOMAUTO_TRL | 7 => s.flag RET_DOMAUTO_SEC | 9 => s.flag RET_DOMAUTO_NVM | 15 => s.flag RET_DOMAUTO_SPARE
  | _ => false

/-- Whether a sequencer runs a program. -/
def State.seqRuns (s : State) (x : Nat) : Bool := s.flag (ENG_SEQCTLx_EN x) && !(s.seqr x).stopped && !(s.prog (33 + x)).halted

/-- Whether a domain lies in the reach of a running sequencer (R336, R487). -/
def State.domReach (s : State) (n : Nat) : Bool :=
  match n with
  | 2 => s.seqRuns 0 && s.svc 0 ≠ 2
  | 3 => s.seqRuns 1 && s.svc 1 ≠ 2
  | 4 | 5 => s.seqRuns 0 || s.seqRuns 1
  | _ => false

/-- Whether a domain has work in progress or is held on (R484, R488). -/
def State.domWork (s : State) (n : Nat) : Bool :=
  match n with
  | 2 => (s.flag (RXx_CTL_EN 0) && s.svc 0 ≠ 2) || s.flag (SYNx_STAT_SETTLING 0)
  | 3 => (s.flag (RXx_CTL_EN 1) && s.svc 1 ≠ 2) || s.flag (SYNx_STAT_SETTLING 1) || s.flag (RXx_STAT_MON 1)
  | 4 => !s.txs.isEmpty || s.flag (SYNx_STAT_SETTLING 2) || s.flag TXM_STAT_ACTIVE || s.cal.step.isSome
  | 5 => s.flag CHB_STAT_RUN
  | 6 => !s.trl.wait.isEmpty || s.trl.dec.any fun e => e.2.isSome
  | 7 => s.rx.any fun e => match e.2 with | some f => f.stage = .tag | none => false
  | 9 => !s.nvq.isEmpty
  | 15 => s.flag DBG_REPAIR_RELOC || s.flag DBG_REPAIR_PERM
  | _ => true

/-- DOMAIN_IDLE_POWER_DOWN (R487, R488): no access and no work for RET_IDLET µs. -/
def execDomainIdlePowerDown (n : Fin 16) (s : State) : Host.Outcome State Fault Refusal :=
  .next (if s.domOn n && !s.domBusy n && s.domAuto n && !s.domReach n && !s.domWork n && s.pwr.sleep.isNone then
    { s.domSet n true true with ret := { s.ret with drain := s.ret.drain ++ [n.val] } }
  else s)

/-- A domain loses its power: synthesisers stop, key slots are zeroed (R386, R484). -/
def State.domOff (s : State) (n : Nat) : State :=
  let s := s.domSet n false false
  match domSynth n with
  | some x => s.synPowerOff x
  | none => if n = 7 then s.zeroSlots fun _ => true else s

/-- POWER_DOWN_DRAIN_END (R489): `drained`, or abandoned after 100 µs. -/
def execPowerDownDrainEnd (n : Fin 16) (drained : Bool) (s : State) : Host.Outcome State Fault Refusal :=
  .next (if !s.ret.drain.contains n.val then s
  else
    let s := { s with ret := { s.ret with drain := s.ret.drain.filter (· ≠ n.val) } }
    if drained then s.domOff n
    else ((s.domSet n true false).count RET_PDSTAT_ABANDON 1).set RET_PDSTAT_LASTDOM n)

/-! ## The shed (R490, R491) -/

/-- The domains the shed cuts: RFA, RFB, TXD, CHB, TRL, SEC. -/
def shedDoms : List Nat := [2, 3, 4, 5, 6, 7]

/-- What is in flight in the domains cut ends (R491). -/
def State.shedEnd (s : State) : State :=
  let s := s.txAbort .abortedPower false
  let own := s.ownersOf (allSlots.filter s.slotEn)
  let s := ((s.loseSlots CHB_LOSTB_OTHER allSlots).wipeRx).raiseMask own .slotSuspended
  let s := (s.endTickets (fun _ => true) .abortedPower).endBusy (fun _ => true) .abortedPower
  let s := [0, 1, 2].foldl (fun s i => s.calAbandon i) s
  match s.test with
  | some t => if [1, 2, 4].contains t.kind then s.testStop .abortedPower else s
  | none => s

/-- SUPPLY_SHED (R490, R491, R100): `mv` is the supply in mV; `pfa` and `pfb`: RFA or RFB reports a power fault. -/
def execSupplyShed (mv : BitVec 16) (pfa pfb : Bool) (s : State) : Host.Outcome State Fault Refusal :=
  .next (if s.ret.shed || s.pwr.held || s.pwr.sleep = some .deep || s.pwr.sleep = some .off then s
  else
    let s := s.shedEnd
    let s := shedDoms.foldl State.domOff s
    let s := (s.set RET_FPD_TICK s.tick).count RET_PDSTAT_FORCED 1
    let s := { s with ret := { s.ret with shed := true, cut := shedDoms, drain := s.ret.drain.filter fun n => !shedDoms.contains n } }
    let s := (s.set CHB_STAT_RUN 0).scree 30 0x0401 3 (octets 2 mv.toNat)
    let s := if pfa then s.chainFault 0 2 else s
    let s := if pfb then s.chainFault 1 2 else s
    (s.rxStat 0).rxStat 1)

/-- SUPPLY_SHED_RECOVERY (R490): 10 ms above the threshold; the domains in use power up, the bank restarts. -/
def execSupplyShedRecovery (s : State) : Host.Outcome State Fault Refusal :=
  .next (if !s.ret.shed then s
  else
    let s := { s with ret := { s.ret with shed := false, cut := [] } }
    if s.pwr.sleep.isSome then s
    else
      let s := s.chbRun
      let s := if s.flag (RXx_CTL_EN 0) then s.domSet 2 false true else s
      let s := if s.flag (RXx_CTL_EN 1) then s.domSet 3 false true else s
      let s := if s.flag CHB_STAT_RUN then s.domSet 5 false true else s
      let s := s.each [0, 1, 2] fun s x => if s.flag (SYNx_CTL_EN x) then s.synStart x (s.get (SYNx_FREQ_FREQ x)) else s
      (s.rxStat 0).rxStat 1)

/-! ## VCORE and bias (R493, R494) -/

/-- The body bias that goes with a target, in 0.1 V (R492). -/
def rbbFor (mv : Nat) : Nat := if mv = 750 then 3 else if mv = 600 then 5 else 0

/-- A bias change starts. -/
def State.biasGo (s : State) (on : Bool) : State := { s.set RET_BIAS_CHANGING 1 with ret := { s.ret with biasOn := on } }

/-- VCORE_TARGET_REACHED (R493): bias and retention assist follow at a sleep target (R494). -/
def execVcoreTargetReached (s : State) : Host.Outcome State Fault Refusal :=
  .next (if !s.flag RET_VCORE_SLEW || s.vcore ≠ s.get RET_VCORE_TARGET then s
  else
    let s := s.sets [(RET_VCORE_PRESENT, s.get RET_VCORE_TARGET), (RET_VCORE_SLEW, 0)]
    if rbbFor (s.get RET_VCORE_TARGET) ≠ 0 then s.biasGo true else s)

/-- BIAS_CHANGE_DONE (R494): a retarget that arrived meanwhile is taken up. -/
def execBiasChangeDone (s : State) : Host.Outcome State Fault Refusal :=
  .next (if !s.flag RET_BIAS_CHANGING then s
  else
    let t := s.get RET_VCORE_TARGET
    let v := s.get RET_VCORE_PRESENT
    let on := s.ret.biasOn
    let s := s.sets [(RET_BIAS_CHANGING, 0), (RET_BIAS_RBB, if on then rbbFor v else 0), (RET_BIAS_ASSIST, on.toNat)]
    if t = v then (if !on && rbbFor t ≠ 0 then s.biasGo true else s)
    else if v < t && on then s.biasGo false
    else s.slew)

/-! ## Pads (R500) -/

/-- The latched GP pins a partition owns. -/
def State.padsOf (s : State) (p : Nat) : List Nat :=
  s.ret.pads.filter fun n => s.flag (GPC_PINn_OWNED n) && s.get (GPC_PINn_OWNER n) = p

/-- A write of PWR_PADREL.REL = 1. -/
def State.padRelease (s : State) (p : Nat) : State :=
  let mine := s.padsOf p
  { s with ret := { s.ret with pads := s.ret.pads.filter fun n => !mine.contains n } }

/-- PAD_RELEASE (R500). -/
def execPadRelease (p : Fin 32) (s : State) : Host.Outcome State Fault Refusal := .next (s.padRelease p)

end Sys2Proof.Machine
end

