-- ==== Sys2Proof/Machine/Tmp.lean ====
section
/-!
DEFINITION. Lifecycle and tamper (spec/20): commissioning, decommissioning, handover (R527 to R531, R548 to
R553), tamper sources and policies (R539 to R542).
-/

namespace Sys2Proof.Machine

open Reg

/-! ## Package operations -/

/-- The octets at the package buffer in P0's packet window. -/
def State.pkgBuf (s : State) (n : Nat) : List Byte := s.winOcts 0 (4096 * s.get TMP_PKGADDR_ADDR) n

/-- A package operation starts. -/
def State.pkgBegin (s : State) (k : PkgKind) (o : List Byte) : State :=
  { s.sets [(TMP_PKGSTAT_BUSY, 1), (TMP_PKGSTAT_DONE, 0), (TMP_PKGSTAT_CODE, 0), (TMP_PKGSTAT_READY, 0), (TMP_PKGSTAT_LAST, 0),
    (TMP_PKGSTAT_CHUNK, 0)] with tmp := { s.tmp with pkg := { kind := some k, octs := o } } }

/-- A package operation ends under a code. -/
def State.pkgEnd (s : State) (c : Code) : State :=
  { s.sets [(TMP_PKGSTAT_BUSY, 0), (TMP_PKGSTAT_DONE, 1), (TMP_PKGSTAT_CODE, c.num), (TMP_PKGSTAT_READY, 0), (TMP_PKGSTAT_LAST, 0)] with
    tmp := { s.tmp with pkg := {} } }

/-- Setting the lifecycle state, with the reason Scree records (R527, R554). -/
def State.lcPut (s : State) (lc cause : Nat) : State :=
  ((s.bootPut fun r => { r with lc := lc, importing := false }).set TMP_LCSTAT_LC lc).scree 28 0x0316 2 [BitVec.ofNat 8 lc, BitVec.ofNat 8 cause]

/-! ## Commissioning (R528) -/

/-- The judgement of a commissioning package: its code, and the installer key where it passes. -/
def commVerdict (lc : Nat) (o : List Byte) : Code × List Byte :=
  let f := fun a n => (o.drop a).take n
  if lc ≠ 0 then (.refusedState, [])
  else if ofOctets (f 0 4) ≠ 0x434F4D4D || ofOctets (f 4 1) ≠ 1 || ofOctets (f 5 3) ≠ 0 then (.refusedState, [])
  else match Config.ecdh (f 8 64) with
    | none => (.authFail, [])
    | some z => match Config.keyUnwrap (transportKey z devPub (f 8 64)) (f 72 24) with
      | none => (.authFail, [])
      | some k => if Config.cmac k (o.take 160) = f 160 16 then (.done, k) else (.authFail, [])

/-- A write of COMMISSION. -/
def State.commission (s : State) : State := if s.tmp.pkg.kind.isSome then s else s.pkgBegin .commission (s.pkgBuf 176)

/-- COMMISSION (R528). -/
def execCommission (s : State) : Host.Outcome State Fault Refusal := .next s.commission

/-- COMMISSION_DONE (R528): 10 ms after the write, whatever the outcome. -/
def execCommissionDone (s : State) : Host.Outcome State Fault Refusal :=
  .next (if s.svHalted then s else if s.tmp.pkg.kind ≠ some .commission then s
  else
    let o := s.tmp.pkg.octs
    let v := commVerdict (s.get TMP_LCSTAT_LC) o
    let s := if v.1 = Code.done then (((s.putInstaller v.2).putSign ((o.drop 96).take 64)).putAuthCtr 0).lcPut 1 0 else s
    s.pkgEnd v.1)

/-! ## Authority (R530) -/

/-- The verdict on a write that needs authority: refused, it sets AUTHREJ. -/
def State.withAuth (s : State) (auth : Bool) (f : State → State) : State :=
  if auth then f (s.set TMP_LCSTAT_AUTHREJ 0) else s.set TMP_LCSTAT_AUTHREJ 1

/-! ## Decommissioning (R531) -/

/-- A partition purged whole, its images erased. -/
def State.purgeNow (s : State) (p : Nat) : State :=
  let s := (s.updProg p Prog.stop).updProg (64 + p) Prog.stop
  let s := if (s.txs.any fun t => t.stage = .onAir && t.p = p) then s.txAbort .abortedReset false else s
  let s := s.purgeEffects p
  let P := s.part p
  let s := { (s.eraseSlot P.slot0).eraseSlot P.slot1 with parts := Tab.del s.parts p }
  match s.creation with
  | some c => if c.purge = some p then s.createEnd c [] else s
  | none => s

/-- Steps 1 and 2 of R531. -/
def State.estateGone (s : State) : State := ((s.live.filter (· ≠ 0)).foldl State.purgeNow s).estateWipe

/-- A decommissioning. -/
def State.decommission (s : State) : State := (s.estateGone.lcPut 0 1).pkgEnd .done

/-- DECOMMISSION (R531, R530). -/
def execDecommission (auth : Bool) (s : State) : Host.Outcome State Fault Refusal :=
  .next (if s.tmp.pkg.kind.isSome then s else s.withAuth auth State.decommission)

/-! ## Export (R548, R549) -/

/-- The plain octets of a package before its trailer. -/
def State.pkgPlain (s : State) (kt spub : List Byte) : List Byte :=
  let ik := match s.installerKey with | some k => k | none => []
  let parts := s.live.filter (· ≠ 0)
  let recs := ksRecs.filter fun r => s.ksKind r ≠ 0
  let ents := s.live.flatMap fun p => (s.entsOf p).map fun li => (p, li)
  let imgs := s.pkgSlots
  let secs := pkgSec 1 (Config.keyWrap kt ik ++ s.signKey ++ octets 4 s.authCtr) ++
    pkgSec 2 (parts.flatMap fun p => { (s.part p).desc with ownKey := s.octs (ksAddr p) 24 }.octets) ++
    pkgSec 3 (recs.flatMap fun r => s.octs (ksAddr r) 32) ++
    pkgSec 4 (ents.flatMap fun e => s.pkgEntry e.1 e.2) ++
    imgs.flatMap s.pkgImage ++
    pkgSec 6 (settingsPut (s.pkgSettings s.dutySums s.dualRecords))
  octets 4 0x56484F56 ++ octets 2 1 ++ octets 1 (s.get SYS_GEN_GEN) ++ octets 1 0 ++ devPub ++ Config.sha256 spub ++
    octets 8 (s.tbs.now % 2 ^ 62) ++ octets 4 (5 + imgs.length) ++ octets 4 (128 + secs.length + 64) ++ octets 8 0 ++ secs

/-- A package as it leaves the device: signed, then encrypted after its header. -/
def State.pkgMake (s : State) (z spub : List Byte) : List Byte :=
  let kt := transportKey z devPub spub
  let o := s.pkgPlain kt spub
  o.take 128 ++ pkgCrypt kt 128 (o.drop 128 ++ Config.identitySign o)

/-- An accepted export: the chains stop, P1 to P31 stop (R549 step 2). -/
def State.exportGo (s : State) : State :=
  match (if s.get TMP_LCSTAT_LC = 1 then Config.ecdh (s.pkgBuf 64) else none) with
  | none => s.pkgEnd (if s.get TMP_LCSTAT_LC = 1 then .authFail else .refusedState)
  | some z =>
    let spub := s.pkgBuf 64
    let s := (s.radioStop.pkgBegin .exporting (s.pkgMake z spub)).set TMP_LCSTAT_EXPORT 1
    let s := (s.live.filter (· ≠ 0)).foldl (fun s p => (s.updProg p Prog.stop).updProg (64 + p) Prog.stop) s
    (s.rxStat 0).rxStat 1

/-- EXPORT (R549). -/
def execExportPkg (auth : Bool) (s : State) : Host.Outcome State Fault Refusal :=
  .next (if s.tmp.pkg.kind.isSome then s else s.withAuth auth State.exportGo)

/-- EXPORT_CHUNK_READY (R549 step 3). -/
def execExportChunkReady (s : State) : Host.Outcome State Fault Refusal :=
  .next (if s.svHalted then s else 
    let k := s.tmp.pkg
    if k.kind ≠ some .exporting || s.flag TMP_PKGSTAT_READY || k.octs.length ≤ k.pos then s
    else
      let c := (k.octs.drop k.pos).take 4096
      let s := s.winStore 0 (4096 * s.get TMP_PKGADDR_ADDR) c
      let s := s.sets [(TMP_PKGLEN_LEN, c.length), (TMP_PKGSTAT_READY, 1), (TMP_PKGSTAT_CHUNK, k.pos / 4096),
        (TMP_PKGSTAT_LAST, (decide (k.octs.length ≤ k.pos + 4096)).toNat)]
      { s with tmp := { s.tmp with pkg := { s.tmp.pkg with pos := k.pos + c.length } } })

/-! ## Import (R551, R552) -/

/-- IMPORT (R551). -/
def State.importGo (s : State) : State :=
  if s.tmp.pkg.kind.isSome then s else (s.pkgBegin .importing []).bootPut fun r => { r with importing := true }

/-- A write of IMPORT. -/
def execImportPkg (s : State) : Host.Outcome State Fault Refusal := .next s.importGo

/-- KT as the successor forms it: of the exporter's DEVPUB (R548). -/
def importKey (hdr : List Byte) : List Byte :=
  let dev := (hdr.drop 8).take 64
  match Config.ecdh dev with
  | some z => transportKey z dev devPub
  | none => []

/-- The octets supplied so far with a chunk added: those after the header are decrypted. -/
def importAdd (o c : List Byte) : List Byte :=
  let all := o ++ c
  if o.length < 128 then all.take 128 ++ pkgCrypt (importKey (all.take 128)) 128 (all.drop 128)
  else o ++ pkgCrypt (importKey (o.take 128)) o.length c

/-- The package length its header states. -/
def pkgLength (o : List Byte) : Nat := ofOctets ((o.drop 116).take 4)

/-- The first body of a section type. -/
def secBody (l : List (Nat × List Byte)) (t : Nat) : List Byte := match l.find? fun e => e.1 = t with | some e => e.2 | none => []

/-- Octets cut into pieces of `n`. -/
def pieces (n : Nat) (o : List Byte) : List (List Byte) := (List.range (o.length / n)).map fun i => (o.drop (n * i)).take n

/-- Installing the descriptors in order, each under R266; the first failing code. -/
def State.importParts (s : State) : List (List Byte) → Code × State
  | [] => (.done, s)
  | d :: t => let c := s.createCode d; if c = Code.done then (s.createDo (descOf d)).importParts t else (c, s)

/-- Installing an image (R347 checks 3 to 5): the failing code. -/
def State.importImage (s : State) (b : List Byte) : Code × State :=
  let p := ofOctets (b.take 1) % 32
  let kind := ofOctets ((b.drop 1).take 1)
  let i := ofOctets ((b.drop 2).take 1) % 2
  let o := b.drop 4
  let x := s.imgSlot p kind i
  let h := hdrOf o
  let x := { x with hdr := h, len := o.length, chunks := [(0, o.length)],
                    st := if ofOctets ((b.drop 3).take 1) = 3 then .active else if ofOctets ((b.drop 3).take 1) = 5 then .imageB else .verified }
  if !s.imgFits p kind x h then (.refusedLength, s)
  else
    let s := s.store x.base o
    if !imgForm (o.take 64) kind h then (.refusedState, s)
    else if !s.imgSigned p kind x.base h then (.authFail, s)
    else (.done, s.putImg p kind i { x with sealD := some (s.imgDigest x) })

/-- Installing the images in order. -/
def State.importImages (s : State) : List (List Byte) → Code × State
  | [] => (.done, s)
  | b :: t => let r := s.importImage b; if r.1 = Code.done then r.2.importImages t else r

/-- Storing the key-table records into the lowest free ones. -/
def State.importRec (s : State) (o : List Byte) : State :=
  match ksRecs.find? fun r => s.ksKind r = 0 with
  | some r => s.store (ksAddr r) o
  | none => s

/-- Restoring an association with its exported counters, written to the checkpoint (R552). -/
def State.importEntry (s : State) (o : List Byte) : State :=
  let li := ofOctets (o.take 2)
  let p := ofOctets ((o.drop 2).take 2)
  if !s.pexists p || (s.part p).desc.assocQ ≤ li then s
  else
    let ph := s.entOf p li
    let s := (s.store (ntFirst + 64 * ph) (o.drop 4)).updAsc ph fun _ => {}
    (((s.ckTake p li).ckPut p li false).arm ph).ascUsed p

/-- Checks 1 to 7 of R551 with what they install: the first failing code. -/
def State.importRun (s : State) (o : List Byte) : Code × State :=
  let f := fun a n => (o.drop a).take n
  let len := pkgLength o
  let l := pkgSections o
  let one := secBody l 1
  if s.get TMP_LCSTAT_LC ≠ 0 || s.live.any (· ≠ 0) then (.refusedState, s)
  else if ofOctets (f 0 4) ≠ 0x56484F56 || ofOctets (f 4 2) ≠ 1 then (.refusedState, s)
  else if f 72 32 ≠ Config.sha256 devPub then (.refusedAccess, s)
  else if !Config.ecdsaVerify (f 8 64) (o.take (len - 64)) (f (len - 64) 64) then (.authFail, s)
  else if ofOctets (f 6 1) ≠ s.get SYS_GEN_GEN then (.refusedState, s)
  else match Config.keyUnwrap (importKey (o.take 128)) (one.take 24) with
    | none => (.authFail, s)
    | some ik =>
      let descs := pieces 64 (secBody l 2)
      if descs.any fun d => (Config.keyUnwrap ik ((d.drop 24).take 24)).isNone then (.authFail, s)
      else
        let s := (s.putInstaller ik).putSign ((one.drop 24).take 64)
        let r := s.importParts descs
        if r.1 ≠ Code.done then r
        else
          let r := r.2.importImages ((l.filter fun e => e.1 = 5).map Prod.snd)
          if r.1 ≠ Code.done then r
          else
            let s := r.2.putAuthCtr (ofOctets ((one.drop 88).take 4))
            let s := (pieces 32 (secBody l 3)).foldl State.importRec s
            (.done, (pieces 68 (secBody l 4)).foldl State.importEntry s)

/-- The settings, the profile and the plan of an accepted import (R552). -/
def State.importSettings (s : State) (t : Settings) : State :=
  let s := t.regs.foldl (fun s e => if rwKey e.1 then (match keyFld e.1 with | some F => { s with regs := Tab.set F.rst s.regs e.1 e.2 } | none => s) else s) s
  let use : Tab BandUse := t.sums.map fun e => (e.1, { hist := [(s.tick / 1000000, e.2)] })
  let s := { s with air := { s.air with prof := t.reg, use := use } }
  let s := { s.regShow with chb := { s.chb with pend := t.plan } }
  { s.set CHB_PLANSTAT_PEND t.plan.isSome.toNat with nv := { s.nvConfig with duals := t.duals } }

/-- Starting a partition's images: its only one, or both of a window that is open again (R350, R356). -/
def State.partStart (s : State) (p : Nat) (d : Option NvDual) : State :=
  let P := s.part p
  let i := if P.slot1.st = .active then 1 else 0
  if (P.slot i).st ≠ .active then s.set (PRT_PSTATp_STATE p) PState.stopped.num
  else
    let s := (s.loadImage p i false).set (PRT_PSTATp_STATE p) PState.running.num
    match d with
    | some d =>
      let s := s.dualOpen p d.slotB d.endLeft d.endAct
      s.sets [(ENG_DUAL_MBOXIMG.at p, d.mboxImg), (ASC_PVMAP_MAP.at p, d.pvmap)]
    | none => s

/-- An accepted import's end (R552, R583). -/
def State.importEnd (s : State) (o : List Byte) : State :=
  let t := settingsGet (secBody (pkgSections o) 6)
  let s := s.importSettings t
  let s := s.live.foldl (fun s p => s.partStart p (Tab.get none t.duals p)) s
  let g := s.get SYS_GEN_GEN
  let s := { s with nvq := s.nvq ++ [NvReq.gen g] }
  (((s.set SYS_RSTCTL_NEXTGEN g).lcPut 1 3).askConfig).pkgEnd .done

/-- IMPORT_DONE (R551, R552): the package is whole; on a failure everything written is wiped. Where check 1 fails
nothing has been written. DEDUCED: an estate that exists is not an area the import has written. -/
def execImportDone (s : State) : Host.Outcome State Fault Refusal :=
  .next (if s.svHalted then s else 
    let o := s.tmp.pkg.octs
    if s.tmp.pkg.kind ≠ some .importing || o.length < 128 + 64 || o.length < pkgLength o then s
    else
      let r := s.importRun o
      if r.1 = Code.done then r.2.importEnd o
      else
        let s := if s.get TMP_LCSTAT_LC ≠ 0 || s.live.any (· ≠ 0) then s else s.importWipe o
        (s.bootPut fun b => { b with importing := false }).pkgEnd r.1)

/-- NEXT (R549, R551): the present chunk is taken or supplied. -/
def State.pkgNext (s : State) : State :=
  let k := s.tmp.pkg
  match k.kind with
  | some .exporting =>
    if !s.flag TMP_PKGSTAT_READY then s
    else if !s.flag TMP_PKGSTAT_LAST then s.set TMP_PKGSTAT_READY 0
    else
      let s := ((s.estateGone.lcPut 2 2).set TMP_LCSTAT_EXPORT 0).pkgEnd .done
      s.lockdownIn 4
  | some .importing =>
    let c := s.pkgBuf (min 4096 (s.get TMP_PKGLEN_LEN))
    let s := s.count TMP_PKGSTAT_CHUNK 1
    { s with tmp := { s.tmp with pkg := { s.tmp.pkg with octs := importAdd k.octs c } } }
  | _ => s

/-- PACKAGE_NEXT (R549, R551). -/
def execPackageNext (s : State) : Host.Outcome State Fault Refusal := .next s.pkgNext

/-- ABORT of a package operation (R549, R551): partitions resume as after a SOFT reset. -/
def State.pkgAbort (s : State) (auth : Bool) : State :=
  match s.tmp.pkg.kind with
  | some .exporting => s.withAuth auth fun s =>
    let s := (s.set TMP_LCSTAT_EXPORT 0).pkgEnd .deferred
    let s := (s.live.filter (· ≠ 0)).foldl (fun s p => if (s.part p).rst.isSome then s else (s.restart p).releaseHeld p) s
    (s.rxStat 0).rxStat 1
  | some .importing => s.pkgDrop.pkgEnd .deferred
  | _ => s

/-- PACKAGE_ABORT (R549, R551). -/
def execPackageAbort (auth : Bool) (s : State) : Host.Outcome State Fault Refusal := .next (s.pkgAbort auth)

/-- A write of TMP_LCCTL: its bits act in the order of the register. -/
def State.writeLcctl (s : State) (w : Nat) (auth : Bool) : State :=
  let busy := fun (s : State) => s.tmp.pkg.kind.isSome
  let s := if bit w 0 then s.commission else s
  let s := if bit w 1 && !busy s then s.withAuth auth State.decommission else s
  let s := if bit w 2 && !busy s then s.withAuth auth State.exportGo else s
  let s := if bit w 3 then s.importGo else s
  let s := if bit w 4 then s.pkgNext else s
  if bit w 5 then s.pkgAbort auth else s

/-! ## Tamper sources and policies (R539 to R542, R530) -/

/-- The fields of TMP_POLICY, by source. -/
def policyFlds : List Fld := [TMP_POLICY_LOOP, TMP_POLICY_GLITCH, TMP_POLICY_CLOCK, TMP_POLICY_TEMP, TMP_POLICY_AUTHF]

/-- A write of TMP_POLICY (R530, R540): lowering a field needs authority. -/
def State.writePolicy (s : State) (w : Nat) (auth : Bool) : State :=
  let lowers := policyFlds.any fun F => decide (bits w F.lo F.w < s.get F)
  if lowers then s.withAuth auth fun s => s.putFlds w policyFlds else s.putFlds w policyFlds

/-- A write of TMP_CTL (R530): clearing STICKY needs authority. -/
def State.writeTmpCtl (s : State) (w : Nat) (auth : Bool) : State :=
  let f := fun (s : State) => s.putFlds w [TMP_CTL_AUTHMSG, TMP_CTL_STICKY]
  if s.flag TMP_CTL_STICKY && !bit w 0 then s.withAuth auth f else f s

/-- TAMPER_POLICY_WRITE (R540, R530). -/
def execTamperPolicyWrite (w : Word) (auth : Bool) (s : State) : Host.Outcome State Fault Refusal := .next (s.writePolicy w.toNat auth)

/-- TAMPER_FIRE (R539, R540, R542): the condition of a source appears or ends; `pre`: in BOOT before the key
hierarchy is unlocked. -/
def execTamperFire (src : Fin 5) (on pre : Bool) (s : State) : Host.Outcome State Fault Refusal :=
  .next (if on then (s.srcActive src true).tamperFire src pre else s.srcActive src false)

/-- XO_CLOCK_FAULT (R31, R539). -/
def execXoClockFault (pre : Bool) (s : State) : Host.Outcome State Fault Refusal :=
  .next (if s.pwr.sleep.isSome || s.clk.xo ≠ .run then s else (s.srcActive 2 true).tamperFire 2 pre)

/-- The bit of a loop check: of the DRBG in the run modes; in SLEEP and COL of an LFSR whose state is not given (R541). -/
def State.loopBit (s : State) : Bool × State :=
  if s.pwr.sleep.isSome then
    let r := s.free 1
    (decide (r.1 = 1), r.2)
  else
    let r := s.random 1
    (r.1.any fun b => b.toNat.testBit 0, r.2)

/-- TAMPER_LOOP_CHECK (R541): `sample` is TAMPER_IN. -/
def execTamperLoopCheck (sample : Bool) (s : State) : Host.Outcome State Fault Refusal :=
  .next (if !s.watched 0 || s.pwr.sleep = some .deep then s
  else
    let r := s.loopBit
    let s := r.2
    let n := if sample = r.1 then 0 else min 255 (s.tmp.loopBad + 1)
    let s := { s with tmp := { s.tmp with loopBad := n } }
    let lim := s.get TMP_LOOPCFG_LOOPN
    let s := s.srcActive 0 (decide (lim ≤ n))
    if n = lim then s.tamperFire 0 false else s)

end Sys2Proof.Machine
end

