-- ==== Sys2Proof/Machine/Boot.lean ====
section
/-!
DEFINITION. Boot and device resets (spec/20, R532 to R538; R465, R485, R498, R520, R581): the supervisor image chosen, what is loaded from the
eNVM, how the partitions start, and the end of BOOT.
-/

namespace Sys2Proof.Machine

open Reg

/-! ## Resets (R538, R599, R30) -/

/-- The reset causes by code. -/
def RstCause.of (c : Fin 6) : RstCause :=
  match c with
  | 0 => .por | 1 => .resetn | 2 => .brownout | 3 => .watchdog | 4 => .tamper | 5 => .debug

/-- DEVICE_RESET (R538). -/
def execDeviceReset (cause : Fin 6) (s : State) : Host.Outcome State Fault Refusal := .next (s.deviceReset (.of cause))

/-- RESET_RELEASE (R599): the XO starts and BOOT begins. -/
def execResetRelease (s : State) : Host.Outcome State Fault Refusal :=
  .next (if s.pwr.held then
    { s with pwr := { s.pwr with held := false, svDog := s.tick }, clk := { s.clk with xo := .start } }
  else s)

/-- SV_WATCHDOG_EXPIRY (R538, R361): 100 ms without a restart of SV's watchdog, which stands while SV is halted. -/
def execSvWatchdogExpiry (s : State) : Host.Outcome State Fault Refusal :=
  .next (if s.pwr.svDog + 100000 ≤ s.tick && !(s.prog 32).halted && !s.pwr.held && s.pwr.sleep.isNone then s.deviceReset .watchdog else s)

/-- The fields the boot ROM reloads after OFF before it arms the tamper sources (R485). -/
def romKeys : List Nat :=
  ([TMP_CTL_AUTHMSG, TMP_CTL_STICKY, TMP_LOOPCFG_LOOPN] ++ policyFlds).map Fld.key

/-- Reloading saved AO fields after OFF (R485): those of the boot ROM, or the others. -/
def State.aoLoad (s : State) (rom : Bool) : State :=
  if s.pwr.bootFrom = some .off then
    match s.ret.aoImg with
    | some l => s.putRegs (l.filter fun e => romKeys.contains e.1 = rom)
    | none => s
  else s

/-- XO_START_DONE (R30): the XO reaches RUN, the system PLL locks on it, the boot ROM arms the tamper sources. -/
def execXoStartDone (s : State) : Host.Outcome State Fault Refusal :=
  .next (if s.clk.xo = .start then
    (({ s with clk := { s.clk with xo := .run } }).sets [(CLK_STAT_XORUN, 1), (CLK_CTL_PLLEN, 1), (CLK_STAT_PLLLOCK, 1)]).aoLoad true else s)

/-! ## The supervisor image (R533) -/

/-- SYS_GEN as this BOOT loads it (R581); after DEEP SLEEP the one in force at entry (R582). -/
def State.bootGen (s : State) (image : Bool) : Nat :=
  if image then Tab.get SYS_GEN_GEN.rst s.ret.img SYS_GEN_GEN.key
  else match s.nv.gen with | some g => g | none => s.get SYS_ID_MAXGEN

/-- The supervisor image the device left the factory with, as long as its area has not been written: the spec does not give its
octets. DESIGN CHOICE: it passes the checks of R533 with VERSION 0. -/
def State.svFactory (s : State) (a : Nat) : Bool := (s.sysSlot 0 a).st = .active && s.num (sysBase 0 a) 4 = 0

/-- The checks of R533 on the image of an area: none where it passes, or the reason that Scree records. -/
def State.svReason (s : State) (a gen : Nat) : Option Nat :=
  let o := s.octs (sysBase 0 a) 64
  let h := hdrOf o
  let floor := s.bootRec.svFloor
  let n := h.codeLen + h.dataLen
  if s.svFactory a then (if floor = 0 then none else some 3)
  else if h.kind ≠ 0 || ofOctets ((o.drop 5).take 1) ≠ 1 || sysSize 0 < 64 + n + 128 then some 0
  else if h.version < floor then some 3
  else if gen < h.minGen then some 4
  else
    let im := s.imgOcts (sysBase 0 a) h
    if Config.sha256 ((im.drop 64).take n) ≠ o.drop 32 then some 1
    else if !s.imgSigned 0 0 (sysBase 0 a) h then some 2
    else none

/-- Logging that an area's image was refused. -/
def State.svRefused (s : State) (a why : Nat) : State := s.scree 33 0x0313 2 (octets 1 a ++ octets 1 why)

/-- The boot ROM's choice (R533): the state, and whether an image passes. -/
def State.svChoose (s : State) (gen : Nat) : Bool × State :=
  let r := s.bootRec
  let s := if r.confirmed then s else (s.svRefused r.active 5).bootPut fun r => { r with active := 1 - r.active, confirmed := true }
  let a := s.bootRec.active
  match s.svReason a gen with
  | none => (true, s)
  | some w =>
    let s := s.svRefused a w
    match s.svReason (1 - a) gen with
    | none => (true, s.bootPut fun r => { r with active := 1 - a })
    | some w => (false, s.svRefused (1 - a) w)

/-! ## Partitions (R268, R514, R536) -/

/-- P0's default descriptor (R268). -/
def p0Default : Desc := { codeG := 16, dataG := 16, pktFlr := 8, assocQ := 0, kslotQ := 2, crcQ := 1, txQ := 8, transp := true }

/-- P0's descriptor for this BOOT (R268). -/
def State.p0Desc (s : State) : Desc :=
  match s.p0new with
  | some d => d
  | none => match s.nv.p0 with | some d => d | none => p0Default

/-- The partitions' records as the configuration area holds them, the packet windows apart; a PURGE's image erasure goes on. -/
def State.nvParts (s : State) : State :=
  let keep := s.parts.filter fun e => e.1 = 0 || e.2.erase || (Tab.get none s.nv.parts e.1).isSome
  let s := { s with parts := keep }
  s.nv.parts.foldl (fun s e => match e.2 with
    | some n =>
      let sz := 4096 * n.desc.codeG
      s.updPart e.1 fun P => { P with
        desc := n.desc, codeBase := n.codeBase, dataBase := n.dataBase, assocLo := n.assocLo, gran := []
        slot0 := { P.slot0 with base := slotBase n.codeBase 0, size := sz }, slot1 := { P.slot1 with base := slotBase n.codeBase 1, size := sz } }
    | none => s) s

/-- A partition created again at boot: its registers, its packet window; `image`: its Saddle values come from the retention image. -/
def State.bootPart (s : State) (p : Nat) (image : Bool) : State :=
  let s := s.updPart p fun P => { P with gran := (s.freeGran p).take P.desc.pktFlr }
  let flr := (s.part p).desc.pktFlr
  let s := s.sets [(PRT_PSTATp_STATE p, PState.stopped.num), (PRT_PSTATp_LASTRST p, 0), (PRT_PSTATp_FCAUSE p, 0), (PRT_PSTATp_AUTOCNT p, 0)]
  let s := if image then s else s.sets [(SAD_MEMp_FLOOR p, flr), ((SAD_MEMp_FLOOR p).at 200, flr)]
  let s := s.partShow p
  if image then s else s.engPlace p

/-- P0 placed (R268); its images move with its code window. DESIGN CHOICE. -/
def State.bootP0 (s : State) (image : Bool) : State :=
  let old := s.part 0
  let d := { s.p0Desc with pnum := 0 }
  let P := { s.placePart d with level := old.level }
  let put := fun (o n : ImgSlot) => { o with base := n.base, size := n.size }
  let s := [(old.slot0, P.slot0), (old.slot1, P.slot1)].foldl (fun s x =>
    if x.1.st = .empty || x.1.base = x.2.base then s else s.copy x.1.base x.2.base (min x.1.size x.2.size)) s
  let P := { P with gran := [], slot0 := put old.slot0 P.slot0, slot1 := put old.slot1 P.slot1 }
  let s := { s with parts := Tab.set {} s.parts 0 P, nv := { s.nv with p0 := match s.p0new with | some d => some d | none => s.nv.p0 }, p0new := none }
  s.bootPart 0 image

/-- Every partition created again: P0 first (R268). -/
def State.bootParts (s : State) (image : Bool) : State :=
  let s := s.nvParts.bootP0 image
  s.each ((s.nv.parts.filter fun e => e.1 ≠ 0 && e.2.isSome).map Prod.fst) fun s p => s.bootPart p image

/-- The slots of a partition that run are held against their seals (R536); `skip` after DEEP SLEEP with nothing changed (R534). A slot of a
window that is not recorded as open is VERIFIED. -/
def State.bootSeals (s : State) (p : Nat) (open' skip : Bool) : State :=
  let s := [0, 1].foldl (fun s i =>
    let x := (s.part p).slot i
    let s := if x.st = .imageB && !open' then s.slotSt p i .verified else s
    if skip || !((x.st = .imageB && open') || x.st = .active) || s.sealHolds x then s
    else
      let s := s.sealReject p i
      let y := (s.part p).slot (1 - i)
      if x.st = .active && y.st = .verified then (if s.sealHolds y then s.slotSt p (1 - i) .active else s.sealReject p (1 - i)) else s) s
  s

/-- Starting a partition at the end of BOOT; a window recorded as open opens again after DEEP SLEEP or OFF (R356). -/
def State.bootStart (s : State) (p : Nat) (wake skip : Bool) : State :=
  let d := if wake then Tab.get none s.nv.duals p else none
  let s := s.bootSeals p d.isSome skip
  let d := match d with
    | some d => if ((s.part p).slot d.slotB).st = .imageB && ((s.part p).slot d.slotA).st = .active then some d else none
    | none => none
  s.partStart p d

/-- A sequencer at the end of BOOT: its bank loaded from a VERIFIED image that meets its seal, else its basic sequence (R534, R536, R358). -/
def State.bootSeq (s : State) (x : Nat) : State :=
  let i := s.get (ENG_SEQCTLx_SRC x)
  let im := s.sysSlot (2 + x) i
  let s := if im.st = .verified && !s.sealHolds im then s.sealFail 0 (2 + x) i else s
  let ok := (s.sysSlot (2 + x) i).st = .verified
  let s := if ok then s.bankLoad x (s.get (ENG_SEQSTATx_BANK x)) i else s
  (s.seqStart x (!ok || s.flag (ENG_SEQCTLx_BASIC x))).seqPend x

/-- The Col image's seal (R536): one that fails leaves CE its basic sequence. -/
def State.bootCol (s : State) : State :=
  let i := s.get ENG_COLCTL_SLOT
  let im := s.sysSlot 4 i
  if im.st = .verified && !s.sealHolds im then s.sealFail 0 4 i else s

/-! ## The node table (R389, R520) -/

/-- A checkpoint record put back into its entry. A record of no partition, or past its quota, is written FREE and logged. -/
def State.bootEntry (s : State) (r : Nat) : State :=
  let a := ckFirst + 64 * r
  let p := s.ckPart r
  let li := s.ckLidx r
  let fl := s.num (a + 34) 2
  if bits fl 14 2 = 0 then s
  else if bits fl 14 2 = 3 then s.zero a 64
  else if !s.pexists p || (s.part p).desc.assocQ ≤ li then (s.zero a 64).scree 27 0x0504 1 (octets 1 p ++ octets 2 li)
  else
    let b := ntFirst + 64 * s.entOf p li
    let own := s.num (a + 36) 2 % 128
    let vd := s.num (a + 38) 2
    let low := s.ckFld r 48
    let s := s.store b (s.octs a 34)
    let s := s.store (b + 34) (octets 2 (fl / 128 * 128) ++ octets 2 own ++ octets 2 (vd / 256 * 256 + vd % 16))
    let s := s.store (b + 40) (s.octs (a + 40) 8)
    let s := s.putNum (b + 48) 4 (if bit fl 0 then low else min (low + 32) 0xFFFFFFFF)
    let s := s.putNum (b + 52) 4 (s.ckFld r 52)
    let s := s.putNum (b + 56) 4 (min (s.ckFld r 56) (s.keyLimit p))
    let s := s.store (b + 60) (s.octs (a + 60) 4)
    (s.arm (s.entOf p li)).ckCheck p li

/-- The node table restored; partitions that held volatile entries are told (R520). -/
def State.bootNodes (s : State) : State :=
  let s := s.each ckRecs State.bootEntry
  let s := s.each s.live State.ascUsed
  s.pwr.lostVol.foldl (fun s p => s.raise p .assoc) s

/-! ## Settings and records -/

/-- The regulatory profile with its duty sums, and the channel plan (R210, R213, R514). -/
def State.bootAir (s : State) (sums : Tab Nat) : State :=
  let use : Tab BandUse := match s.nv.reg with
    | some _ => sums.map fun e => (e.1, { hist := [(s.tick / 1000000, e.2)] })
    | none => []
  let s := ({ s with air := { s.air with prof := s.nv.reg, use := use } }).regShow
  let s := match s.nv.plan with | some pl => s.planActivate pl | none => s
  { s with air := { s.air with nextB := s.boundaryAfter s.tick } }

/-- The calibration record (R513): whether one is valid. -/
def State.bootCal (s : State) : Bool × State :=
  match s.calPick with
  | some c => (true, s.calLoad c)
  | none => (false, s.set CAL_STAT_NOREC 1)

/-- The first computation of the XO trim of a BOOT, written whole before a synthesiser is enabled (R508). -/
def State.bootTrim (s : State) (raw : Nat) : State :=
  let r := s.tempRead raw
  let s := match r.2.clk.trim with
    | some t => { r.2.sets [(CLK_XOTRIM_COARSE, t.1), (CLK_XOTRIM_FINE, t.2)] with clk := { r.2.clk with trim := none } }
    | none => r.2
  s.tempWatch r.1

/-- The retention image after DEEP SLEEP (R498): put back, or counted as failed. -/
def State.bootImage (s : State) (ok : Bool) : State :=
  if s.pwr.bootFrom = some .deep then
    if ok then
      let s := (s.putRegs s.ret.img).sets [(RET_IMG_VALID, 0), (RET_SAVET_RESTORE, 1906)]
      s.each [0, 1, 2] fun s x => s.updSynth x fun y => { y with target := s.get (SYNx_FREQ_FREQ x), own := s.get (SYNx_FREQ_FREQ x) }
    else ((s.count RET_IMG_CHKERR 1).set RET_IMG_VALID 0).scree 30 0x0402 3 []
  else s

/-- What SV loads before the partitions start (R534): the lifecycle, settings, records, partitions and the node table. -/
def State.bootLoad (s : State) (raw : Nat) (image : Bool) (gen : Nat) : Bool × State :=
  let r := s.bootRec
  let wake := s.pwr.bootFrom.isSome
  let s := s.sets [(TMP_LCSTAT_LC, r.lc), (TMP_LCSTAT_STICKYLD, r.ldSticky.toNat), (TMP_AUTHCTR_CTR, s.authCtr), (SEC_STAT_SEEDED, 1)]
  let c := s.bootCal
  let s := (c.2.bootImage image).aoLoad false
  let s := s.sets [(SYS_GEN_GEN, gen), (ENG_STAT_SVSLOT, r.active), (ENG_STAT_SVPEND, 0), (NVC_LOGHEAD_SEQ, s.scrSeq)]
  let s := if wake && image then s else s.set SYS_RSTCTL_NEXTGEN gen
  let s := match s.nvs.repair with | some g => s.sets [(DBG_REPAIR_SEG, g), (DBG_REPAIR_PERM, 1), (DBG_REPAIR_RELOC, 1)] | none => s
  let s := { s with sv := {}, nvs := { s.nvs with passAt := s.tick } }
  let s := (s.bootParts (image && s.pwr.bootFrom = some .deep)).bootAir (if wake then s.ret.sums else s.nv.sums)
  let s := (s.bootTrim raw).bootNodes
  (c.1, s.sets [(PKT_CTL_EN, 1), (AIR_CTL_EN, 1), (ASC_CTL_EN, 1), (KEY_CTL_EN, 1), (ASC_STAT_WHLHOLD, s.get TBS_STAT_DISCONT)])

/-! ## The end of BOOT (R534, R459) -/

/-- Images, sequencers and partitions start, and the mode leaves BOOT. `cal`: a calibration record was valid. -/
def State.bootFinish (s : State) (cal pll image skip : Bool) : State :=
  let wake := s.pwr.bootFrom.isSome
  let s := (s.each [0, 1] State.bootSeq).bootCol
  let s := s.each s.live fun s p => s.bootStart p wake skip
  let valid := s.bootCopy.isSome || !s.hasInstaller
  let r := s.bootRec
  let fired := s.pwr.fired
  let s := { s with
    nv := { s.nv with duals := [] }
    ret := { s.ret with img := [], aoImg := none }
    pwr := { s.pwr with boot := false, bootFrom := none, fired := false, lostVol := [], svDog := s.tick, calib := !cal } }
  let s := if wake then (s.padsSv.set PWR_WAKET_TICK s.tick).domWake else s.domWake
  let s := if pll then s else s.fallbackIn
  let s := if image then s.radioWake else (s.rxStat 0).rxStat 1
  let s := if wake then s.raiseAll .mode else s
  if !valid then s.lockdownIn 3
  else if fired then s.lockdownIn 2
  else if r.ldSticky then s.lockdownIn r.ldCause
  else s

/-- The whole of BOOT from the choice of the supervisor image on; with neither image the device stays in BOOT, in recovery (R537). -/
def State.bootRun (s : State) (raw : Nat) (pll imgOk : Bool) : State :=
  let deep := decide (s.pwr.bootFrom = some .deep)
  let image := deep && imgOk
  let gen := s.bootGen image
  let c := s.svChoose gen
  if !c.1 then c.2.set TMP_LCSTAT_RECOVERY 1
  else
    let skip := deep && decide (s.nvs.writes = s.ret.nvGen) && !s.pwr.fired
    let s := if c.2.tmp.pkg.kind = some .importing then c.2.pkgDrop else c.2
    let l := s.bootLoad raw imgOk gen
    l.2.svStart.bootFinish l.1 pll image skip

/-- BOOT_END (R534): `raw` is the sensor code of BOOT's temperature sample, `pll` whether the system PLL has locked (R54), `imgOk` whether
the check word of the retention image holds (R498). -/
def execBootEnd (raw : BitVec 12) (pll imgOk : Bool) (s : State) : Host.Outcome State Fault Refusal :=
  .next (if s.pwr.boot && !s.pwr.held && s.clk.xo = .run && !s.flag TMP_LCSTAT_RECOVERY then s.bootRun raw.toNat pll imgOk else s)

end Sys2Proof.Machine
end

