-- ==== Sys2Proof/Machine/Gpc.lean ====
section
/-!
DEFINITION. GP pins, supplies and the generation (spec/22, 23; R582, R594 to R601, R194).
-/

namespace Sys2Proof.Machine

open Reg

/-! ## GP pins (R596) -/

/-- The refusals of R596 for a word written to GPC_PINn. -/
def State.gpRefused (s : State) (w : Nat) : Bool :=
  let func := bits w 0 3
  let owned := bit w 23
  let owner := bits w 16 5
  (1 ≤ func && func ≤ 3 && owned && owner ≠ 0) || (func = 4 && !owned) || 4 < func || bits w 12 2 = 3 ||
    (func = 4 && 3 < bits w 4 3) || (owned && !s.pexists owner)

/-- A write of GPC_PINn. -/
def State.writeGpPin (s : State) (n w : Nat) : State :=
  if s.gpRefused w then s.set GPC_STAT_REJ 1
  else
    let moved := s.get (GPC_PINn_OWNED n) ≠ bits w 23 1 || s.get (GPC_PINn_OWNER n) ≠ bits w 16 5
    let s := (s.putFlds w (gpcFields n)).set GPC_STAT_REJ 0
    if moved then s.pinClear n else s

/-- GP_PIN_WRITE (R596, R598). -/
def execGpPinWrite (n : Fin 8) (w : Word) (s : State) : Host.Outcome State Fault Refusal := .next (s.writeGpPin n w.toNat)

/-- A pulse on the EVOUT pins of a partition that show event output `k` (R596, R313). -/
def State.evPulse (s : State) (p k : Nat) : State :=
  (List.range 8).foldl (fun s n =>
    if s.get (GPC_PINn_FUNC n) = 4 && s.flag (GPC_PINn_OWNED n) && s.get (GPC_PINn_OWNER n) = p && s.get (GPC_PINn_SEL n) = k then
      { s with evOut := Tab.set 0 s.evOut n (s.tbs.now + 64) } else s) s

/-! ## Supplies (R194, R599 to R601, R595) -/

/-- The path and the tier that TXM_STAT.SUPPLY shows. The path's change to VBKP steps the PA of a stronger frame on air down to the
limit of VBKP (R194). -/
def State.supply (s : State) (v : Nat) : State :=
  let cut := decide (v = 2) && s.get TXM_STAT_SUPPLY ≠ 2 && (match s.txAir with | some t => decide (68 < t.power) | none => false)
  let s := s.set TXM_STAT_SUPPLY v
  if cut then s.set TXM_LASTREP_PWRCUT 1 else s

/-- POWER_PATH_SWITCH (R600, R599): to VBKP, or back to VMAIN, whose tier `low` tells. -/
def execPowerPathSwitch (bkp low : Bool) (s : State) : Host.Outcome State Fault Refusal :=
  .next (s.supply (if bkp then 2 else low.toNat))

/-- TRANSMIT_TIER_CHANGE (R599, R194): VMAIN falls below the tier's threshold or recovers; on VBKP the tier shows at the next switch. -/
def execTransmitTierChange (low : Bool) (s : State) : Host.Outcome State Fault Refusal :=
  .next (if s.get TXM_STAT_SUPPLY = 2 then s else s.supply low.toNat)

/-- VDDPA_CURRENT_LIMIT (R601): a forced ramp-down of the frame on air. -/
def execVddpaCurrentLimit (s : State) : Host.Outcome State Fault Refusal :=
  .next (if s.paDriven then s.txAbort .abortedPower false else s)

/-- VDDIO_RISE (R595). -/
def execVddioRise (s : State) : Host.Outcome State Fault Refusal := .next { s with pwr := { s.pwr with vddio := true } }

/-- VDDIO_FALL (R595): the DIO pads are high-impedance, the host ports answer nothing. -/
def execVddioFall (s : State) : Host.Outcome State Fault Refusal := .next { s with pwr := { s.pwr with vddio := false } }

/-! ## The generation (R582) -/

/-- The MINGEN of every image that would run after the next boot. -/
def State.minGens (s : State) : List Nat :=
  (s.sysSlot 0 s.svArea).hdr.minGen ::
    (s.live.flatMap fun p => ([(s.part p).slot0, (s.part p).slot1].filter fun x => x.st = .active || x.st = .imageB).map fun x => x.hdr.minGen) ++
    ([0, 1].filterMap fun x =>
      let b := (s.seqr x).bank (s.get (ENG_SEQSTATx_BANK x))
      if b.loaded then some b.minGen else none) ++
    (if (s.sysSlot 4 (s.get ENG_COLCTL_SLOT)).st = .verified then [(s.sysSlot 4 (s.get ENG_COLCTL_SLOT)).hdr.minGen] else [])

/-- A write of NEXTGEN that has the authority it needs. -/
def State.nextGen (s : State) (v : Nat) : State :=
  if s.get TMP_LCSTAT_LC = 2 || v = 0 || s.get SYS_ID_MAXGEN < v || s.minGens.any fun m => decide (v < m) then s.set SYS_RSTCTL_GENREJ 1
  else { s.sets [(SYS_RSTCTL_NEXTGEN, v), (SYS_RSTCTL_GENREJ, 0)] with nvq := s.nvq ++ [NvReq.gen v] }

/-- A write of SYS_RSTCTL: one refused for want of authority has no effect but on AUTHREJ and GENREJ. -/
def State.writeRstctl (s : State) (w : Nat) (auth : Bool) : State :=
  let v := bits w 0 8
  if s.get TMP_LCSTAT_LC = 1 then
    if auth then (s.set TMP_LCSTAT_AUTHREJ 0).nextGen v else s.sets [(TMP_LCSTAT_AUTHREJ, 1), (SYS_RSTCTL_GENREJ, 1)]
  else s.nextGen v

/-- NEXT_GENERATION_WRITE (R582): `auth`: through a reg-write with AUTH = 1. -/
def execNextGenerationWrite (w : Word) (auth : Bool) (s : State) : Host.Outcome State Fault Refusal := .next (s.writeRstctl w.toNat auth)

end Sys2Proof.Machine
end

