-- ==== Sys2Proof/Machine/Sec.lean ====
section
/-!
DEFINITION. The cipher engine and the keys (spec/13, R371 to R374, R385 to R387, R619).
-/

namespace Sys2Proof.Machine

open Reg

/-! ## Cores and the TRNG (R371, R373, R374) -/

/-- A write of SEC_SVC.OUT (R371): refused where it would leave no core in service. -/
def State.writeSecSvc (s : State) (out : Nat) : State :=
  let o := out % 16
  if o = 15 then s.set SEC_STAT_SVCREJ 1 
  else (s.sets [(SEC_SVC_OUT, o), (SEC_STAT_INSVC, 15 - o), (SEC_STAT_SVCREJ, 0)]).testGone

/-- CORE_SERVICE_WRITE (R371). -/
def execCoreServiceWrite (out : BitVec 4) (s : State) : Host.Outcome State Fault Refusal := .next (s.writeSecSvc out.toNat)

/-- TRNG_HEALTH_FAIL (R374): test 0 repetition count, 1 adaptive proportion. -/
def execTrngHealthFail (test : Fin 2) (s : State) : Host.Outcome State Fault Refusal :=
  let s := (s.set SEC_STAT_TRNGERR 1).count (if test = 0 then SEC_TRNGSTAT_RCTFAIL else SEC_TRNGSTAT_APTFAIL) 1
  .next ({ s with key := { s.key with trngAt := s.tick } }.scree 20 0x0301 2 (octets 1 test))

/-- TRNG_RESTART (R374): every 1 s while the failure stands. -/
def execTrngRestart (s : State) : Host.Outcome State Fault Refusal :=
  .next (if s.flag SEC_STAT_TRNGERR && decide (s.key.trngAt + 1000000 ≤ s.tick) then { s with key := { s.key with trngAt := s.tick } } else s)

/-- DRBG_RESEED (R373, R374): a full seed has passed the tests and been taken. -/
def execDrbgReseed (s : State) : Host.Outcome State Fault Refusal := .next (s.sets [(SEC_STAT_TRNGERR, 0), (SEC_STAT_SEEDED, 1)])

/-! ## Key slots and key tables (R385, R386, R619) -/

/-- A write of KEY_CTL. -/
def State.writeKeyCtl (s : State) (flush en : Bool) : State :=
  let s := if flush || !en then s.zeroSlots fun _ => true else s
  s.setB KEY_CTL_EN en

/-- KEY_ENABLE_WRITE (R619). -/
def execKeyEnableWrite (en : Bool) (s : State) : Host.Outcome State Fault Refusal := .next (s.writeKeyCtl false en)

/-- KEY_FLUSH (R386). -/
def execKeyFlush (s : State) : Host.Outcome State Fault Refusal := .next (s.zeroSlots fun _ => true)

/-- A write of KEY_TQUOTAp (R385). -/
def State.writeTquota (s : State) (p w : Nat) : State :=
  let q := bits w 0 10
  let sum := ((allParts.filter (· ≠ p)).map fun i => s.get (KEY_TQUOTAp_QUOTA i)).sum + q
  if 976 < sum || q < s.ksHeld p then s else s.set (KEY_TQUOTAp_QUOTA p) q

/-- KEY_TABLE_QUOTA_WRITE (R385). -/
def execKeyTableQuotaWrite (p : Fin 32) (w : Word) (s : State) : Host.Outcome State Fault Refusal := .next (s.writeTquota p w.toNat)

/-- The keys of a partition that carry a usage count (R387). -/
def State.countedKeys (s : State) (p : Nat) : List KRef :=
  (s.entsOf p).map KRef.cur ++ (ksRecs.filterMap fun r =>
    if s.ksPart r ≠ p then none
    else match s.ksKind r with
      | 2 | 3 => some (.gen (s.ksRef r))
      | 5 => some (.next (s.ksRef r))
      | _ => none)

/-- Whether a queued frame has reserved a count (R383). -/
def Tx.reserves (t : Tx) : Bool := t.entry.isSome && t.lvl ≠ 0 && t.stage ≠ .onAir && t.stage ≠ .acked

/-- The queued frames of a partition that a new LIMIT leaves no room (R387): KUSE and the counts reserved ahead reach it. -/
def State.overLimit (s : State) (p : Nat) : List Tx :=
  (s.entsOf p).flatMap fun li =>
    let l := s.txs.filter fun t => decide (t.p = p) && decide (t.entry = some li) && t.reserves
    l.drop (s.keyLimit p - s.ent (s.entOf p li) 56 4)

/-- A write of KEY_ULIM (R387). -/
def State.writeUlim (s : State) (p w : Nat) : State :=
  let s := s.putFld w (KEY_ULIM_LIMIT.at p)
  let ks := s.countedKeys p
  let s := (ks.filter fun k => decide (s.keyCount p k < keyMark (s.keyLimit p))).foldl (fun s k => s.keyUnnote p k) s
  let s := ks.foldl (fun s k => s.keyNote p k) s
  (s.overLimit p).foldl (fun s t =>
    let s := if t.stage = .bound then s.unbind else s
    s.txUnsent t .refusedKeyLimit) s

/-- KEY_LIMIT_WRITE (R387). -/
def execKeyLimitWrite (p : Fin 32) (w : Word) (s : State) : Host.Outcome State Fault Refusal := .next (s.writeUlim p w.toNat)

/-- Keys of a partition at or above 90 % of LIMIT and below it, and at LIMIT (KEY_LIMSTAT). -/
def State.limStat (s : State) (p : Nat) : Nat × Nat :=
  let c := (s.countedKeys p).map fun k => s.keyCount p k
  let lim := s.keyLimit p
  ((c.filter fun n => decide (keyMark lim ≤ n ∧ n < lim)).length, (c.filter fun n => decide (lim ≤ n)).length)

end Sys2Proof.Machine
end

