-- ==== Sys2Proof/Machine/Tst.lean ====
section
/-!
DEFINITION. Testing in service (spec/21, R572 to R578).
-/

namespace Sys2Proof.Machine

open Reg

/-- The precondition of a test (R573). -/
def State.testMay (s : State) (kind i : Nat) (sv : Bool) : Bool :=
  match kind with
  | 0 => i < 4 && !(s.get ENG_STAT_INSVC).testBit i
  | 1 => i < 4 && (s.get SEC_SVC_OUT).testBit i && !(s.get SEC_STAT_BUSY).testBit i
  | 2 => i < 4 && (s.get TRL_SVC_OUT).testBit i && !(s.get TRL_STAT_INSVC).testBit i
  | 3 => i < 25 && !s.flag DBG_REPAIR_PERM
  | 4 => i < 2 && (s.svc i = 2 || (sv && s.svc i = 3))
  | 5 => i < 9 && !s.pwr.lockdown
  | _ => false

/-- The end of a test with a verdict (R572): counts, DBG_FAILMAP, Scree; a failed SRAM segment stays redirected (R574). -/
def State.testEnd (s : State) (t : TestSt) (ok : Bool) : State :=
  let unit := match t.kind with
    | 0 => some (DBG_FAILMAP_ENG) | 1 => some DBG_FAILMAP_CORE | 2 => some DBG_FAILMAP_TRL | 4 => some DBG_FAILMAP_CHAIN | _ => none
  let s := match unit with | some F => s.set F (putBits (s.get F) t.index 1 (if ok then 0 else 1)) | none => s
  let s := if ok then s.count DBG_TESTCNT_PASS 1
    else
      let s := s.count DBG_TESTCNT_FAIL 1
      let s := s.scree 25 0x0701 1 (octets 1 t.kind ++ octets 1 t.index ++ octets 4 (s.get DBG_TESTRES0_RES) ++ octets 4 (s.get DBG_TESTRES1_RES))
      if t.kind = 3 then
        { s.sets [(DBG_REPAIR_PERM, 1), (DBG_REPAIR_RELOC, 1), (DBG_REPAIR_SEG, t.index)] with nvs := { s.nvs with repair := some t.index } }
      else s
  s.testStop (if ok then .done else .checkFail)

/-- A START (R572): refused during a test; a failed precondition ends the test at once. -/
def State.testStart (s : State) (kind i : Nat) (sv : Bool) : State :=
  if s.test.isSome then s.set DBG_TESTSTAT_TESTREJ 1
  else
    let s := s.sets [(DBG_TESTSTAT_TESTREJ, 0), (DBG_TESTSTAT_DONE, 0), (DBG_TESTSTAT_KIND, kind), (DBG_TESTSTAT_INDEX, i),
      (DBG_TESTSTAT_CODE, 0), (DBG_TESTRES0_RES, 0), (DBG_TESTRES1_RES, 0)]
    if !s.testMay kind i sv then s.sets [(DBG_TESTSTAT_DONE, 1), (DBG_TESTSTAT_CODE, Code.refusedState.num)]
    else
      let s := s.set DBG_TESTSTAT_BUSY 1
      let s := if kind = 3 then s.sets [(RET_DOMSTAT_ON, s.get RET_DOMSTAT_ON ||| 2 ^ 15), (DBG_REPAIR_SEG, i)] else s
      { s with test := some { kind := kind, index := i, start := s.tick, sv := sv } }

/-- ABORT (R577): the test stops at its next step or pattern boundary. -/
def State.testAbort (s : State) : State :=
  match s.test with | some t => { s with test := some { t with abort := true } } | none => s

/-- A write of DBG_TESTCTL. -/
def State.writeTestctl (s : State) (w : Nat) : State :=
  let s := s.putFlds w [DBG_TESTCTL_INDEX, DBG_TESTCTL_KIND]
  let s := if bit w 1 then s.testAbort else s
  if bit w 0 then s.testStart (s.get DBG_TESTCTL_KIND) (s.get DBG_TESTCTL_INDEX) false else s

/-- A START of a kind of test by P0. -/
def State.testAsk (s : State) (kind i : Nat) : State := s.writeTestctl (1 + 16 * kind + 256 * i)

/-- ENGINE_TEST (R573). -/
def execEngineTest (e : Fin 4) (s : State) : Host.Outcome State Fault Refusal := .next (s.testAsk 0 e)
/-- CORE_TEST (R573). -/
def execCoreTest (c : Fin 4) (s : State) : Host.Outcome State Fault Refusal := .next (s.testAsk 1 c)
/-- DECODER_TEST (R573). -/
def execDecoderTest (d : Fin 4) (s : State) : Host.Outcome State Fault Refusal := .next (s.testAsk 2 d)
/-- SRAM_SEGMENT_TEST (R574). -/
def execSramSegmentTest (g : Fin 25) (s : State) : Host.Outcome State Fault Refusal := .next (s.testAsk 3 g)
/-- CHAIN_LOOPBACK_TEST (R575): by P0, or by SV for a chain that returns. -/
def execChainLoopbackTest (x : Fin 2) (sv : Bool) (s : State) : Host.Outcome State Fault Refusal :=
  .next (if sv then s.testStart 4 x true else s.testAsk 4 x)
/-- NVM_VERIFY (R576). -/
def execNvmVerify (i : Fin 9) (s : State) : Host.Outcome State Fault Refusal := .next (s.testAsk 5 i)
/-- TEST_ABORT (R577). -/
def execTestAbort (s : State) : Host.Outcome State Fault Refusal := .next s.testAbort

/-- What a loopback step records, by its number from 0: `v` its result, `p` the power of step 3, both in quarter dB. -/
def State.loopRes (s : State) (n : Nat) (v : Int) : State :=
  let F := if n < 2 then DBG_TESTRES0_RES else DBG_TESTRES1_RES
  s.set F (putBits (s.get F) (16 * (n % 2)) 16 (wrap 16 v))

/-- Whether a loopback step passes (R575). -/
def loopOk (n : Nat) (v p : Int) : Bool :=
  match n with
  | 0 => decide (-252 ≤ v ∧ v ≤ -228)
  | 1 => decide (-4 ≤ v ∧ v ≤ 4)
  | 2 => decide (-252 ≤ p ∧ p ≤ -228 ∧ 200 ≤ v)
  | _ => decide (v ≤ -480)

/-- A step of the loopback test with what it measured; the fourth ends the test, and a failure removes a chain that returns (R100, R575).
SYNT settles back on its target (R66). -/
def State.loopStep (s : State) (t : TestSt) (v p : Int) : State :=
  let u := { t with step := t.step + 1, bad := t.bad || !loopOk t.step v p }
  let s := { s.loopRes t.step v with test := some u }
  let s := if s.flag (SYNx_CTL_EN 2) then s.synStart 2 (s.get (SYNx_FREQ_FREQ 2)) else s
  if u.step < 4 then s
  else
    let s := s.testEnd u (!u.bad)
    if !u.sv then s
    else if u.bad then s.chainFault u.index 1
    else if s.combined && s.flag (SYNx_STAT_LOCK u.index) then s.chainBack u.index
    else s

/-- CHAIN_LOOPBACK_STEP (R575): one step, where R505 and R67 let it start. -/
def execChainLoopbackStep (v p : Int) (s : State) : Host.Outcome State Fault Refusal :=
  .next (match s.test with
  | some t =>
    if t.kind = 4 && t.abort then s.testStop .deferred
    else if t.kind = 4 && s.calRoom && s.calStepOk 200 && s.cal.step.isNone then s.loopStep t v p
    else s
  | none => s)

/-- The length of a test in ticks, doubled in FALLBACK (R573). -/
def State.testLen (s : State) (kind : Nat) : Nat :=
  let n := match kind with | 0 => 2048 | 1 => 64 | 2 => 128 | 3 => 3072 | _ => 0
  if s.flag CLK_STAT_FALLBACK then 2 * n else n

/-- Slots and copies of an area whose seal or check word does not hold (R576); the copies of the configuration area and Scree as the array
reads them are the sender's verdict. -/
def State.verifyBad (s : State) (area : Nat) : Bool :=
  let on := fun n => area = 0 || area = n
  let bad := fun (x : ImgSlot) => x.sealD.isSome && !s.sealHolds x
  (on 1 && bad (s.sysSlot 0 0)) || (on 2 && bad (s.sysSlot 0 1)) ||
    (on 3 && ([2, 3, 4].any (fun k => bad (s.sysSlot k 0) || bad (s.sysSlot k 1)) || s.parts.any fun e => bad e.2.slot0 || bad e.2.slot1)) ||
    (on 4 && [0, 1].any fun c => s.num (calCopy c) 4 ≠ 0 && !s.calValid c)

/-- TEST_COMPLETE (R572): a test of KIND 0 to 3 or 5 ends; `ok`, `r0` and `r1` are what the unit's test found. -/
def execTestComplete (ok : Bool) (r0 r1 : Word) (s : State) : Host.Outcome State Fault Refusal :=
  .next (match s.test with
  | some t =>
    if t.abort then s.testStop .deferred
    else if t.kind = 4 || s.tick < t.start + s.testLen t.kind then s
    else (s.sets [(DBG_TESTRES0_RES, r0.toNat), (DBG_TESTRES1_RES, r1.toNat)]).testEnd t (ok && !(t.kind = 5 && s.verifyBad t.index))
  | none => s)

/-- DBG_REPAIR.RELOC: a segment is redirected for good, or from the end of its copy to the end of its test (R574). -/
def State.reloc (s : State) : Bool :=
  s.flag DBG_REPAIR_PERM ||
    (match s.test with | some t => decide (t.kind = 3 ∧ t.start + (if s.flag CLK_STAT_FALLBACK then 522 else 261) ≤ s.tick) | none => false)

end Sys2Proof.Machine
end

