-- ==== Sys2Proof/Machine/Uart.lean ====
section
/-!
DEFINITION. The asynchronous serial port (spec/16): frames of protocol mode, the plain serial line of
transparent mode, dividers, driver enable.
-/

namespace Sys2Proof.Machine

open Reg

/-- Whether the receiver hears the line: running, and under HDX not while UART_DE is high (R451). -/
def State.uartHears (s : State) : Bool := s.portUp 1 && !(s.flag UART_CTL_HDX && s.flag UART_STAT_DEACT)

/-- The line as it stands at an idle declaration (R445), with the character errors of the frame counted. -/
def State.uartIdle (s : State) (fe pe : Nat) : State :=
  ((s.sets [(UART_STAT_INFRAME, 0), (UART_TSTAT_IDLE, 1)]).count UART_ERRCNT_FRAME fe).count UART_ERRCNT_PARITY pe

/-- A received frame of protocol mode that is heard, handled at its idle declaration (R446). -/
def State.uartFrame (s : State) (fe pe : Nat) (f : State → State) : State :=
  if s.uartHears && !s.uart.mode then (f ((s.uartIdle fe pe).set UART_STAT_WAKELOST 0)).uartGo else s

/-- Any other frame (R446). -/
def State.uartBadFrame (s : State) : State := (s.count HIF_ERRCNT_HDRERR 1).errStat 1 5 0

/-- A frame beginning 0xE7 (R446). -/
def execUartMessageFrame (octs : List Byte) (fe pe : Nat) (s : State) : Host.Outcome State Fault Refusal :=
  .next (s.uartFrame fe pe fun s =>
    if octs.head? = some 0xE7 then s.judge 1 octs (decide (0 < fe + pe)) false else s.uartBadFrame)

/-- A one-octet 0x00 frame: the port-status octet is sent (R446). -/
def execUartStatus (s : State) : Host.Outcome State Fault Refusal :=
  .next (s.uartFrame 0 0 fun s => { s with uart := { s.uart with statDue := true } })

/-- Sending the in-flight message again from octet 0 (R447). -/
def State.uartAgain (s : State) : State :=
  if (s.port 1).cur.isSome then { s with uart := { s.uart with again := true } } else s

/-- A one-octet 0x80 frame: RESEND (R447). -/
def execUartResend (s : State) : Host.Outcome State Fault Refusal := .next (s.uartFrame 0 0 State.uartAgain)

/-- A one-octet 0xA0 to 0xBF frame: ACK (R446, R435). -/
def execUartAck (a : Fin 32) (s : State) : Host.Outcome State Fault Refusal := .next (s.uartFrame 0 0 fun s => s.ackPort 1 a)

/-- Any other frame: discarded, HDRERR, KIND 5 (R446). -/
def execUartInvalidFrame (fe pe : Nat) (s : State) : Host.Outcome State Fault Refusal := .next (s.uartFrame fe pe State.uartBadFrame)

/-- Setting flags of UART_TSTAT: a read-clear in progress does not take them (R450). -/
def State.uartFlag (s : State) (F : Fld) : State :=
  let s := s.set F 1
  { s with uart := { s.uart with seen := s.uart.seen.filterMap fun e =>
      let v := if bit e.2 F.lo then e.2 - 2 ^ F.lo else e.2
      if v = 0 then none else some (e.1, v) } }

/-- A break (R448): in protocol mode the port's bus reset, whatever was being sent or received with
it; in transparent mode BRK. -/
def execUartBreak (s : State) : Host.Outcome State Fault Refusal :=
  .next (if !s.uartHears then s
  else
    let s := s.count UART_ERRCNT_BREAK 1
    if s.uart.mode then s.uartFlag UART_TSTAT_BRK
    else
      let s := s.set UART_STAT_INFRAME 0
      let s := { s with uart := { s.uart with send := none, statDue := false, again := false } }
      ((s.set UART_STAT_TXBUSY 0).busReset 1).uartGo)

/-- An idle declaration (R445): EV_UART_IDLE in transparent mode (R449). -/
def execUartLineIdle (s : State) : Host.Outcome State Fault Refusal :=
  .next (if !s.uartHears then s
  else
    let s := s.uartIdle 0 0
    (if s.uart.mode then s.raise (s.get UART_CTL_TPART) .uartIdle else s).uartGo)

/-- ACKTO ms without a retiring ACK (R447). -/
def execUartAckTimeout (s : State) : Host.Outcome State Fault Refusal :=
  .next (
    let t := s.get UART_MSGCFG_ACKTO
    if t ≠ 0 ∧ s.portUp 1 ∧ !s.uart.mode ∧ (s.port 1).sent ∧ s.uart.send.isNone ∧ s.uart.ackFrom + 1000 * t ≤ s.tick then
      s.uartAgain.uartGo
    else s)

/-- The transmitter is free again. -/
def State.uartFree (s : State) : State := { s.set UART_STAT_TXBUSY 0 with uart := { s.uart with send := none } }

/-- The last stop bit of a device frame ends: SENT is set (R447). -/
def execUartFrameSent (s : State) : Host.Outcome State Fault Refusal :=
  .next (match s.uart.send with
  | some .msg =>
    let s := s.updPort 1 fun r => { r with sent := r.cur.isSome }
    { s with uart := { s.uart with ackFrom := s.tick } }.uartFree.uartGo
  | some .status => s.uartFree.uartGo
  | _ => s)

/-- A received character (R449): in transparent mode it enters the receive FIFO or is lost with OE.
In protocol mode it belongs to the frame being received. -/
def execUartCharacterReceived (d : Nat) (fe pe : Bool) (s : State) : Host.Outcome State Fault Refusal :=
  .next (if !s.uartHears then s
  else
    let s := s.sets [(UART_STAT_WAKELOST, 0), (UART_STAT_INFRAME, 1), (UART_TSTAT_IDLE, 0)]
    if !s.uart.mode then s
    else
      let s := (s.count UART_ERRCNT_FRAME fe.toNat).count UART_ERRCNT_PARITY pe.toNat
      let s := if fe then s.uartFlag UART_TSTAT_FE else s
      let s := if pe then s.uartFlag UART_TSTAT_PE else s
      if 32 ≤ s.uart.rxq.length then (s.count UART_ERRCNT_OVERRUN 1).uartFlag UART_TSTAT_OE
      else { s with uart := { s.uart with rxq := s.uart.rxq ++ [{ data := d % 2 ^ (5 + s.get UART_FMT_DBITS), fe := fe, pe := pe }] } })

/-- Whether UART_TSTAT and UART_TDATA reach the line in a partition's bank (R449). -/
def State.onLine (s : State) (p : Nat) : Bool := decide (s.get UART_CTL_TPART = p)

/-- A write of UART_TDATA (R449). In protocol mode it reaches no line (DEDUCED). -/
def State.uartPut (s : State) (p w : Nat) : State :=
  if !s.onLine p || !s.uart.mode then s
  else if 32 ≤ s.uart.txq.length then s.uartFlag UART_TSTAT_TXOV
  else { s with uart := { s.uart with txq := s.uart.txq ++ [w % 512] } }.uartGo

/-- A write of UART_TDATA (R449). -/
def execUartTransmitDataWrite (p : Fin 32) (w : Word) (s : State) : Host.Outcome State Fault Refusal := .next (s.uartPut p w.toNat)

/-- UART_TSTAT as a bank reads it. -/
def State.uartTstat (s : State) (p : Nat) : Nat :=
  if s.onLine p then
    (32 - s.uart.txq.length) * 2 ^ 16 + s.uart.rxq.length * 2 ^ 8 + s.get UART_TSTAT_TXOV * 32 + s.get UART_TSTAT_IDLE * 16 +
      s.get UART_TSTAT_BRK * 8 + s.get UART_TSTAT_OE * 4 + s.get UART_TSTAT_PE * 2 + s.get UART_TSTAT_FE
  else 0

/-- A read of UART_TSTAT by a context: the flags it returned as 1 are the ones the next read of
UART_TDATA clears (R450). TXOV is among them. -/
def State.uartSee (s : State) (p ctx : Nat) : State :=
  { s with uart := { s.uart with seen := Tab.set 0 s.uart.seen ctx (s.uartTstat p &&& 0x2F) } }

/-- A read of another UART register by a context (R450). -/
def State.uartUnsee (s : State) (ctx : Nat) : State := { s with uart := { s.uart with seen := Tab.del s.uart.seen ctx } }

/-- A read of UART_TDATA by a context: the word and the state after it (R450). -/
def State.uartTake (s : State) (p ctx : Nat) : Nat × State :=
  if !s.onLine p then (0, s)
  else
    let m := Tab.get 0 s.uart.seen ctx
    let clr := [UART_TSTAT_FE, UART_TSTAT_PE, UART_TSTAT_OE, UART_TSTAT_BRK, UART_TSTAT_TXOV].filter fun F => bit m F.lo
    let s := (s.sets (clr.map fun F => (F, 0))).uartUnsee ctx
    match s.uart.rxq with
    | [] => (0, s)
    | c :: t => (2 ^ 31 + 1024 * c.fe.toNat + 512 * c.pe.toNat + c.data, { s with uart := { s.uart with rxq := t } })

/-- A read of UART_TDATA by a partition's program (R450). -/
def execUartReceiveDataRead (p : Fin 32) (imgB : Bool) (s : State) : Host.Outcome State Fault Refusal :=
  .next (s.uartTake p (if imgB then 64 + p else p)).2

/-- A write of UART_CTL: MODE = 1 has no effect where TPART's descriptor does not carry TRANSP (R449). -/
def State.uartCtl (s : State) (w : Nat) : State :=
  let s := s.putFlds w [UART_CTL_TPART, UART_CTL_WAKEEN, UART_CTL_DEEN, UART_CTL_HDX, UART_CTL_EN]
  let s := if s.flag UART_CTL_DEEN then s else s.set UART_STAT_DEACT 0
  let p := s.get UART_CTL_TPART
  if bit w 1 && !(s.pexists p && (s.part p).desc.transp) then s.uartGo
  else (s.set UART_CTL_MODE (bits w 1 1)).uartGo

/-- A write of UART_CTL.MODE (R449). -/
def execUartModeWrite (w : Word) (s : State) : Host.Outcome State Fault Refusal := .next (s.uartCtl w.toNat)

/-- The change of mode, once the transmit FIFO is empty and no frame is being received (R449). -/
def execUartModeChange (s : State) : Host.Outcome State Fault Refusal :=
  .next (if s.flag UART_CTL_MODE = s.uart.mode || !s.uart.txq.isEmpty || s.flag UART_STAT_INFRAME then s
  else
    let s := { s.set UART_STAT_TXBUSY 0 with uart := { s.uart with mode := !s.uart.mode, rxq := [], txq := [], send := none, statDue := false, again := false } }
    let s := s.updPort 1 fun r => { r with cur := none, offer := none, sent := false }
    (s.offerNext 1).uartGo)

/-- OS in force: 16 or 8 points (R441). -/
def State.uartOs (s : State) : Nat := if s.flag UART_FMT_OS then 8 else 16

/-- A write of UART_DIV or UART_SHDIV (R443). -/
def State.uartDiv (s : State) (sh : Bool) (w : Nat) : State :=
  if bits w 0 16 < s.uartOs then s.set UART_STAT_DIVREJ 1
  else (s.putFlds w (if sh then [UART_SHDIV_FRAC, UART_SHDIV_INT] else [UART_DIV_FRAC, UART_DIV_INT])).set UART_STAT_DIVREJ 0

/-- A write of UART_DIV or UART_SHDIV (R443). -/
def execUartDividerWrite (sh : Bool) (w : Word) (s : State) : Host.Outcome State Fault Refusal := .next (s.uartDiv sh w.toNat)

/-- A write of UART_FMT: refused where either divider would fall below the new OS (R443). -/
def State.uartFmt (s : State) (w : Nat) : State :=
  let os := if bit w 0 then 8 else 16
  if s.get UART_DIV_INT < os ∨ s.get UART_SHDIV_INT < os then s.set UART_STAT_DIVREJ 1
  else (s.putFlds w [UART_FMT_STOP, UART_FMT_PAR, UART_FMT_DBITS, UART_FMT_OS]).set UART_STAT_DIVREJ 0

/-- A write of UART_FMT (R443). -/
def execUartFormatWrite (w : Word) (s : State) : Host.Outcome State Fault Refusal := .next (s.uartFmt w.toNat)

/-- The end of the tail: UART_DE falls (R451), unless a character became ready in it. -/
def execUartDeTailEnd (s : State) : Host.Outcome State Fault Refusal :=
  .next (if s.uart.send.isNone then (s.set UART_STAT_DEACT 0).uartGo else s)

/-- The last stop bit of a character of transparent mode ends (R449). -/
def execUartCharacterSent (s : State) : Host.Outcome State Fault Refusal :=
  .next (if s.uart.send = some .char then
    let s := s.updPort 1 fun r => { r with out := s.uart.txq.take 1 |>.map (BitVec.ofNat 8 ·) }
    { s with uart := { s.uart with txq := s.uart.txq.drop 1 } }.uartFree.uartGo
  else s)

end Sys2Proof.Machine
end

