-- ==== Sys2Proof/Machine/Router.lean ====
section
/-!
DEFINITION. Access to registers (R5, R6, R16 to R18, R336, R617): who may reach a register, what a
read returns where a register shows something the state holds elsewhere, and what a write does where
it does more than set fields.
-/

namespace Sys2Proof.Machine

open Reg

/-- Who makes an access: the bus tag whose latches it uses (R12); the tag whose rights it has, which
differs for a debug access made as the target; the bank a PART register resolves to (R16); whether it
comes from image B of a dual-image window (R353); whether it has the authority of R530; the context
that executes it, if one does. -/
structure Who where
  tag  : Nat
  as   : Nat
  bank : Nat := 0
  imgB : Bool := false
  auth : Bool := false
  ctx  : Option Nat := none
  deriving DecidableEq, Repr

/-- The key of what is kept for each tag and, in a window, for each of its two contexts (R38, R143, R450). -/
def Who.key (w : Who) : Nat := tickLatch w.tag w.imgB

/-- The host acting through P0 (R16), with or without authority (R530). -/
def Who.host (auth : Bool) : Who := { tag := 0, as := 0, auth := auth }

/-- A context's own access. -/
def Who.ofCtx (c : Ctx) : Who :=
  match c with
  | .part p b => { tag := p, as := p, bank := p, imgB := b, ctx := some (ctxNum c) }
  | _ => { tag := ctxTag c, as := ctxTag c, ctx := some (ctxNum c) }

/-! ## Rights -/

/-- The first address of the register blocks, and the first past the last of them (R7). -/
def regFirst : Nat := 0x40000000
def regEnd : Nat := 0x4001F000

/-- Whether an address lies in a register block. -/
def inRegs (a : Nat) : Bool := decide (regFirst ≤ a ∧ a < regEnd)

/-- The number of the block an address lies in. -/
def blockOf (a : Nat) : Nat := (a - regFirst) / 4096

/-- The blocks RSA, RSB and CE reach (R336). -/
def seqBlocks (tag : Nat) : List Nat :=
  match tag with
  | 33 => [4, 6, 7, 9, 11, 13, 3, 19]
  | 34 => [5, 8, 9, 11, 3, 19]
  | _ => [15, 4, 6, 11, 3, 19]

/-- Whether the owner attribute of the register at an address allows an access with the rights of a tag
(R16, R17, R336, R617). -/
def regMay (as : Nat) (write : Bool) (a : Nat) : Bool :=
  let seq := decide (33 ≤ as ∧ as ≤ 35)
  (!seq || (seqBlocks as).contains (blockOf a)) &&
    match findReg a with
    | none => true
    | some (d, _, _) =>
      match d.owner with
      | .sv => as = 32
      | .p0 => as = 32 || as = 0 || seq
      | .part => as ≤ 32
      | .anyRo => !write || as = 32

/-- The power domain of a block (R483). -/
def blockDom (b : Nat) : Nat :=
  match b with
  | 1 | 2 | 3 | 15 | 28 | 30 => 0
  | 4 | 7 => 2
  | 5 | 8 => 3
  | 6 => 4
  | 9 => 5
  | 10 => 6
  | 20 | 21 => 7
  | 23 | 24 => 8
  | 27 => 9
  | _ => 1

/-! ## What a read shows -/

/-- A 16-bit signed value, or 0x8000 where there is none (CHB_ENERGY, CHB_NOISE). -/
def orNone (v : Option Int) : Nat := match v with | some e => wrap 16 e | none => 0x8000

/-- The largest of the samples that are valid. -/
def peakOf (l : List (Option Int)) : Option Int :=
  l.foldl (fun m v => match m, v with | none, v => v | some a, some b => some (max a b) | m, none => m) none

/-- The slot the per-slot registers of CHB show (R143): none where a partition's program reads a slot that is not its own. -/
def State.slotSeen (s : State) (w : Who) : Option Nat :=
  let k := Tab.get 0 s.chb.sel w.key
  if w.as = 0 || 32 ≤ w.as || (s.owners k).testBit w.as then some k else none

/-- The general unit `u` as CRC_GOWNL and CRC_GOWNH show it. -/
def State.crcUnit (s : State) (u : Nat) : Nat :=
  match s.crcs.find? fun e => e.2.unit = some u with
  | some e => 0x80 + e.1 / 8
  | none => 0

/-- The expert cipher operations of a partition that have not ended (SEC_PQUEUE). -/
def State.expertOps (s : State) (p : Nat) : Nat :=
  ((s.part p).tickets.filter fun t => t.service = 7 && t.status.isNone).length +
    (match (s.mb p).inq with | m :: _ => if (s.mb p).busy && m.typ = 0x51 then 1 else 0 | [] => 0)

/-- The levels at the GP pins: as driven, or a free value at an input. -/
def State.gpLevels (s : State) : Nat × State :=
  (List.range 8).foldl (fun r n =>
    match r.2.gpDrive n with
    | some v => (if v then r.1 + 2 ^ n else r.1, r.2)
    | none => let f := r.2.free 1; (r.1 + f.1 * 2 ^ n, f.2)) (0, s)

/-- The pins a partition owns, as a mask; `io`: those with FUNC 0. -/
def State.pinMask (s : State) (p : Nat) (io : Bool) : Nat :=
  (List.range 8).foldl (fun m n =>
    if s.flag (GPC_PINn_OWNED n) && s.get (GPC_PINn_OWNER n) = p && (!io || s.get (GPC_PINn_FUNC n) = 0) then m + 2 ^ n else m) 0

/-- The bits of a list of truth values, the first lowest. -/
def bitsOf (l : List Bool) : Nat := (l.zipIdx.map fun e => e.1.toNat * 2 ^ e.2).sum

/-- The DUAL field of ENG_IMG. -/
def Part.dualCode (P : Part) : Nat :=
  match P.act, P.dual with
  | some (.dual ..), _ => 1
  | some .commit, some _ => 3
  | some .revert, some _ => 4
  | _, some _ => 2
  | _, none => 0

/-- A field that covers a whole register. -/
def wholeReg : Fld := Fld.mk' 0 0 32 .ro 0 [] false

/-- A free value shown in a field. -/
def State.shownFree (s : State) (F : Fld) : List (Fld × Nat) × State := let r := s.free F.w; ([(F, r.1)], r.2)

/-- What a read shows in place of stored fields, by the register's first address and its indices, and the
state after what such a read does. -/
def State.shown (s : State) (w : Who) (first i : Nat) : List (Fld × Nat) × State :=
  let p := w.bank
  let P := s.part p
  let all := fun (v : Nat) => ([(wholeReg, v)], s)
  match first with
  | 0x40001000 =>                                                              -- PWR_MODE
    let m := s.mode
    let b := if [5, 6, 7].contains m then (s.baseMode, s) else s.free 4
    ([(PWR_MODE_MODE, m), (PWR_MODE_BASE, b.1), (PWR_MODE_ENTERING, s.pwr.entry.isSome.toNat),
      (PWR_MODE_TARGET, match s.pwr.entry with | some e => e.target.num | none => m)], b.2)
  | 0x40001024 => ([(PWR_CMPSTAT_LOWSEC, s.lowSec)], s)                        -- PWR_CMPSTAT
  | 0x40001200 => ([(PWR_PADREL_HELD, (!(s.padsOf p).isEmpty).toNat)], s)      -- PWR_PADREL
  | 0x40003000 => let r := s.readTickl w.tag w.imgB; ([(wholeReg, r.1)], r.2)  -- TBS_TICKL
  | 0x40003004 => all (s.readTickh w.tag w.imgB)                               -- TBS_TICKH
  | 0x40004008 => if i = 2 then ([(SYNx_STAT_DEVCLIP 2, s.clipNote.get (SYNx_STAT_DEVCLIP 2))], s) else ([], s) -- SYNx_STAT
  | 0x40007014 => let r := s.free 32; ([(wholeReg, r.1)], r.2)                 -- RXx_PWR is measured
  | 0x40007018 => s.shownFree (RXx_CLIP_COUNT i)                               -- RXx_CLIP is measured
  | 0x40009040 => all (Tab.get 0 s.chb.sel w.key)                              -- CHB_SLOTSEL
  | 0x40009044 =>                                                              -- CHB_SLOTSTAT
    match s.slotSeen w with
    | none => all 0
    | some k =>
      let t := s.slot k
      ([(CHB_SLOTSTAT_VALID, t.valid), (CHB_SLOTSTAT_CLAIM, match s.frame k with | some f => f.hyp | none => 3),
        (CHB_SLOTSTAT_SICACT, t.sic.isSome.toNat), (CHB_SLOTSTAT_FBKEEP, t.fbKeep.toNat), (CHB_SLOTSTAT_STATE, s.slotState s.txBlank k)], s)
  | 0x40009048 =>                                                              -- CHB_ENERGY
    match s.slotSeen w with
    | none => all 0
    | some k =>
      let t := s.slot k
      ([(CHB_ENERGY_PEAK, orNone (peakOf t.ring)), (CHB_ENERGY_LAST, orNone (t.ring.headD none))], s)
  | 0x4000904C => match s.slotSeen w with | none => all 0 | some k => all (orNone (s.slot k).noise)          -- CHB_NOISE
  | 0x40009050 | 0x40009054 | 0x40009058 =>                                    -- CHB_DETCNT, CHB_LOSTA, CHB_LOSTB
    match s.slotSeen w with
    | none => all 0
    | some k => ((match findReg first with | some (d, _, _) => d.flds 0 0 | none => []).map fun F => (F, s.get (F.at k)), s)
  | 0x40009060 => match s.slotSeen w with | none => all 0 | some k => all (s.desc k i)                       -- CHB_DESCn
  | 0x4000A004 => ([(TRL_STAT_CTX, s.trl.wait.length + (s.trl.dec.filter fun e => e.2.isSome).length)], s)  -- TRL_STAT
  | 0x4000B004 =>                                                              -- TXM_STAT
    if s.get TXM_STAT_PHASE = 2 && (match s.txAir with | some t => decide (t.tsAt ≤ s.tbs.now) | none => false) then
      ([(TXM_STAT_PHASE, 3)], s)
    else ([], s)
  | 0x4000D080 => all (min (s.sbuse i) 0xFFFFFFFF)                             -- AIR_SBUSEn
  | 0x40010214 => ([(PRT_PKT_CAP, s.pktCap p), (PRT_PKT_HELD, P.gran.length), (PRT_PKT_FLOOR, P.desc.pktFlr)], s)  -- PRT_PKT
  | 0x40011000 | 0x40011004 | 0x40011010 =>                                    -- PEC_PEND, PEC_EEN, PEC_OVF (R353)
    ((match findReg first with | some (d, _, _) => d.flds 0 0 | none => []).map fun F =>
      (F, s.get (F.at (latchBank p (w.imgB && P.dual.isSome)))), s)
  | 0x40011104 => ([(PEC_PINSTAT_HIRQB, (s.hirq 1).toNat), (PEC_PINSTAT_HIRQA, (s.hirq 0).toNat)], s)        -- PEC_PINSTAT
  | 0x40012800 => all (P.level.floor.toNat)                                    -- SAD_ALEVEL
  | 0x40013044 =>                                                              -- ENG_TXLIM
    match s.txBound with
    | some t => all ((if t.fixed then t.t0 else (t.until_ + s.get AIR_TXLOCKWAIT_WAIT) * 64) % 2 ^ 32)
    | none => all 0
  | 0x40013200 =>                                                              -- ENG_IMG
    ([(ENG_IMG_DUAL, P.dualCode), (ENG_IMG_SWPEND, match P.act with | some (.switch _) => 1 | _ => 0),
      (ENG_IMG_S1, P.slot1.st.num), (ENG_IMG_S0, P.slot0.st.num)], s)
  | 0x40013204 => let x := P.slot i; all (if x.st = .empty then 0 else x.hdr.version)                        -- ENG_IMGVs
  | 0x4001320C => ([(ENG_DUAL_CTX, w.imgB.toNat)], s)                          -- ENG_DUAL
  | 0x40014200 =>                                                              -- SEC_PQUEUE: how many run is not given
    let n := s.expertOps p
    let r := s.free 3
    let run := r.1 % (min n 4 + 1)
    if n = 0 then ([], s) else ([(SEC_PQUEUE_RUN, run), (SEC_PQUEUE_WAIT, n - run)], r.2)
  | 0x40015004 =>                                                              -- KEY_STAT
    ([(KEY_STAT_RECFREE, (ksRecs.filter fun r => s.ksKind r = 0).length), (KEY_STAT_SLOTS, s.key.slots.length)], s)
  | 0x40015204 => ([(KEY_PSTAT_RECHELD, s.ksHeld p), (KEY_PSTAT_SLOTS, s.slotsOf p)], s)                     -- KEY_PSTAT
  | 0x40015208 => let r := s.limStat p; ([(KEY_LIMSTAT_NEAR, r.1), (KEY_LIMSTAT_ATLIM, r.2)], s)             -- KEY_LIMSTAT
  | 0x40016000 => let r := s.free 4; ([(CRC_PPSTAT_FREE, 8 - s.crcLent.length), (CRC_PPSTAT_BUSY, r.1)], r.2)   -- CRC_PPSTAT
  | 0x40016010 => ([(CRC_GOWNL_U3, s.crcUnit 3), (CRC_GOWNL_U2, s.crcUnit 2), (CRC_GOWNL_U1, s.crcUnit 1), (CRC_GOWNL_U0, s.crcUnit 0)], s)
  | 0x40016014 => all (((List.range 4).map fun u => s.crcUnit (4 + u) * 256 ^ u).sum)                        -- CRC_GOWNH
  | 0x40017004 =>                                                              -- HIF_STAT
    let r := s.port 0
    all (r.cur.getD 0 * 2 ^ 11 + r.cur.isSome.toNat * 2 ^ 10 + r.sent.toNat * 2 ^ 9 + s.get CLK_STAT_SPILIM * 2 ^ 8)
  | 0x40018018 => ([(UART_STAT_SHADOW, s.get CLK_STAT_FALLBACK)], s)           -- UART_STAT
  | 0x40018200 => ([(wholeReg, s.uartTstat p)], s.uartSee p w.key)             -- UART_TSTAT
  | 0x40018204 => let r := s.uartTake p w.key; ([(wholeReg, r.1)], r.2)        -- UART_TDATA
  | 0x40019004 =>                                                              -- DBG_STAT
    ([(DBG_STAT_LOCKOUT, (match s.dbg.failAt with | some t => decide (s.tick < t + 1000000) | none => false).toNat),
      (DBG_STAT_CHAL, s.dbg.chal.isSome.toNat), (DBG_STAT_SCOPE, s.dbg.scope.getD 0xFF)], s)
  | 0x40019008 =>                                                              -- DBG_HALTS
    let h := fun k => (s.prog k).halted
    all (bitsOf [h 0, h 64, h 32, h 33, h 34, false, false, false, (s.prog 33).haltPend, (s.prog 34).haltPend])
  | 0x40019058 => ([(DBG_REPAIR_RELOC, s.reloc.toNat)], s)                     -- DBG_REPAIR
  | 0x40019200 =>                                                              -- DBG_PHALT
    all (bitsOf [(s.prog p).halted, (s.prog (64 + p)).halted, decide (s.dbg.scope = some p)])
  | 0x4001B000 => ([(NVC_STAT_WRBUSY, (!s.nvq.isEmpty).toNat)], s)             -- NVC_STAT
  | 0x4001B00C =>                                                              -- NVC_CKSTAT
    ([(NVC_CKSTAT_VOLATILE, min 2047 ((s.live.map fun q => (s.volatile q).length).sum)),
      (NVC_CKSTAT_USED, (ckRecs.filter s.ckUsed).length)], s)
  | 0x4001B200 => ([(NVC_CKPSTAT_VOLATILE, (s.volatile p).length), (NVC_CKPSTAT_HELD, s.ckHeld p)], s)       -- NVC_CKPSTAT
  | 0x4001C040 => all (ofOctets ((devPub.drop (4 * i)).take 4))                -- TMP_DEVPUBn
  | 0x4001D024 => let r := s.gpLevels; ([(GPC_LEVEL_LEVEL, r.1)], r.2)         -- GPC_LEVEL
  | 0x4001D200 => ([(GPC_PDIR_DIR, s.get (GPC_PDIR_DIR.at p) &&& s.pinMask p true)], s)                      -- GPC_PDIR
  | 0x4001D204 => ([(GPC_POUT_OUT, s.get (GPC_POUT_OUT.at p) &&& s.pinMask p true)], s)                      -- GPC_POUT
  | 0x4001D208 => let r := s.gpLevels; ([(GPC_PIN_LEVEL, r.1 &&& s.pinMask p false)], r.2)                   -- GPC_PIN
  | 0x4001E010 => ([(RET_VCORE_PRESENT, s.vcore)], s)                          -- RET_VCORE
  | _ =>
    if decide (0x40016200 ≤ first ∧ first < 0x40016240) then all ((s.crcSlot p i).read (first - 0x40016200))   -- the CRC slots
    else ([], s)

/-- The word fields spell: their stored values, but for those shown in place of them; a WO field reads 0 (R5). -/
def State.fldsWord (s : State) (bank : Nat) (l : List Fld) (show' : List (Fld × Nat)) : Nat :=
  let word := (l.map fun F => if F.acc = .wo then 0 else s.get (if F.part then F.at bank else F) * 2 ^ F.lo).sum
  show'.foldl (fun n e => putBits n e.1.lo e.1.w e.2) word

/-- A read of the register at an address, rights apart: RC fields are cleared by it (R5). An offset without
a register reads 0 (R617). A read of a UART register other than UART_TSTAT comes between the two reads of R450. -/
def State.regRead (s : State) (w : Who) (a : Nat) : Nat × State :=
  match findReg a with
  | none => (0, s)
  | some (d, i, j) =>
    let l := d.flds i j
    let r := s.shown w d.first i
    let s' := (l.filter fun F => F.acc = .rc).foldl (fun s F => s.set F 0) r.2
    let s' := if blockOf a = 24 && d.first ≠ 0x40018200 && d.first ≠ 0x40018204 then s'.uartUnsee w.key else s'
    (s.fldsWord w.bank l r.1, s')

/-! ## What a write does -/

/-- A write that does nothing but set fields under their access codes (R5, R6). -/
def State.putWord (s : State) (bank v : Nat) (l : List Fld) : State :=
  l.foldl (fun s F =>
    let G := if F.part then F.at bank else F
    match F.acc with
    | .rw => s.putFld v G
    | .rwl => if s.pwr.boot then s.putFld v G else s
    | .w1c => s.set G (s.get G - (s.get G &&& bits v F.lo F.w))
    | .wo | .ro | .rc => s) s

/-- A write of a field that takes only valid frequency words (R56); `zero`: 0 is allowed too. -/
def State.putFreq (s : State) (v : Nat) (F : Fld) (zero : Bool) : State :=
  let f := bits v 0 29
  if freqOk f || (zero && f = 0) then s.set F f else s

/-- A write of TXM_MSEGnH: with REF 0 a limit below -320 or above 0 is reserved. -/
def State.writeMsegH (s : State) (n v : Nat) : State :=
  let l := sext 16 (bits v 0 16)
  if s.flag (TXM_MSEGnL_REF n) || decide (-320 ≤ l ∧ l ≤ 0) then s.putFld v (TXM_MSEGnH_LIMIT n) else s

/-- A write of TRL_CODEn, entries 4 to 7: a generator with bits above K - 1 counts as reserved. -/
def State.writeTrlCode (s : State) (n v : Nat) : State :=
  let s := s.putFlds v [TRL_CODEn_RSC n, TRL_CODEn_K n]
  let top := 2 ^ s.get (TRL_CODEn_K n)
  let s := if bits v 8 7 < top then s.putFld v (TRL_CODEn_G1 n) else s
  if bits v 0 7 < top then s.putFld v (TRL_CODEn_G0 n) else s

/-- A write of PRT_CRCTL (R265, R273). -/
def State.writeCrctl (s : State) (v : Nat) : State :=
  let s := s.putFld v PRT_CRCTL_PNUM
  let s := if bit v 0 then s.createWrite else s
  if bit v 1 then s.purgeWrite (bits v 8 5) else s

/-- Bits of a partition's own pins with FUNC 0 written in GPC_PDIR or GPC_POUT. -/
def State.putPins (s : State) (p v : Nat) (F : Fld) : State :=
  let m := s.pinMask p true
  let old := s.get (F.at p)
  s.set (F.at p) ((old - (old &&& m)) ||| (v &&& m))

/-- Writes of the clock, timebase, synthesiser and receive-chain blocks that do more than set fields; none
for the other registers. -/
def State.writeFront (s : State) (w : Who) (first i v : Nat) : Option State :=
  match first with
  | 0x40002004 =>                                                              -- CLK_CTL
    let s := s.putWord 0 v [CLK_CTL_XOMODE, CLK_CTL_PLLEN]
    some (if bit v 1 && s.pllRuns then s.pllLost false else s)
  | 0x40003010 => some (s.sets [(TBS_SETL_TICK_LO, v / 64), (TBS_SETL_FRAC, v)])
  | 0x40003014 => some (s.writeSeth v)
  | 0x40003018 => some (s.writeAdj v)
  | 0x4000301C => some (s.writePstep v)
  | 0x40003044 => some (s.writeTmrH w.bank i v)
  | 0x40004000 => some (s.freqCommand i (v % 2 ^ 29)).2                        -- SYNx_FREQ
  | 0x40004004 => some ((if i = 2 then s.putFld v (SYNx_CTL_PHTRACK i) else s).writeSynEn i (bit v 0))
  | 0x40006018 => some (s.writePhase (v % 2 ^ 12))
  | 0x40007000 =>                                                              -- RXx_CTL
    let s := s.writeAgc i v
    some ((if i = 0 then s.putFld v (RXx_CTL_COMB 0) else s).writeRxEn i (bit v 0))
  | 0x4000700C => some ((s.putFld v (RXx_SVC_MAXWAIT i)).writeSvcReq i (bit v 0))
  | 0x40007010 => some (s.putFreq v (RXx_FBFREQ_FREQ i) true)
  | 0x40009000 =>                                                              -- CHB_CTL
    let s := if bit v 2 then s.chbClear else s
    some ((s.putFld v CHB_CTL_SICEN).writeChbEn (bit v 0))
  | 0x4000900C => some (s.writePlanCtl v)
  | 0x40009040 => some { s with chb := { s.chb with sel := Tab.set 0 s.chb.sel w.key (v % 128) } }
  | 0x4000A008 => some (s.writeTrlSvc v)
  | 0x4000A050 => some (s.writeTrlCode (4 + i) v)
  | 0x4000C000 =>                                                              -- PKT_CTL
    some ((if bit v 1 then s.pktClear else s).writePktEn (bit v 0))
  | _ => none

/-- The same for the transmit, air access and association blocks. -/
def State.writeAirBlocks (s : State) (w : Who) (first i v : Nat) : Option State :=
  match first with
  | 0x4000B014 => some (s.writeTapctl v)
  | 0x4000B100 => some (s.writeProf i 0 v)
  | 0x4000B104 => some (s.writeProf i 1 v)
  | 0x4000B108 => some (s.writeProf i 2 v)
  | 0x4000B204 => some (s.writeMsegH i v)
  | 0x4000D000 =>                                                              -- AIR_CTL
    let s := if bit v 2 then s.airClear else s
    some ((s.putFld v AIR_CTL_HOLDRX).writeAirEn (bit v 0))
  | 0x4000D00C => some (s.writeBper v)
  | 0x4000D034 => some (s.writeRegCtl v)
  | 0x4000D20C => some (s.putFreq v (AIR_GFREQ_FREQ.at w.bank) false)
  | 0x4000D214 => some (s.writeBcnp w.bank v)
  | 0x4000D218 => some (s.putFreq v (AIR_BFREQ_FREQ.at w.bank) false)
  | 0x4000D21C => some (if v < s.get AIR_BPER_PER then s.putFld v (AIR_BOFF_OFF.at w.bank) else s)
  | 0x4000E000 => some ((if bit v 1 then s.ascClear else s).writeAscEn (bit v 0))
  | 0x4000E100 => some (s.writeSarng i v)
  | 0x4000E20C => some (s.putFreq v (ASC_RFREQ_FREQ.at w.bank) false)
  | 0x4000F014 => some (s.writeColTx v)
  | _ => none

/-- The same for the partition, event, Saddle, engine, cipher, key and check-value blocks. -/
def State.writePartBlocks (s : State) (w : Who) (first i v : Nat) : Option State :=
  let p := w.bank
  let b := latchBank p (w.imgB && (s.part p).dual.isSome)
  match first with
  | 0x40010004 => some (s.writeCrctl v)
  | 0x40010180 => some (s.writePctl i v)
  | 0x40010200 => some (s.rstAsk p (v % 4))
  | 0x40010218 => some (s.pktRequest p v)
  | 0x4001021C => some (s.writeRxRing p v)
  | 0x40010220 => some (s.writeRxRd p v)
  | 0x40011000 => some (s.evClear b false v)
  | 0x40011004 => some (s.putFld v (PEC_EEN_EEN.at b))
  | 0x40011010 => some (s.evClear b true v)
  | 0x40012000 => some (s.writeSad 0 0 v)
  | 0x40012100 => some (s.writeSad 1 i v)
  | 0x40012104 => some (s.writeSad 2 i v)
  | 0x40012108 => some (s.writeSad 3 i v)
  | 0x4001210C => some (s.writeSad 4 i v)
  | 0x40012110 => some (s.writeSad 5 i v)
  | 0x40012114 => some (s.writeSad 6 i v)
  | 0x40013004 => some (s.writeEngSvc v)
  | 0x40013020 => some (s.writeSeqctl i v)
  | 0x40013210 => some (match w.ctx with | some k => s.updProg k fun g => { g with wdog := 0 } | none => s)
  | 0x40014008 => some (s.writeSecSvc v)
  | 0x40015000 => some (s.writeKeyCtl (bit v 1) (bit v 0))
  | 0x40015100 => some (s.writeTquota i v)
  | 0x40015200 => some (s.writeUlim p v)
  | _ => if decide (0x40016200 ≤ first ∧ first < 0x40016240) then some (s.crcRegWrite p i (first - 0x40016200) v) else none

/-- The same for the remaining blocks. -/
def State.writeSysBlocks (s : State) (w : Who) (first i v : Nat) : Option State :=
  match first with
  | 0x40017000 =>                                                              -- HIF_CTL
    let s := s.putFlds v [HIF_CTL_P0PORT, HIF_CTL_ERRNOTE, HIF_CTL_SPIEN]
    some (if bit v 2 then s.hifClear else s).reoffer
  | 0x40018000 => some (s.uartCtl v)
  | 0x40018004 => some (s.uartFmt v)
  | 0x40018008 => some (s.uartDiv false v)
  | 0x4001800C => some (s.uartDiv true v)
  | 0x40018204 => some (s.uartPut w.bank v)
  | 0x40001004 => some (s.modeRequest (v % 16) (s.get PWR_REQPAR_PARAM) false false).2
  | 0x40001020 => some (s.writeCmpcfg v)
  | 0x40001200 => some (if bit v 0 then s.padRelease w.bank else s)
  | 0x40019040 => some (s.writeTestctl v)
  | 0x4001A000 => some (s.calCtl v)
  | 0x4001A020 => some (s.xoFeedback v)
  | 0x4001A040 => some (s.calItemWrite i v)
  | 0x4001B014 => some (s.writeLogIdx v)
  | 0x4001C004 => some (s.writeTmpCtl v w.auth)
  | 0x4001C008 => some (s.writePolicy v w.auth)
  | 0x4001C024 => some (s.writeLcctl v w.auth)
  | 0x40000008 => some (s.writeRstctl v w.auth)
  | 0x4001D000 => some (s.writeGpPin i v)
  | 0x4001D200 => some (s.putPins w.bank v GPC_PDIR_DIR)
  | 0x4001D204 => some (s.putPins w.bank v GPC_POUT_OUT)
  | _ => none

/-- The fields of a register that a plain write sets: STEP0 of RXx_GSTEP0 is fixed at 0. -/
def plainFlds (first j : Nat) (l : List Fld) : List Fld :=
  if first = 0x40007044 && j = 0 then l.filter (·.lo ≠ 0) else l

/-- A write of the register at an address, rights apart; an offset without a register takes no write (R617). -/
def State.regWrite (s : State) (w : Who) (a v : Nat) : State :=
  match findReg a with
  | none => s
  | some (d, i, j) =>
    match s.writeFront w d.first i v with
    | some s' => s'
    | none =>
    match s.writeAirBlocks w d.first i v with
    | some s' => s'
    | none =>
    match s.writePartBlocks w d.first i v with
    | some s' => s'
    | none =>
    match s.writeSysBlocks w d.first i v with
    | some s' => s'
    | none => s.putWord w.bank v (plainFlds d.first j (d.flds i j))

/-- REGISTER_WRITE (R5): a master's aligned write of a word to a register; `bank` is the bank SV names
(R16). A write the owner attribute does not allow has no effect here: what the master meets is its own
command's matter. -/
def execRegisterWrite (tag : Fin 64) (bank : Fin 32) (addr : Nat) (w : Word) (s : State) : Host.Outcome State Fault Refusal :=
  let t := tag.val
  let who : Who := { tag := t, as := t, bank := if t < 32 then t else bank.val }
  .next (if inRegs addr && addr % 4 = 0 && regMay t true addr then s.regWrite who addr w.toNat else s)

end Sys2Proof.Machine
end

