-- ==== Sys2Proof/Machine/Bus.lean ====
section
/-!
DEFINITION. The bus: the address spaces of the partitions' programs, SV, the sequencers and CE (R8 to
R10, R269, R270, R336, R495), what an access there meets, and loads and stores.
-/

namespace Sys2Proof.Machine

open Reg

/-- The kinds of access. -/
inductive BusAcc where
  | fetch
  | load
  | store
  deriving DecidableEq, Repr

/-- Where an access goes: memory at its physical address; an octet of the association window; a register;
the active bank of a sequencer, code or data; the Col frame store as CE sees it. -/
inductive Place where
  | mem (a : Nat)
  | asc (a : Nat)
  | reg (a : Nat)
  | bank (x : Nat) (code : Bool) (a : Nat)
  | frame (o : Nat)
  deriving DecidableEq, Repr

/-- An access to a register under the rights of a tag: rights before alignment (R270), words only (R9). -/
def regPlace (as : Nat) (k : BusAcc) (a n : Nat) : Sum FCause Place :=
  if k = .fetch || !regMay as (k = .store) (a - a % 4) then .inl .access
  else if n ≠ 4 || a % 4 ≠ 0 then .inl .align
  else .inr (.reg a)

/-- An access by a partition's program, in the order of R270. -/
def State.placeWin (s : State) (p : Nat) (imgB : Bool) (k : BusAcc) (a n : Nat) : Sum FCause Place :=
  let P := s.part p
  let odd := a % n ≠ 0
  let window := fun (phys : Option Nat) => if k = .fetch then Sum.inl FCause.access else if odd then .inl .align else match phys with
    | some x => .inr (Place.mem x)
    | none => .inl .quota
  if a < 0x40000 then
    let x := a + (s.prog (if imgB then 64 + p else p)).codeOfs
    if k = .store then .inl .access
    else if odd then .inl .align
    else if x < 4096 * P.desc.codeG then .inr (.mem (P.codeBase + x)) else .inl .quota
  else if 0x10000000 ≤ a ∧ a < 0x1003C000 then window (s.physData p a)
  else if 0x20000000 ≤ a ∧ a < 0x20060000 then window (s.physPkt p a)
  else if 0x30000000 ≤ a ∧ a < 0x30080000 then
    let bad := k = .store && s.inAsc p a n && !s.ntMay p ((a - ascFirst) / 64) ((a - ascFirst) % 64) n
    if k = .fetch || bad then .inl .access else if odd then .inl .align else if s.inAsc p a n then .inr (.asc a) else .inl .access
  else if inRegs a then regPlace p k a n
  else .inl .access

/-- The regions of R8 that hold memory, with whether the bus may store there. -/
def physRegion (a : Nat) : Option Bool :=
  if a < 0x100000 then some false
  else if 0x08000000 ≤ a ∧ a < 0x08010000 then some false
  else if 0x10000000 ≤ a ∧ a < 0x10040000 then some true
  else if 0x18000000 ≤ a ∧ a < 0x18040000 then some true
  else if 0x20000000 ≤ a ∧ a < 0x20060000 then some true
  else if 0x30000000 ≤ a ∧ a < 0x30080000 then some true
  else if 0x38000000 ≤ a ∧ a < 0x38010000 then some true
  else if 0x39000000 ≤ a ∧ a < 0x39010000 then some true
  else none

/-- An access by SV: the physical map (R8 to R10); it executes from the eNVM only (R336). The receive region
is reached under tag 37 alone (R13, R179). -/
def placePhys (k : BusAcc) (a n : Nat) : Sum FCause Place :=
  if inRegs a then regPlace 32 k a n
  else match physRegion a with
  | none => .inl .access
  | some st => if (k = .store && !st) || (k = .fetch && decide (0x100000 ≤ a)) then .inl .access else if a % n ≠ 0 then .inl .align else .inr (.mem a)

/-- An access by RSA 0 or RSB 1 (R336). -/
def placeSeq (x : Nat) (k : BusAcc) (a n : Nat) : Sum FCause Place :=
  if a < 0x800 then if k = .store then .inl .access else if a % n ≠ 0 then .inl .align else .inr (.bank x true a)
  else if 0x10000000 ≤ a ∧ a < 0x10000200 then
    if k = .fetch then .inl .access else if a % n ≠ 0 then .inl .align else .inr (.bank x false (a - 0x10000000))
  else if inRegs a then regPlace (33 + x) k a n
  else .inl .access

/-- An access by CE (R336, R495): the headers of the Col frame store are for reading (R475). -/
def placeCe (k : BusAcc) (a n : Nat) : Sum FCause Place :=
  if a < 0x1000 then if k = .store then .inl .access else if a % n ≠ 0 then .inl .align else .inr (.mem (0x38002000 + a))
  else if 0x10000000 ≤ a ∧ a < 0x10000800 then
    if k = .fetch then .inl .access else if a % n ≠ 0 then .inl .align else .inr (.mem (0x38003000 + (a - 0x10000000)))
  else if 0x20000000 ≤ a ∧ a < 0x20002000 then
    if k ≠ .load then .inl .access else if a % n ≠ 0 then .inl .align else .inr (.frame (a - 0x20000000))
  else if inRegs a then regPlace 35 k a n
  else .inl .access

/-- Where an access of a context goes, or its fault. -/
def State.place (s : State) (c : Ctx) (k : BusAcc) (a n : Nat) : Sum FCause Place :=
  match c with
  | .part p b => s.placeWin p b k a n
  | .sv => placePhys k a n
  | .rsa => placeSeq 0 k a n
  | .rsb => placeSeq 1 k a n
  | .ce => placeCe k a n

/-- Memory whose contents the spec does not give: the boot ROM, the regulatory and configuration area, SV's save area. -/
def memOpen (a : Nat) : Bool :=
  decide (0x08000000 ≤ a ∧ a < 0x08010000) || decide (0xCC000 ≤ a ∧ a < 0xD4000) || decide (0x38006000 ≤ a ∧ a < 0x38010000)

/-- Parts of Cairn no bus master reaches: the retention image, the Col key store, the reserved part, the Col
frame store (R495): they read 0 and ignore stores, as R564 says of the key store. -/
def memDark (a : Nat) : Bool :=
  decide (0x38000000 ≤ a ∧ a < 0x38002000) || decide (0x38003800 ≤ a ∧ a < 0x38006000)

/-- Which part of a record an octet of the Col frame store lies in: its header or its PSDU; none past the records. -/
def colPart : List RxFrame → Nat → Option Bool
  | [], _ => none
  | f :: t, o => if o < 32 then some true else if o < colSize f.psdu.length then some false else colPart t (o - colSize f.psdu.length)

/-- Whether a sequencer's own access finds the domain of a block down (R338). -/
def State.seqDown (s : State) (w : Who) (a : Nat) : Option Nat :=
  if (w.as = 33 || w.as = 34) && w.ctx.isSome && !s.domOn (blockDom (blockOf a)) then some (w.as - 33) else none

/-- The octets of a bank's store from an address on. -/
def bankOcts (t : Tab Byte) (a : Nat) : Nat → List Byte
  | 0 => []
  | n + 1 => Tab.get 0 t a :: bankOcts t (a + 1) n

/-- A bank's store with octets stored. -/
def bankPut (t : Tab Byte) (a : Nat) : List Byte → Tab Byte
  | [] => t
  | b :: l => bankPut (Tab.set 0 t a b) (a + 1) l

/-- Loading `n` octets from a place, least significant first (R4). -/
def State.busRead (s : State) (w : Who) (n : Nat) : Place → Nat × State
  | .mem a => if memOpen a then s.free (8 * n) else if memDark a then (0, s) else (s.num a n, s)
  | .asc a => (ofOctets ((List.range n).map fun i => s.ntByte w.as (a + i)), s)
  | .reg a =>
    match s.seqDown w a with
    | some x => (0, s.set (ENG_SEQSTATx_DOWNACC x) 1)
    | none => s.regRead w a
  | .bank x code a =>
    let b := (s.seqr x).bank (s.get (ENG_SEQSTATx_BANK x))
    (ofOctets (bankOcts (if code then b.code else b.data) a n), s)
  | .frame o =>
    match colPart s.col.frames o with
    | some true => (s.num (colStore + o) n, s)
    | some false => (0, s)
    | none => s.free (8 * n)

/-- Storing the low `n` octets of a value at a place; none where R242 forbids it. -/
def State.busWrite (s : State) (w : Who) (n v : Nat) : Place → Option State
  | .mem a => some (if memDark a then s else s.putNum a n v)
  | .asc a => s.ntStore w.as ((a - ascFirst) / 64) ((a - ascFirst) % 64) (octets n v)
  | .reg a =>
    match s.seqDown w a with
    | some x => some (s.set (ENG_SEQSTATx_DOWNACC x) 1)
    | none => some (s.regWrite w a v)
  | .bank x _ a =>
    let i := s.get (ENG_SEQSTATx_BANK x)
    some (s.updSeqr x fun q => q.putBank i { q.bank i with data := bankPut (q.bank i).data a (octets n v) })
  | .frame _ => some s

/-- Whether an octet of a range lies in a buffer that an outstanding ticket locks (R319). -/
def State.locked (s : State) (p a n : Nat) : Bool :=
  (s.part p).tickets.any fun t => t.status.isNone && decide (a < t.buf + t.len ∧ t.buf < a + n)

/-- A load by a context: its fault, or the value and the state after it. -/
def State.ctxLoad (s : State) (c : Ctx) (a n : Nat) : Sum FCause (Nat × State) :=
  match s.place c .load a n with
  | .inl f => .inl f
  | .inr pl => .inr (s.busRead (Who.ofCtx c) n pl)

/-- A store by a context: its fault, or the state after it. A locked buffer takes none (R319). -/
def State.ctxStore (s : State) (c : Ctx) (a n v : Nat) : Sum FCause State :=
  let lock := match c with | .part p _ => s.locked p a n | _ => false
  match s.place c .store a n with
  | .inl f => .inl f
  | .inr pl =>
    if lock then .inl .access
    else match s.busWrite (Who.ofCtx c) n v pl with
    | some s => .inr s
    | none => .inl .access

/-- The word at a context's PC, or the fault of its fetch. -/
def State.ctxFetch (s : State) (c : Ctx) (a : Nat) : Sum FCause (Nat × State) :=
  match s.place c .fetch a 4 with
  | .inl f => .inl f
  | .inr pl => .inr (s.busRead (Who.ofCtx c) 4 pl)

end Sys2Proof.Machine
end

