-- ==== Sys2Proof/Machine/Dbg.lean ====
section
/-!
DEFINITION. The debug port (spec/21, R555 to R571): its requests, given by their payload octets (LEN is
their number), and what happens at it. A request that gets no answer leaves no trace (R557).
-/

namespace Sys2Proof.Machine

open Reg

/-! ## Judging a request (R558 to R562) -/

/-- Whether the port answers: DBG_CTL.EN 1, no sleep mode, no RESETN (R557, R560). -/
def State.dbgUp (s : State) : Bool := s.flag DBG_CTL_EN && s.pwr.sleep.isNone && !s.pwr.held

/-- The response: its status and its payload. -/
def State.dbgAnswer (s : State) (c : Code) (o : List Byte) : State :=
  { s with dbg := { s.dbg with resp := BitVec.ofNat 8 c.num :: o } }

/-- The commands allowed in BOOT, and those not allowed in LOCKDOWN (R560). -/
def dbgBoot : List Nat := [0x01, 0x02, 0x03, 0x04, 0x20, 0x21, 0x40]
def dbgNoLock : List Nat := [0x10, 0x11, 0x12, 0x21, 0x23, 0x30, 0x31]

/-- Whether a command is allowed in the present mode (R560); `space1`: a READ or WRITE of space 1. -/
def State.dbgMode (s : State) (cmd : Nat) (space1 : Bool) : Bool :=
  !(s.pwr.boot && !(dbgBoot.contains cmd && (!(cmd = 0x20 || cmd = 0x21) || space1))) && !(s.pwr.lockdown && dbgNoLock.contains cmd)

/-- A request with a right CRC: LEN, the mode, the session, then the command's own conditions (R559). `f`: the
status, the payload and the state the command itself gives. -/
def State.dbgAsk (s : State) (lenOk : Bool) (cmd : Nat) (space1 session : Bool) (f : State → Code × List Byte × State) : State :=
  if !s.dbgUp then s
  else
    let s := { s with dbg := { s.dbg with lastAt := s.tick } }
    if !lenOk then s.dbgAnswer .refusedLength []
    else if !s.dbgMode cmd space1 then s.dbgAnswer .refusedState []
    else if session && s.dbg.scope.isNone then s.dbgAnswer .refusedAccess []
    else
      let r := f s
      r.2.2.dbgAnswer r.1 r.2.1

/-- A target octet: bus tag, IMGB (R560). -/
def dbgTag (o : Nat) : Nat := bits o 0 6
def dbgImgB (o : Nat) : Bool := bit o 6
/-- The number of the context a target names. -/
def dbgCtx (o : Nat) : Nat := if dbgTag o < 32 && dbgImgB o then 64 + dbgTag o else dbgTag o

/-- What a target octet meets: outside the scope, or a partition that does not exist; IMGB outside a window (R562). -/
def State.dbgTarget (s : State) (o : Nat) : Option Code :=
  let t := dbgTag o
  if !scopeReaches (s.dbg.scope.getD 0xFF) t || bit o 7 || decide (35 < t) || (decide (t < 32) && !s.pexists t) then some .refusedAccess
  else if dbgImgB o && (decide (32 ≤ t) || (s.part t).dual.isNone) then some .refusedState
  else none

/-- A command on a target. -/
def State.dbgOn (s : State) (o : Nat) (f : Nat → Code × List Byte × State) : Code × List Byte × State :=
  match s.dbgTarget o with
  | some c => (c, [], s)
  | none => f (dbgCtx o)

/-- An octet of a payload, and a field of several. -/
def dbgOct (o : List Byte) (a : Nat) : Nat := ofOctets ((o.drop a).take 1)
def dbgFld (o : List Byte) (a n : Nat) : Nat := ofOctets ((o.drop a).take n)

/-! ## Identity and session (R560 to R563) -/

/-- IDENT (R560). -/
def execDbgIdent (o : List Byte) (s : State) : Host.Outcome State Fault Refusal :=
  .next (s.dbgAsk (o.length = 0) 0x01 false false fun s =>
    (.done, (octets 4 (s.get SYS_ID_PART * 2 ^ 16 + s.get SYS_ID_REVL * 2 ^ 12 + s.get SYS_ID_REVN * 2 ^ 8 + s.get SYS_ID_MAXGEN) ++
      octets 1 (s.get SYS_GEN_GEN) ++ octets 1 (s.get TMP_LCSTAT_LC) ++ octets 1 s.mode ++ octets 1 (s.dbg.scope.getD 0xFF)), s))

/-- Whether 1 s has not passed since a failed token (R546, R561). -/
def State.dbgLocked (s : State) : Bool :=
  match s.dbg.failAt with
  | some t => decide (s.tick < t + 1000000)
  | none => false

/-- Whether a scope octet names a session that can exist: a partition P1 to P31 that exists, the installer, the vendor (R545). -/
def State.dbgScope (s : State) (c : Nat) : Bool := (decide (1 ≤ c ∧ c < 32) && s.pexists c) || c = 0x20 || c = 0x21

/-- CHALLENGE (R561). -/
def execDbgChallenge (o : List Byte) (s : State) : Host.Outcome State Fault Refusal :=
  .next (s.dbgAsk (o.length = 1) 0x02 false false fun s =>
    let c := dbgOct o 0
    if !s.dbgScope c then (.refusedAccess, [], s)
    else if s.dbgLocked then (.refusedState, [], s)
    else
      let r := s.random 16
      (.done, r.1, { r.2 with dbg := { r.2.dbg with chal := some { scope := c, octs := r.1, at_ := s.tick } } }))

/-- Whether a token answers a challenge (R545, R561). -/
def State.tokenOk (s : State) (h : Chal) (scope : Nat) (token : List Byte) : Bool :=
  let said := h.octs ++ [BitVec.ofNat 8 scope]
  let mac := fun (k : Option (List Byte)) (m t : List Byte) => match k with | some k => decide (Config.cmac k m = t) | none => false
  h.scope = scope &&
    if scope = 0x21 then
      Config.ecdsaVerify Config.debugKey (said ++ devPub) (token.take 64) &&
        (s.get TMP_LCSTAT_LC ≠ 1 || mac s.installerKey (h.octs ++ [0x22]) (token.drop 64))
    else mac (if scope = 0x20 then s.installerKey else s.ownerKey scope) said token

/-- A token that fails (R546). -/
def State.tokenFail (s : State) (scope : Nat) : State :=
  let s := ({ s with dbg := { s.dbg with failAt := some s.tick } }).count TMP_AUTHFAIL_TOKEN 1
  (s.scree 28 0x0315 2 (octets 1 scope)).authFail

/-- OPEN (R545, R546, R561, R563). A request without an outstanding challenge is no attempt at a token. DEDUCED -/
def execDbgOpen (o : List Byte) (s : State) : Host.Outcome State Fault Refusal :=
  let c := dbgOct o 0
  .next (s.dbgAsk (o.length = if c = 0x21 then 81 else 17) 0x03 false false fun s =>
    match s.dbg.chal with
    | none => (.refusedState, [], s)
    | some h =>
      let s := { s with dbg := { s.dbg with chal := none } }
      if s.dbgScope c && decide (s.tick < h.at_ + 10000000) && s.tokenOk h c (o.drop 1) then
        let s := s.dbgClose
        (.done, [], ({ s with dbg := { s.dbg with scope := some c } }).scree 25 0x0702 2 (octets 1 c))
      else (.authFail, [], s.tokenFail c))

/-- CLOSE (R563). -/
def execDbgClose (o : List Byte) (s : State) : Host.Outcome State Fault Refusal :=
  .next (s.dbgAsk (o.length = 0) 0x04 false true fun s => (.done, [], s.dbgClose))

/-! ## Contexts (R560, R566 to R569) -/

/-- HALT (R566 to R568). While a TRAP runs it is completed first (R571). -/
def execDbgHalt (o : List Byte) (s : State) : Host.Outcome State Fault Refusal :=
  .next (s.dbgAsk (o.length = 1) 0x10 false true fun s => s.dbgOn (dbgOct o 0) fun k =>
    if k = 35 then (.refusedState, [], s)
    else
      match (s.prog k).run with
      | .trap _ => (.done, [], s.updProg k fun g => { g with haltPend := true, cause := g.cause ||| 1 })
      | _ => (.done, [], s.haltAt k 1))

/-- RUN (R566). -/
def execDbgRun (o : List Byte) (s : State) : Host.Outcome State Fault Refusal :=
  .next (s.dbgAsk (o.length = 1) 0x11 false true fun s => s.dbgOn (dbgOct o 0) fun k =>
    if !(s.prog k).halted || k = 35 then (.refusedState, [], s) else (.done, [], s.haltOut k))

/-- STEP (R569). -/
def execDbgStep (o : List Byte) (s : State) : Host.Outcome State Fault Refusal :=
  .next (s.dbgAsk (o.length = 1) 0x12 false true fun s => s.dbgOn (dbgOct o 0) fun k =>
    if !(s.prog k).halted || k = 35 then (.refusedState, [], s)
    else (.done, [], (s.haltOut k).updProg k fun g => { g with stepping := true }))

/-- The state of a context as CSTAT gives it. -/
def Prog.cstat (g : Prog) : Nat := if g.halted then 1 else if g.haltPend then 2 else if g.run = .idle then 3 else 0

/-- CSTAT (R560). -/
def execDbgCstat (o : List Byte) (s : State) : Host.Outcome State Fault Refusal :=
  .next (s.dbgAsk (o.length = 1) 0x13 false true fun s => s.dbgOn (dbgOct o 0) fun k =>
    let g := s.prog k
    (.done, octets 1 g.cstat ++ octets 2 g.cause ++ octets 4 g.pc.toNat, s))

/-- The flags as CREAD and CWRITE give them: Z, N, C, V, T in bits 4:0, Z lowest. DEDUCED -/
def Prog.flagBits (g : Prog) : Nat := bitsOf [g.z, g.n, g.c, g.v, g.t]

/-- CREAD (R560). -/
def execDbgCread (o : List Byte) (s : State) : Host.Outcome State Fault Refusal :=
  .next (s.dbgAsk (o.length = 1) 0x22 false true fun s => s.dbgOn (dbgOct o 0) fun k =>
    let g := s.prog k
    (.done, ((List.range 16).flatMap fun i => octets 4 (Tab.get 0 g.g i).toNat) ++
      octets 4 g.pc.toNat ++ octets 4 g.flagBits ++ octets 4 g.cyc.toNat, s))

/-- A context with the word of an index written: g0 to g15, PC, flags, CYC. -/
def Prog.put (g : Prog) (i v : Nat) : Prog :=
  if i < 16 then { g with g := Tab.set 0 g.g i (BitVec.ofNat 32 v) }
  else match i with
  | 16 => { g with pc := BitVec.ofNat 32 v }
  | 17 => { g with z := bit v 0, n := bit v 1, c := bit v 2, v := bit v 3, t := bit v 4 }
  | _ => { g with cyc := BitVec.ofNat 32 v }

/-- CWRITE (R560). -/
def execDbgCwrite (o : List Byte) (s : State) : Host.Outcome State Fault Refusal :=
  .next (s.dbgAsk (o.length = 6) 0x23 false true fun s => s.dbgOn (dbgOct o 0) fun k =>
    let i := dbgOct o 1
    if !(s.prog k).halted || decide (18 < i) then (.refusedState, [], s)
    else (.done, [], s.updProg k fun g => g.put i (dbgFld o 2 4)))

/-! ## Memory and registers (R564, R565) -/

/-- Who acts in a debug access to a target. -/
def dbgWho (o : Nat) : Who :=
  let t := dbgTag o
  { tag := 36, as := t, bank := if t < 32 then t else 0, imgB := dbgImgB o }

/-- The context of a target octet. -/
def dbgCtxOf (o : Nat) : Ctx :=
  match dbgTag o with
  | 32 => .sv
  | 33 => .rsa
  | 34 => .rsb
  | 35 => .ce
  | t => .part (Fin.ofNat 32 t) (dbgImgB o)

/-- Whether a WRITE may change the running copy of a partition's code: every context of it is halted (R565). -/
def State.codeOpen (s : State) (o a : Nat) : Bool :=
  decide (dbgTag o < 32 ∧ a < 0x40000) &&
    (s.prog (dbgTag o)).halted && ((s.part (dbgTag o)).dual.isNone || (s.prog (64 + dbgTag o)).halted)

/-- Where a debug word goes: the target's own view, or the physical map (R564). -/
def State.dbgPlace (s : State) (o space : Nat) (k : BusAcc) (a : Nat) : Sum FCause Place :=
  if space = 1 then placePhys k a 4
  else if k = .store && s.codeOpen o a then s.place (dbgCtxOf o) .load a 4
  else s.place (dbgCtxOf o) k a 4

/-- The words of an access are allowed: every one is checked before any is read or written. -/
def State.dbgMay (s : State) (o space : Nat) (k : BusAcc) (a n : Nat) : Bool :=
  (List.range n).all fun i =>
    match s.dbgPlace o space k (a + 4 * i) with
    | .inl _ => false
    | .inr pl => k ≠ .store || (s.busWrite (dbgWho o) 4 0 pl).isSome

/-- The conditions READ and WRITE share: the target, the space, the count. -/
def State.dbgRange (s : State) (o : List Byte) (k : BusAcc) : Option Code :=
  let t := dbgOct o 0
  let space := dbgOct o 1
  let n := dbgOct o 6
  match s.dbgTarget t with
  | some c => some c
  | none =>
    if decide (1 < space) || (space = 1 && s.dbg.scope ≠ some 0x21) then some .refusedAccess
    else if n = 0 || decide (64 < n) then some .refusedLength
    else if s.dbgMay t space k (dbgFld o 2 4) n then none else some .refusedAccess

/-- READ (R560, R564). -/
def execDbgRead (o : List Byte) (s : State) : Host.Outcome State Fault Refusal :=
  .next (s.dbgAsk (o.length = 7) 0x20 (dbgOct o 1 = 1) true fun s =>
    match s.dbgRange o .load with
    | some c => (c, [], s)
    | none =>
      let t := dbgOct o 0
      let r := (List.range (dbgOct o 6)).foldl (fun (r : List Byte × State) i =>
        match r.2.dbgPlace t (dbgOct o 1) .load (dbgFld o 2 4 + 4 * i) with
        | .inl _ => r
        | .inr pl => let x := r.2.busRead (dbgWho t) 4 pl; (r.1 ++ octets 4 x.1, x.2)) ([], s)
      (.done, r.1, r.2))

/-- WRITE (R560, R564, R565). -/
def execDbgWrite (o : List Byte) (s : State) : Host.Outcome State Fault Refusal :=
  .next (s.dbgAsk (decide (7 ≤ o.length) && o.length = 7 + 4 * dbgOct o 6) 0x21 (dbgOct o 1 = 1) true fun s =>
    match s.dbgRange o .store with
    | some c => (c, [], s)
    | none =>
      let t := dbgOct o 0
      (.done, [], (List.range (dbgOct o 6)).foldl (fun s i =>
        match s.dbgPlace t (dbgOct o 1) .store (dbgFld o 2 4 + 4 * i) with
        | .inl _ => s
        | .inr pl => (s.busWrite (dbgWho t) 4 (dbgFld o (7 + 4 * i) 4) pl).getD s) s))

/-! ## Breakpoints and watchpoints (R570) -/

/-- BREAK (R570). -/
def execDbgBreak (o : List Byte) (s : State) : Host.Outcome State Fault Refusal :=
  .next (s.dbgAsk (o.length = 7) 0x30 false true fun s => s.dbgOn (dbgOct o 1) fun k =>
    if decide (3 < dbgOct o 0) || decide (1 < dbgOct o 6) then (.refusedState, [], s)
    else
      let b : BreakPt := { on := dbgOct o 6 = 1, ctx := k, addr := dbgFld o 2 4 }
      (.done, [], { s with dbg := { s.dbg with brk := Tab.set {} s.dbg.brk (dbgOct o 0) b } }))

/-- WATCH (R570). -/
def execDbgWatch (o : List Byte) (s : State) : Host.Outcome State Fault Refusal :=
  .next (s.dbgAsk (o.length = 8) 0x31 false true fun s => s.dbgOn (dbgOct o 1) fun k =>
    if decide (1 < dbgOct o 0) || decide (12 < dbgOct o 6) || decide (3 < dbgOct o 7) then (.refusedState, [], s)
    else
      let w : WatchPt := { kind := dbgOct o 7, ctx := k, addr := dbgFld o 2 4, mask := dbgOct o 6 }
      (.done, [], { s with dbg := { s.dbg with wat := Tab.set {} s.dbg.wat (dbgOct o 0) w } }))

/-- RESET (R560): the DEBUG reset follows the response. -/
def execDbgReset (o : List Byte) (s : State) : Host.Outcome State Fault Refusal :=
  .next (s.dbgAsk (o.length = 0) 0x40 false true fun s =>
    if (s.dbg.scope.getD 0) < 32 then (.refusedAccess, [], s)
    else (.done, [], { s with dbg := { s.dbg with rstDue := true } }))

/-- The commands of R560. -/
def dbgCmds : List Nat := [0x01, 0x02, 0x03, 0x04, 0x10, 0x11, 0x12, 0x13, 0x20, 0x21, 0x22, 0x23, 0x30, 0x31, 0x40]

/-- DEBUG_BAD_REQUEST (R559): a request whose CRC fails, or whose CMD is not listed. -/
def execDebugBadRequest (crcOk : Bool) (cmd : Byte) (s : State) : Host.Outcome State Fault Refusal :=
  .next (if !s.dbgUp then s
  else if !crcOk then s.dbgAnswer .checkFail []
  else if dbgCmds.contains cmd.toNat then s
  else ({ s with dbg := { s.dbg with lastAt := s.tick } }).dbgAnswer .refusedState [])

/-! ## What happens at the port -/

/-- DEBUG_LINE_RESET (R556): a partial request is discarded; requests are held here once they are whole. -/
def execDebugLineReset (s : State) : Host.Outcome State Fault Refusal := .next s

/-- DEBUG_RESPONSE_ABANDON (R556): the rest of the response is discarded. -/
def execDebugResponseAbandon (s : State) : Host.Outcome State Fault Refusal := .next { s with dbg := { s.dbg with resp := [] } }

/-- SESSION_IDLE_TIMEOUT (R563). -/
def execSessionIdleTimeout (s : State) : Host.Outcome State Fault Refusal :=
  .next (if s.dbg.scope.isSome && decide (s.dbg.lastAt + s.get DBG_CTL_IDLETO * 1000000 ≤ s.tick) then s.dbgClose else s)

/-- CHALLENGE_LAPSE (R561). -/
def execChallengeLapse (s : State) : Host.Outcome State Fault Refusal :=
  .next (match s.dbg.chal with
  | some h => if h.at_ + 10000000 ≤ s.tick then { s with dbg := { s.dbg with chal := none } } else s
  | none => s)

/-- TOKEN_LOCKOUT_END (R546, R561). -/
def execTokenLockoutEnd (s : State) : Host.Outcome State Fault Refusal :=
  .next (if s.dbg.failAt.isSome && !s.dbgLocked then { s with dbg := { s.dbg with failAt := none } } else s)

/-- The cause bits of the breakpoints at a context's PC: bits 2 to 5. -/
def State.brkHits (s : State) (k : Nat) : Nat :=
  bitsOf ([false, false] ++ (List.range 4).map fun i =>
    let b := Tab.get {} s.dbg.brk i
    b.on && b.ctx = k && b.addr = (s.prog k).pc.toNat)

/-- BREAKPOINT_HIT (R570, R571): before the instruction at its address issues. -/
def execBreakpointHit (c : Ctx) (s : State) : Host.Outcome State Fault Refusal :=
  .next (
    let k := ctxNum c
    let n := s.brkHits k
    if s.dbg.scope.isSome && n ≠ 0 && (s.prog k).going then s.haltAt k n else s)

/-- DEFERRED_HALT (R568): the first boundary after the air operation ends. -/
def execDeferredHalt (x : Fin 2) (s : State) : Host.Outcome State Fault Refusal :=
  .next (if (s.prog (33 + x.val)).haltPend && !s.airOp x then s.haltNow (33 + x.val) 0 else s)

end Sys2Proof.Machine
end

