-- ==== Sys2Proof/Machine/Flags.lean ====
section
/-!
DEFINITION. What the arithmetic and logical instructions compute, with their flags (R292, R298 to R303).
-/

namespace Sys2Proof.Machine

/-- The flags an instruction sets; none leaves a flag as it is (R292). -/
structure Flg where
  z : Option Bool := none
  n : Option Bool := none
  c : Option Bool := none
  v : Option Bool := none
  deriving DecidableEq, Repr

/-- A context with flags set. -/
def Prog.withFlags (g : Prog) (f : Flg) : Prog :=
  { g with z := f.z.getD g.z, n := f.n.getD g.n, c := f.c.getD g.c, v := f.v.getD g.v }

/-- Z and N of a result (R300). -/
def zn (r : Word) : Flg := { z := some (decide (r = 0)), n := some r.msb }

/-- A result with Z and N. -/
def withZn (r : Word) : Word × Flg := (r, zn r)

/-- ADD (R300). -/
def aluAdd (a b : Word) : Word × Flg :=
  let r := a + b
  (r, { zn r with c := some (decide (2 ^ 32 ≤ a.toNat + b.toNat)), v := some (decide (a.msb = b.msb) && decide (r.msb ≠ a.msb)) })

/-- SUB and CMP (R300): C is 1 where no borrow occurs. -/
def aluSub (a b : Word) : Word × Flg :=
  let r := a - b
  (r, { zn r with c := some (decide (b.toNat ≤ a.toNat)), v := some (decide (a.msb ≠ b.msb) && decide (r.msb ≠ a.msb)) })

/-- The logical operations. -/
def aluAnd (a b : Word) : Word × Flg := withZn (a &&& b)
def aluOr (a b : Word) : Word × Flg := withZn (a ||| b)
def aluXor (a b : Word) : Word × Flg := withZn (a ^^^ b)

/-- A shifted result with its C, none where C is unchanged. -/
def shifted (r : Word) (c : Option Bool) : Word × Flg := (r, { zn r with c := c })

/-- SHL by b[7:0] (R301). -/
def aluShl (a b : Word) : Word × Flg :=
  let s := b.toNat % 256
  if s = 0 then shifted a none
  else if s ≤ 31 then shifted (a <<< s) (some (a.getLsbD (32 - s)))
  else if s = 32 then shifted 0 (some (a.getLsbD 0))
  else shifted 0 (some false)

/-- SHR by b[7:0] (R301). -/
def aluShr (a b : Word) : Word × Flg :=
  let s := b.toNat % 256
  if s = 0 then shifted a none
  else if s ≤ 31 then shifted (a >>> s) (some (a.getLsbD (s - 1)))
  else if s = 32 then shifted 0 (some a.msb)
  else shifted 0 (some false)

/-- SAR by b[7:0] (R301). -/
def aluSar (a b : Word) : Word × Flg :=
  let s := b.toNat % 256
  if s = 0 then shifted a none
  else if s ≤ 31 then shifted (a.sshiftRight s) (some (a.getLsbD (s - 1)))
  else shifted (if a.msb then BitVec.allOnes 32 else 0) (some a.msb)

/-- ROT by b[4:0] (R301). -/
def aluRot (a b : Word) : Word × Flg :=
  let r := b.toNat % 32
  if r = 0 then shifted a none
  else let d := a.rotateRight r; shifted d (some d.msb)

/-- MUL and MULH (R298): the two words of the product, signed or with U unsigned. -/
def aluMul (a b : Word) : Word × Flg := withZn (a * b)
def aluMulh (u : Bool) (a b : Word) : Word × Flg :=
  withZn (if u then BitVec.ofNat 32 (a.toNat * b.toNat / 2 ^ 32) else BitVec.ofInt 32 (a.toInt * b.toInt / 2 ^ 32))

/-- V of a division (R302): no ordinary quotient. -/
def divOdd (u : Bool) (a b : Word) : Bool := decide (b = 0) || (!u && decide (a = 0x80000000) && decide (b = 0xFFFFFFFF))

/-- DIV (R302): truncated towards 0. -/
def aluDiv (u : Bool) (a b : Word) : Word × Flg :=
  let q := if b = 0 then 0xFFFFFFFF else if u then a / b else BitVec.ofInt 32 (a.toInt.tdiv b.toInt)
  (q, { zn q with v := some (divOdd u a b) })

/-- REM (R302): the sign of a. -/
def aluRem (u : Bool) (a b : Word) : Word × Flg :=
  let r := if b = 0 then a else if u then a % b else BitVec.ofInt 32 (a.toInt.tmod b.toInt)
  (r, { zn r with v := some (divOdd u a b) })

/-- CLZ, POPC and BREV (R298). -/
def aluClz (a : Word) : Word × Flg := withZn (BitVec.ofNat 32 ((List.range 32).takeWhile fun i => !a.getLsbD (31 - i)).length)
def aluPopc (a : Word) : Word × Flg := withZn (BitVec.ofNat 32 ((List.range 32).filter fun i => a.getLsbD i).length)
def aluBrev (a : Word) : Word × Flg := withZn (BitVec.ofNat 32 (reverseBits 32 a.toNat))

/-- EXT (R303): `w` bits from `pos`, zero- or sign-extended. -/
def aluExt (a : Word) (pos w : Nat) (sx : Bool) : Word × Flg :=
  let x := bits a.toNat pos w
  withZn (if sx then BitVec.ofInt 32 (sext w x) else BitVec.ofNat 32 x)

/-- INS (R303): `w` bits at `pos` of d from a. -/
def aluIns (d a : Word) (pos w : Nat) : Word × Flg := withZn (BitVec.ofNat 32 (putBits d.toNat pos w (a.toNat % 2 ^ w)))

end Sys2Proof.Machine
end

