-- ==== Sys2Proof/Machine/Operands.lean ====
section
/-!
DEFINITION. The operand forms of Ihlesque (R292 to R309): registers, immediates, branch targets,
conditions, and which field values an encoding admits.
-/

namespace Sys2Proof.Machine

/-- A general register (R290); g0 is an ordinary one (R291). -/
def Prog.reg (g : Prog) (i : Fin 16) : Word := Tab.get 0 g.g i.val
/-- A context with a general register written. -/
def Prog.setReg (g : Prog) (i : Fin 16) (v : Word) : Prog := { g with g := Tab.set 0 g.g i.val v }

/-- sext(imm18, 18) and zext(imm18, 18) (R295). -/
def sx18 (i : BitVec 18) : Word := i.signExtend 32
def zx18 (i : BitVec 18) : Word := i.setWidth 32

/-- The address of a load or store (R304). -/
def Prog.ea (g : Prog) (a : Fin 16) (i : BitVec 18) : Nat := (g.reg a + sx18 i).toNat

/-- The target of BR and CALL relative (R306). -/
def Prog.rel (g : Prog) (off : BitVec 22) : Word := g.pc + (off.signExtend 32 <<< 2)

/-- The conditions (R307). -/
def Prog.cond (g : Prog) (c : Fin 16) : Bool :=
  match c.val with
  | 0 => g.z
  | 1 => !g.z
  | 2 => g.c
  | 3 => !g.c
  | 4 => g.n
  | 5 => !g.n
  | 6 => g.v
  | 7 => !g.v
  | 8 => g.c && !g.z
  | 9 => !g.c || g.z
  | 10 => g.n == g.v
  | 11 => g.n != g.v
  | 12 => !g.z && g.n == g.v
  | 13 => g.z || g.n != g.v
  | 14 => true
  | _ => g.t

/-- MOVHI (R299): bits 31:16 replaced. -/
def movhiWord (d : Word) (i : BitVec 18) : Word := BitVec.ofNat 32 (i.toNat % 65536 * 65536 + d.toNat % 65536)

/-- The amount of an immediate shift: imm18[17:5] must be 0 (R299). -/
def shiftImmOk (i : BitVec 18) : Bool := decide (i.toNat < 32)
/-- MOVHI: imm18[17:16] must be 0 (R299). -/
def movhiOk (i : BitVec 18) : Bool := decide (i.toNat < 65536)
/-- POS, w and SX of a bit field (R303). -/
def fldPos (i : BitVec 18) : Nat := bits i.toNat 0 5
def fldW (i : BitVec 18) : Nat := bits i.toNat 5 5 + 1
def fldSx (i : BitVec 18) : Bool := i.toNat.testBit 10
/-- What EXT and INS admit (R303). -/
def extOk (i : BitVec 18) : Bool := decide (i.toNat < 2048 ∧ fldPos i + fldW i ≤ 32)
def insOk (i : BitVec 18) : Bool := extOk i && !fldSx i
/-- WAITT #n: 1 to 4095 (R309). -/
def waitOk (n : BitVec 12) : Bool := decide (n ≠ 0)
/-- The special registers MFS reads and MTS writes (R293). -/
def mfsOk (sp : BitVec 12) : Bool := decide (sp.toNat < 8)
def mtsOk (sp : BitVec 12) : Bool := sp = 3 || sp = 4 || sp = 7
/-- TUNE: code 3 is reserved (R325). -/
def tuneOk (sel : BitVec 2) : Bool := decide (sel ≠ 3)
/-- RXARM: modes 5 to 7 are reserved; BOTH with mode 0 or 1 (R326). -/
def rxarmOk (m : BitVec 4) : Bool := decide (m.toNat < 5 ∨ m.toNat = 8 ∨ m.toNat = 9)

end Sys2Proof.Machine
end

