-- ==== Sys2Proof/Machine/Cpu.lean ====
section
/-!
DEFINITION. How a context issues an instruction (R285, R290, R294, R330 to R337, R362, R569, R570): whose
turn it is, what is checked and in which order, faults, cycles, halts.
-/

namespace Sys2Proof.Machine

open Reg

/-! ## Profiles (R330, R337) -/

/-- The columns of R330 an instruction is marked "yes" in: all; all but CE; the two Full ones; the MAC engines
alone; the sequencers and CE. -/
inductive Allow where
  | all
  | noSmall
  | full
  | me
  | seqs
  deriving DecidableEq, Repr

/-- Whether a context's profile allows an instruction. -/
def Allow.on (al : Allow) (c : Ctx) : Bool :=
  match al, c with
  | .all, _ => true
  | .noSmall, .ce => false
  | .noSmall, _ => true
  | .full, .part _ _ => true
  | .full, .sv => true
  | .full, _ => false
  | .me, .part _ _ => true
  | .me, _ => false
  | .seqs, .part _ _ => false
  | .seqs, .sv => false
  | .seqs, _ => true

/-- The timed profile. -/
def ctxTimed : Ctx → Bool
  | .rsa => true
  | .rsb => true
  | _ => false

/-! ## Turns (R285, R362) -/

/-- The engine of a partition (R15). -/
def State.engOf (s : State) (p : Nat) : Nat := s.get (PRT_PSTATp_ENGINE p)

/-- Whether it is a context's turn on its engine: it holds the engine, or the engine holds no context that can run
and this one is next. -/
def State.myTurn (s : State) (e k : Nat) : Bool :=
  match (s.engine e).cur with
  | none => true
  | some j => j = k || (!(s.prog j).going && s.nextTurn e j = some k)

/-- Whether a context issues its next instruction now. -/
def State.mayIssue (s : State) (c : Ctx) : Bool :=
  (s.prog (ctxNum c)).going && !s.pwr.held && !s.pwr.boot &&
    match c with
    | .part p b => s.pwr.sleep.isNone && s.pstate p = PState.running.num && (!b || (s.part p).dual.isSome) && s.myTurn (s.engOf p) (ctxNum c)
    | .sv => s.pwr.sleep.isNone
    | .rsa => s.pwr.sleep.isNone && s.seqRuns 0
    | .rsb => s.pwr.sleep.isNone && s.seqRuns 1
    | .ce => s.inCol

/-- The engine holds the context from here on. -/
def State.takeTurn (s : State) (c : Ctx) : State :=
  match c with
  | .part p _ =>
    if (s.engine (s.engOf p)).cur = some (ctxNum c) then s
    else s.updEngine (s.engOf p) fun g => { g with cur := some (ctxNum c), slices := 0 }
  | _ => s

/-- The context gives up the rest of its turn (R285, R312). -/
def State.giveTurn (s : State) (c : Ctx) : State :=
  match c with
  | .part p _ =>
    let e := s.engOf p
    if (s.engine e).cur = some (ctxNum c) then s.updEngine e fun g => { g with cur := s.nextTurn e (ctxNum c), slices := 0 } else s
  | _ => s

/-! ## Faults (R11, R271, R334, R344) -/

/-- A fault of SV: logged, then a WATCHDOG reset (R11). -/
def State.svFault (s : State) (e : FCause) (a : Nat) : State :=
  (s.scree 0x20 0x0201 1 (octets 1 e.num ++ octets 4 a)).deviceReset .watchdog

/-- A fault of a context, with the address recorded. -/
def State.ctxFault (s : State) (c : Ctx) (e : FCause) (a : Nat) : State :=
  match c with
  | .part p b => s.partFault p b e a
  | .sv => s.svFault e a
  | .rsa => s.seqFault 0 e a
  | .rsb => s.seqFault 1 e a
  | .ce => s.seqFault 2 e a

/-! ## An instruction -/

/-- What an instruction does when it does not fault: the state, PC where it is not the next word, the cycles it
takes, what it loaded from or stored to (R570), whether it is a BKPT that halts, whether it gives up the turn. -/
structure Res where
  st    : State
  dest  : Option Word := none
  cyc   : Nat := 1
  touch : Option (Nat × Nat × Bool) := none
  bkpt  : Bool := false
  yields : Bool := false

/-- An instruction's own faults, or what it does. -/
abbrev Eff := Sum (FCause × Nat) Res

/-- The cause bits of the watchpoints an access matches: bits 6 and 7. -/
def State.watHits (s : State) (k : Nat) (touch : Option (Nat × Nat × Bool)) : Nat :=
  match touch with
  | none => 0
  | some (a, n, st) =>
    ((List.range 2).map fun i =>
      let w := Tab.get {} s.dbg.wat i
      let kind := if st then decide (2 ≤ w.kind) else w.kind % 2 = 1
      let hit := kind && w.ctx = k && (List.range n).any fun j => decide ((a + j) / 2 ^ w.mask = w.addr / 2 ^ w.mask)
      hit.toNat * 2 ^ (6 + i)).sum

/-- Whether a context waits: it has not completed its instruction. -/
def RunSt.blocked : RunSt → Bool
  | .waitE _ => true
  | .waitT _ => true
  | .collect _ _ => true
  | .trap _ => true
  | _ => false

/-- A blocked context stops its watchdog's count (R344, R364). -/
def Prog.restart (g : Prog) (c : Ctx) (tick : Nat) : Prog :=
  match c with
  | .part _ _ => { g with wdog := 0 }
  | _ => { g with wdog := tick }

/-- What follows an instruction that has completed: PC, then the halts due at this boundary (R569 to R571). -/
def State.completed (s : State) (c : Ctx) (dest : Option Word) (touch : Option (Nat × Nat × Bool)) (bkpt : Bool) : State :=
  let k := ctxNum c
  let s := s.updProg k fun g => { g with pc := dest.getD (g.pc + 4) }
  let g := s.prog k
  let cause := s.watHits k touch ||| (if g.stepping then 2 else 0) ||| (if bkpt then 2 ^ 9 else 0)
  if cause ≠ 0 then s.haltAt k cause else if g.haltPend && decide (k < 33 ∨ 64 ≤ k) then s.haltNow k 0 else s

/-- The end of an instruction's issue. A context its own instruction has stopped (a reset it asked for) is left. The cycles
of a sequencer's wait are counted as it ends. -/
def State.retireIns (c : Ctx) (r : Res) : State :=
  let k := ctxNum c
  let s := r.st
  let g := s.prog k
  if g.run = .idle then s
  else
    let n := if ctxTimed c && g.run.blocked then 0 else r.cyc
    let s := s.updProg k fun g => { g with cyc := g.cyc + BitVec.ofNat 32 n, wdog := if k < 32 ∨ 64 ≤ k then g.wdog + r.cyc else g.wdog }
    if g.run.blocked then (s.updProg k fun g => { g.restart c s.tick with blkAt := s.tbs.now }).giveTurn c
    else
      let s := s.completed c r.dest r.touch r.bkpt
      if r.yields then s.giveTurn c else s

/-- A context issues an instruction: the fetch, the profile and the encoding, then its own effect (R334). The
command names the instruction at PC; the word there is not read again. -/
def State.issue (s : State) (c : Ctx) (al : Allow) (legal : Bool) (f : State → Prog → Eff) : State :=
  if !s.mayIssue c then s
  else
    let s := s.takeTurn c
    let g := s.prog (ctxNum c)
    match s.place c .fetch g.pc.toNat 4 with
    | .inl e => s.ctxFault c e g.pc.toNat
    | .inr _ =>
      if !al.on c || !legal then s.ctxFault c .illegal g.pc.toNat
      else match f s g with
        | .inl (e, a) => s.ctxFault c e a
        | .inr r => State.retireIns c r

/-- An effect on the context alone. -/
def State.onProg (s : State) (c : Ctx) (f : Prog → Prog) : State := s.updProg (ctxNum c) f

/-- Writing the result of an operation and its flags. -/
def Prog.write (g : Prog) (d : Fin 16) (r : Word × Flg) : Prog := (g.setReg d r.1).withFlags r.2

/-- The small profile. -/
def ctxSmall : Ctx → Bool
  | .ce => true
  | _ => false
def ctxFull (c : Ctx) : Bool := !ctxTimed c && !ctxSmall c

/-- A count of cycles the table gives as a range (R331): a free value in it. -/
def State.cycIn (s : State) (lo hi : Nat) : Nat × State :=
  let r := s.free 4
  (lo + r.1 % (hi - lo + 1), r.2)

end Sys2Proof.Machine
end

