-- ==== Sys2Proof/Machine/IsaSys.lean ====
section
/-!
DEFINITION. The system group (R293, R309 to R315, R342, R367, R480): waits, signals, traps, special
registers, and the return from a wait.
-/

namespace Sys2Proof.Machine

open Reg

/-! ## Special registers (R293) -/

/-- EVP and EVM of a context: its partition's latches, or its engine's own. -/
def State.evp (s : State) (c : Ctx) : Word :=
  match c with
  | .part p b => BitVec.ofNat 32 (s.get (PEC_PEND_PEND.at (latchBank p (b && (s.part p).dual.isSome))))
  | _ => BitVec.ofNat 32 (s.prog (ctxNum c)).evp
def State.evm (s : State) (c : Ctx) : Word :=
  match c with
  | .part p b => BitVec.ofNat 32 (s.get (PEC_EEN_EEN.at (latchBank p (b && (s.part p).dual.isSome))))
  | _ => BitVec.ofNat 32 (s.prog (ctxNum c)).evm

/-- EVP and EVM. -/
def State.evs (s : State) (c : Ctx) : Word := s.evp c &&& s.evm c

/-- ENGID of the engine that issues. -/
def State.engId (s : State) (c : Ctx) : Nat :=
  match c with
  | .part p _ => s.engOf p
  | .sv => 4
  | .rsa => 5
  | .rsb => 6
  | .ce => 7

/-- What MFS returns, and the state after it: TICKL latches TICKH for the tag (R38). -/
def State.mfs (s : State) (c : Ctx) (sp : Nat) : Word × State :=
  let w := Who.ofCtx c
  let g := s.prog (ctxNum c)
  match sp with
  | 0 => let r := s.readTickl w.tag w.imgB; (BitVec.ofNat 32 r.1, r.2)
  | 1 => (BitVec.ofNat 32 (s.readTickh w.tag w.imgB), s)
  | 2 => (BitVec.ofNat 32 (ctxTag c), s)
  | 3 => (s.evp c, s)
  | 4 => (s.evm c, s)
  | 5 => (BitVec.ofNat 32 (s.engId c), s)
  | 6 => (match c with | .part _ _ => BitVec.ofNat 32 g.fcause | _ => 0, s)
  | _ => (g.cyc, s)

/-- MTS to EVP, EVM or CYC; bits 8 to 31 of the sequencers' and CE's latches are reserved (R340, R343). -/
def State.mts (s : State) (c : Ctx) (sp : Nat) (v : Word) : State :=
  let k := ctxNum c
  match sp, c with
  | 3, .part p b => s.evClear (latchBank p (b && (s.part p).dual.isSome)) false v.toNat
  | 3, _ => s.updProg k fun g => { g with evp := g.evp - (g.evp &&& v.toNat) }
  | 4, .part p b => s.set (PEC_EEN_EEN.at (latchBank p (b && (s.part p).dual.isSome))) v.toNat
  | 4, .sv => s.updProg k fun g => { g with evm := v.toNat }
  | 4, _ => s.updProg k fun g => { g with evm := v.toNat % 256 }
  | _, _ => s.updProg k fun g => { g with cyc := v }

/-- MFS d, #s (R293). -/
def execMfs (c : Ctx) (d : Fin 16) (sp : BitVec 12) (s : State) : Host.Outcome State Fault Refusal :=
  .next (s.issue c .all (mfsOk sp) fun s _ =>
    let r := s.mfs c sp.toNat
    .inr { st := r.2.onProg c fun g => g.setReg d r.1 })

/-- MTS a, #s (R293). CYC holds the value written when the next instruction issues. DEDUCED -/
def execMts (c : Ctx) (a : Fin 16) (sp : BitVec 12) (s : State) : Host.Outcome State Fault Refusal :=
  .next (s.issue c .all (mtsOk sp) fun s g =>
    .inr { st := s.mts c sp.toNat (g.reg a), cyc := if sp = 7 then 0 else 1 })

/-! ## Waits (R309 to R312) -/

/-- NOP (R309). -/
def execNop (c : Ctx) (s : State) : Host.Outcome State Fault Refusal := .next (s.issue c .all true fun s _ => .inr { st := s })

/-- WAITE d (R310). -/
def execWaite (c : Ctx) (d : Fin 16) (s : State) : Host.Outcome State Fault Refusal :=
  .next (s.issue c .all true fun s _ =>
    if s.evs c ≠ 0 then .inr { st := s.onProg c fun g => g.setReg d (s.evs c) }
    else .inr { st := s.onProg c fun g => { g with run := .waitE d.val } })

/-- How far the instant V named in the layout of TICKL lies from now, in fractions (R311). -/
def waitAhead (now : Nat) (w : Word) : Int := (w - BitVec.ofNat 32 now).toInt

/-- WAITT a (R311). -/
def execWaitt (c : Ctx) (a : Fin 16) (s : State) : Host.Outcome State Fault Refusal :=
  .next (s.issue c .all true fun s g =>
    let d := waitAhead s.tbs.now (g.reg a)
    let s := s.onProg c fun g => { g with t := decide (d < 0) }
    if d ≤ 0 then .inr { st := s } else .inr { st := s.onProg c fun g => { g with run := .waitT (s.tbs.now + d.toNat) } })

/-- WAITT #n (R309): the next instruction issues n cycles after this one. -/
def execWaittCycles (c : Ctx) (n : BitVec 12) (s : State) : Host.Outcome State Fault Refusal :=
  .next (s.issue c .all (waitOk n) fun s _ => .inr { st := s, cyc := n.toNat })

/-- YIELD (R312). -/
def execYield (c : Ctx) (s : State) : Host.Outcome State Fault Refusal :=
  .next (s.issue c .me true fun s _ =>
    .inr { st := if s.evs c ≠ 0 then s else s.onProg c fun g => { g with run := .yielded }, yields := true })

/-- COLLECT's answer for a ticket of a context, once it has one: d, Z and C (R321). Each image collects its own. -/
def State.collectTake (s : State) (p : Nat) (imgB : Bool) (tk : Nat) : Option ((Word × Bool × Bool) × State) :=
  let P := s.part p
  let mine := P.tickets.filter fun t => t.imgB = imgB
  let n := if tk = 0 then P.done.find? fun n => mine.any fun t => t.num = n else some tk
  match n.bind fun n => mine.find? fun t => t.num = n with
  | none => if tk = 0 then none else some ((BitVec.ofNat 32 (Code.refusedState.num * 2 ^ 24 + tk % 65536), false, true), s)
  | some t => t.status.map fun st =>
    ((BitVec.ofNat 32 (st * 2 ^ 24 + t.service * 2 ^ 16 + t.num), true, false),
      s.updPart p fun P => { P with tickets := P.tickets.filter fun u => u.num ≠ t.num, done := P.done.filter (· ≠ t.num) })

/-- COLLECT's answer written. -/
def Prog.collected (g : Prog) (d : Nat) (r : Word × Bool × Bool) : Prog :=
  { g with g := Tab.set 0 g.g d r.1, z := r.2.1, c := r.2.2 }

/-- A wait of a context that has ended: the state with its result, and whether it completes an instruction (YIELD
has completed already). -/
def State.waitOver (s : State) (c : Ctx) : Option (Bool × State) :=
  match (s.prog (ctxNum c)).run with
  | .waitE d => if s.evs c ≠ 0 then some (true, s.onProg c fun g => { g with g := Tab.set 0 g.g d (s.evs c) }) else none
  | .waitT v => if v ≤ s.tbs.now then some (true, s) else none
  | .yielded => if s.evs c ≠ 0 then some (false, s) else none
  | .collect d tk =>
    match c with
    | .part p b => (s.collectTake p b tk).map fun r => (true, r.2.onProg c fun g => g.collected d r.1)
    | _ => none
  | _ => none

/-- Whether a context can run at all: its device state and, for a sequencer, its enable. -/
def State.ctxUp (s : State) (c : Ctx) : Bool :=
  !(s.prog (ctxNum c)).halted && !s.pwr.held && !s.pwr.boot &&
    match c with
    | .part p b => s.pwr.sleep.isNone && s.pstate p = PState.running.num && (!b || (s.part p).dual.isSome)
    | .sv => s.pwr.sleep.isNone
    | .rsa => s.pwr.sleep.isNone && s.seqRuns 0
    | .rsb => s.pwr.sleep.isNone && s.seqRuns 1
    | .ce => s.inCol

/-- The cycles a sequencer's context has waited: its CYC counts every cycle (R294). -/
def State.waitCyc (s : State) (c : Ctx) : Nat :=
  if ctxTimed c then (s.tbs.now - (s.prog (ctxNum c)).blkAt) / (if s.flag CLK_STAT_FALLBACK then 2 else 1) else 0

/-- CONTEXT_RESUME (R310 to R312, R321): what a context waits for has come. -/
def execContextResume (c : Ctx) (s : State) : Host.Outcome State Fault Refusal :=
  .next (if !s.ctxUp c then s
  else match s.waitOver c with
    | none => s
    | some (done, s) =>
      let n := s.waitCyc c
      let s := s.onProg c fun g => { g with run := .ready, cyc := g.cyc + BitVec.ofNat 32 n }
      if done then s.completed c none none false else s)

/-! ## Signals (R313, R342, R480) -/

/-- The numbers SIG takes on an engine. -/
def sigOk (c : Ctx) (n : BitVec 12) : Bool :=
  match c with
  | .part _ _ => decide (n.toNat < 4)
  | .sv => decide (n.toNat < 64)
  | _ => decide (n.toNat < 16)

/-- The effect of SIG #n. -/
def State.signal (s : State) (c : Ctx) (n : Nat) : State :=
  let seq := fun (x : Nat) =>
    if n < 8 then s.updSeqr x fun q => { q with outs := q.outs ^^^ 2 ^ n }
    else s.set (ENG_SEQSTATx_SIGLOG x) (s.get (ENG_SEQSTATx_SIGLOG x) ||| 2 ^ (n - 8))
  match c with
  | .part p _ => s.evPulse p n
  | .sv => (s.set ENG_SVMARK_MARK n).count ENG_SVMARK_COUNT 1
  | .rsa => seq 0
  | .rsb => seq 1
  | .ce =>
    if n = 0 then (if s.flag COL_WAKECRIT_PROG then s.wakeFire 3 else s)
    else if n = 1 then s.colRxOff
    else s.set COL_SIGLOG_LOG (s.get COL_SIGLOG_LOG ||| 2 ^ (n - 2))

/-- SIG #n (R313). -/
def execSig (c : Ctx) (n : BitVec 12) (s : State) : Host.Outcome State Fault Refusal :=
  .next (s.issue c .all (sigOk c n) fun s _ => .inr { st := s.signal c n.toNat })

/-- BKPT #n (R315): it halts where an open session covers the context. -/
def execBkpt (c : Ctx) (n : BitVec 12) (s : State) : Host.Outcome State Fault Refusal :=
  .next (s.issue c .all true fun s _ =>
    let hit := match s.dbg.scope with | some x => scopeReaches x (ctxTag c) | none => false
    .inr { st := if hit then { s with dbg := { s.dbg with bkpt := n.toNat } } else s, bkpt := hit })

/-! ## Supervisor services (R314, R367) -/

/-- What service 2, IMGSTAGE, does as it is called: its refusal, or the chunk staged; with LAST the verification
gives the code. A chunk outside the packet window or of a wrong size is refused. DEDUCED -/
def State.trapStage (s : State) (c : Ctx) (p : Nat) (imgB : Bool) (g : Prog) : State :=
  let a := (g.reg 1).toNat
  let n := (g.reg 3).toNat % 65536
  let set := fun (s : State) (x : Code) => s.onProg c fun g => g.setReg 0 (BitVec.ofNat 32 x.num)
  if n % 16 ≠ 0 || decide (2048 < n) then set s .refusedLength
  else if !s.inPkt p a n then set s .refusedAccess
  else
    let r := s.stage p 1 p (g.reg 2).toNat (s.winOcts p a n) ((g.reg 3).toNat.testBit 31) false imgB
    match r.1 with
    | some x => set r.2 x
    | none => r.2

/-- TRAP #n (R314): the context blocks while SV performs the service. -/
def execTrap (c : Ctx) (n : BitVec 12) (s : State) : Host.Outcome State Fault Refusal :=
  .next (s.issue c .me true fun s g =>
    let s := match c with | .part p b => if n = 2 then s.trapStage c p b g else s | _ => s
    .inr { st := s.onProg c fun g => { g with run := .trap n.toNat } })

/-- The results of a service other than IMGSTAGE, as it completes. -/
def State.trapDo (s : State) (p : Nat) (imgB : Bool) (n : Nat) : State :=
  let c := Ctx.part (Fin.ofNat 32 p) imgB
  let g := s.prog (ctxNum c)
  let put := fun (s : State) (l : List (Nat × Nat)) =>
    s.onProg c fun g => l.foldl (fun g e => { g with g := Tab.set 0 g.g e.1 (BitVec.ofNat 32 e.2) }) g
  match n with
  | 0 => put s [(0, Code.done.num), (1, (s.sysSlot 0 s.svArea).hdr.version), (2, ((s.part p).slot g.slot).hdr.version), (3, s.get SYS_GEN_GEN)]
  | 1 =>
    let r := s.random 12
    put r.2 [(0, Code.done.num), (1, ofOctets (r.1.take 4)), (2, ofOctets ((r.1.drop 4).take 4)), (3, ofOctets (r.1.drop 8))]
  | 2 => s
  | 3 =>
    let w := (g.reg 2).toNat
    let r := s.imageAct p (g.reg 1).toNat (w % 65536) (bit w 31)
    put r.2 [(0, r.1.num)]
  | _ => put s [(0, Code.refusedState.num)]

/-- TRAP_RETURN (R314, R367): the service completes at its fixed time, and the context resumes. A service that
needs SV waits while SV is halted (R567), and IMGSTAGE while the image it names LAST is being verified. -/
def execTrapReturn (p : Fin 32) (imgB : Bool) (s : State) : Host.Outcome State Fault Refusal :=
  let c := Ctx.part p imgB
  .next (match (s.prog (ctxNum c)).run with
  | .trap n =>
    let waits := n = 2 && [0, 1].any fun i =>
      let x := s.imgSlot p 1 i
      x.verify && !x.byHost && decide (x.lastBy = p.val) && x.byImgB = imgB
    if s.svHalted || waits || s.pstate p ≠ PState.running.num then s
    else
      let s := s.trapDo p imgB n
      (s.onProg c fun g => { g with run := .ready }).completed c none none false
  | _ => s)

end Sys2Proof.Machine
end

