-- ==== Sys2Proof/Machine/IsaRadio.lean ====
section
/-!
DEFINITION. The radio group (R324 to R329, R480): TUNE, RXARM, TXARM, FIRE, LBTQ.
-/

namespace Sys2Proof.Machine

open Reg

/-- A status written to d. -/
def Prog.setCode (g : Prog) (d : Fin 16) (c : Code) : Prog := g.setReg d (BitVec.ofNat 32 c.num)

/-- The synthesisers TUNE commands from an engine (R324). -/
def tuneMay (c : Ctx) (sel : Nat) : Bool :=
  match c with
  | .rsb => sel = 1
  | _ => sel ≠ 1

/-- TUNE d, a, #s (R325). -/
def execTune (c : Ctx) (d a : Fin 16) (sel : BitVec 2) (s : State) : Host.Outcome State Fault Refusal :=
  .next (s.issue c .seqs (tuneOk sel) fun s g =>
    if !tuneMay c sel.toNat then .inl (.access, g.pc.toNat)
    else
      let r := s.freqCommand sel.toNat ((g.reg a).toNat % 2 ^ 32)
      .inr { st := r.2.onProg c fun h => h.setCode d (if r.1 then .done else .refusedState) })

/-- RXARM's encodings that an engine's row excludes (R326): BOTH but on RSA, COUPLER but on RSB; on CE mode 4 is
another mode (R480). -/
def rxarmMay (c : Ctx) (m : Nat) : Bool :=
  match c with
  | .rsa => m ≠ 4
  | .rsb => m < 8
  | _ => m < 8

/-- BLANK on a chain (R106, R107): the frames of its slots are lost; in combined operation only where the other
chain is off too. -/
def State.armBlank (s : State) (x : Nat) : State :=
  let s := if s.combined && !s.chainOff (1 - x) then s else s.loseSlots CHB_LOSTB_OTHER (s.chainSlots x)
  (s.updChain x fun c => { c with blArm := true }).rxStat x

/-- OPEN on a chain: its bins serve again from now. -/
def State.armOpen (s : State) (x : Nat) : State :=
  if (s.chn x).blArm then (s.updChain x fun c => { c with blArm := false, upAt := s.tbs.now }).rxStat x else s

/-- RXARM on chain A 0 or B 1 (R326). What the datapath does during a transmit interval stands whatever the program
asks for (R339). -/
def State.rxArm (s : State) (x m gain : Nat) : State :=
  match m with
  | 0 => s.armBlank x
  | 1 => s.armOpen x
  | 8 => (s.armBlank 0).armBlank 1
  | 9 => (s.armOpen 0).armOpen 1
  | 2 => s.set (RXx_STAT_PROT x) 1
  | 3 =>
    let s := if x = 0 && s.txBlank then s else s.set (RXx_STAT_PROT x) 0
    if x = 1 && !s.flag TXM_STAT_ACTIVE then (s.set (RXx_STAT_MON 1) 0).updChain 1 fun c => { c with coupler := false } else s
  | _ => (s.sets [(RXx_STAT_MON 1, 1), (RXx_STAT_GAIN 1, gain)]).updChain 1 fun c => { c with coupler := true }

/-- RXARM on CE: the Col receiver off or on; other modes are refused (R480). -/
def State.rxArmCe (s : State) (m : Nat) : Code × State :=
  match m with
  | 0 => (.done, s.colRxOff)
  | 1 => (.done, s.set COL_STAT_RXON 1)
  | _ => (.refusedState, s)

/-- RXARM d, a, #m (R326). -/
def execRxarm (c : Ctx) (d a : Fin 16) (m : BitVec 4) (s : State) : Host.Outcome State Fault Refusal :=
  .next (s.issue c .seqs (rxarmOk m && rxarmMay c m.toNat) fun s g =>
    let r := match c with
      | .ce => s.rxArmCe m.toNat
      | .rsb => (Code.done, s.rxArm 1 m.toNat ((g.reg a).toNat % 16))
      | _ => (Code.done, s.rxArm 0 m.toNat 0)
    .inr { st := r.2.onProg c fun h => h.setCode d r.1 })

/-- T0 of a released transmission, in fractions: without a fixed start, the tick of its release. DEDUCED -/
def Tx.tzero (t : Tx) : Nat := if t.fixed then t.t0 else t.until_ * 64

/-- The next transmission AIR has released: one with a fixed start first (R226, R341). -/
def State.txReleased (s : State) : Option Tx :=
  match s.txs.find? fun t => t.stage = .atRsa && t.fixed with
  | some t => some t
  | none => s.txs.find? fun t => t.stage = .atRsa

/-- TXARM d (R327). -/
def execTxarm (c : Ctx) (d : Fin 16) (s : State) : Host.Outcome State Fault Refusal :=
  .next (s.issue c .seqs true fun s g =>
    if c = .rsb then .inl (.access, g.pc.toNat)
    else
      let give := fun (s : State) (t : Tx) => s.onProg c fun h => { h.setReg d (BitVec.ofNat 32 t.tzero) with z := false }
      match s.txBound with
      | some t => .inr { st := give s t }
      | none => match s.txReleased with
        | some t =>
          let s := (s.txUpd t.id fun u => { u with stage := .bound }).sets [(ENG_TXBIND_BOUND, 1), (ENG_TXBIND_FIXED, t.fixed.toNat)]
          .inr { st := give s t }
        | none => .inr { st := s.onProg c fun h => { h.setReg d 0 with z := true } })

/-- Whether the gate is open for FIRE: the PA gate (R64), and intervals may start (R198, R619). -/
def State.fireGate (s : State) : Bool := s.gateOpen && s.flag TXM_CTL_EN && (s.inCol || (s.flag PKT_CTL_EN && !s.radioOff))

/-- The stamp condition of FIRE; on CE T0 exactly (R328, R480). -/
def fireStamp (c : Ctx) (t : Tx) (now : Nat) : Bool :=
  match c with
  | .ce => decide (now = t.tzero)
  | _ => if t.fixed then decide (t.t0 ≤ now ∧ now < t.t0 + 2) else decide (t.tzero ≤ now)

/-- FIRE with f = 0: its status and the state. -/
def State.fireNow (s : State) (c : Ctx) : Code × State :=
  match s.txBound with
  | none => (.refusedState, s)
  | some t =>
    if !s.fireGate then (.deferred, s)
    else if !fireStamp c t s.tbs.now then (.refusedState, s)
    else (.done, s.intervalStart t)

/-- FIRE with f = 1: the bound transmission is released unsent. -/
def State.fireOff (s : State) : Code × State :=
  match s.txBound with
  | none => (.refusedState, s)
  | some t => (.done, s.unbind.txCannot t)

/-- FIRE d, #f (R328). -/
def execFire (c : Ctx) (d : Fin 16) (f : Bool) (s : State) : Host.Outcome State Fault Refusal :=
  .next (s.issue c .seqs true fun s g =>
    if c = .rsb then .inl (.access, g.pc.toNat)
    else
      let r := if f then s.fireOff else s.fireNow c
      .inr { st := r.2.onProg c fun h => h.setCode d r.1 })

/-- What LBTQ reports of a channel (R329). -/
def State.lbtReport (s : State) (freq : Nat) : Nat :=
  let p := (s.lbtParams freq).getD (s.get AIR_LBTCFG_THR, ceilDiv (s.get AIR_LBTCFG_WIN) 40)
  match s.monSlot freq 1 with
  | none => 0x80000002
  | some k =>
    let t := s.slot k
    let code := if t.valid < p.2 then 3 else if t.busy p.1 p.2 then 1 else 0
    orNone (t.ring.headD none) * 65536 + code

/-- LBTQ d, a (R329). -/
def execLbtq (c : Ctx) (d a : Fin 16) (s : State) : Host.Outcome State Fault Refusal :=
  .next (s.issue c .noSmall true fun s g =>
    .inr { st := s.onProg c fun h => h.setReg d (BitVec.ofNat 32 (s.lbtReport ((g.reg a).toNat))), cyc := if ctxTimed c then 1 else 4 })

end Sys2Proof.Machine
end

