-- ==== Sys2Proof/Machine/Services.lean ====
section
/-!
DEFINITION. The services of SUBMIT and of the host messages that share their layouts (R316 to R320,
R426 to R430): submission of a frame, its cancellation, keys, expert cipher operations, check-value
operations and direct decoding; what completes them.
-/

namespace Sys2Proof.Machine

open Reg

/-- A field of `n` octets of a request. -/
def fld (o : List Byte) (a n : Nat) : Nat := ofOctets ((o.drop a).take n)

/-! ## Transmit (R23, R186, R426, R427) -/

/-- The local index a submission names; none with ASSOC 0. -/
def subIndex (o : List Byte) : Option Nat := if bit (fld o 0 1) 4 then some (fld o 4 2) else none

/-- Octets of the header the device builds for an association (R427). -/
def hdrLen (fmt lvl : Nat) : Nat := if fmt = 1 then 6 else if lvl = 0 then 9 else 14

/-- The frame a submission spells (R426, R427). -/
def State.subFrame (s : State) (p : Nat) (imgB host : Bool) (o : List Byte) : Tx :=
  let a := subIndex o
  let fmt := bits (fld o 1 1) 0 2
  let assoc := a.isSome
  let lvl0 := if assoc then bits (fld o 3 1) 0 3 else 0
  let lvl := if fmt = 1 ∧ lvl0 ≠ 0 then 5 else lvl0
  let c := fld o 18 2
  let fcst := bits c 13 1
  let n := fld o 6 2
  let late := fld o 12 4
  let next := bit (fld o 0 1) 5
  { kind := .submit, p := p, imgB := imgB, host := host, stage := if next then .window else .bucket
    entry := a, window := next, prof := bits (fld o 0 1) 0 4, freq := fld o 8 4 % 2 ^ 29, fmt := fmt
    pwr := if bit (fld o 0 1) 6 then some (fld o 2 1) else none
    codeF := if fmt = 1 then 1 else bits c 9 3, fcst := fcst, wht := bit c 12, pre := bits c 0 9
    wb := if next then 0 else fld o 16 2, lvl := lvl, ackReq := assoc && bit (fld o 3 1) 3, seq := fld o 20 1
    body := (o.drop 24).take n
    len := (if assoc then hdrLen fmt lvl + micLen lvl else 0) + n + fcsLen fmt fcst
    mic := if assoc then micLen lvl else 0
    sync := match a with | some li => s.entNidx (s.entOf p li) | none => bits (fld o 1 1) 2 2
    sub := s.tick, latest := s.tick + (if late = 0 then 1000 * s.get (AIR_TXPOL_MAXWAIT.at p) else late)
    named := late ≠ 0, ackWait := fld o 21 3 }

/-- The sync word a submission is sent with, as R167 judges it (R235). -/
def State.subSync (s : State) (t : Tx) : Nat :=
  let w := s.get ((AIR_TXSYNCn_SYNC t.sync).at t.p)
  if t.fmt = 1 then 0xB94E0000 + w % 65536 else w

/-- Whether a submission breaks a reserved encoding of R426. -/
def subReserved (o : List Byte) (t : Tx) : Bool :=
  bit (fld o 0 1) 7 || t.fmt = 0 || (fld o 1 1) / 16 ≠ 0 || (fld o 3 1) / 16 ≠ 0 || fld o 18 2 / 2 ^ 14 ≠ 0 ||
    (match t.pwr with | some w => decide (84 < w) | none => false) ||
    (t.entry.isSome && (t.fmt = 3 || bits (fld o 3 1) 0 3 = 4)) ||
    (t.fmt = 2 && decide (4 < t.codeF)) || (t.fmt = 3 && decide (1 < t.codeF)) ||
    (t.fmt ≠ 1 && !decide (16 ≤ t.pre ∧ t.pre ≤ 256)) || (t.fmt = 1 && decide (256 < t.pre))

/-- Whether LEN lies in the range of the frame's format (R148, R162, R165). -/
def Tx.lenOk (t : Tx) : Bool :=
  match t.fmt with
  | 1 => decide (8 ≤ t.len ∧ t.len ≤ 255)
  | 2 => decide (1 ≤ t.len ∧ t.len ≤ 2047)
  | _ => decide (1 ≤ t.len - fcsLen 3 t.fcst ∧ t.len ≤ 2047)

/-- The refusal of a submission before it enters the transmit queue (R186, R235, R253, R377, R584). -/
def State.subRefused (s : State) (p : Nat) (o : List Byte) (t : Tx) : Option Code :=
  let a := s.profA t.prof
  if o.length < 24 || o.length ≠ 24 + fld o 6 2 || 2016 < fld o 6 2 then some .refusedLength
  else if subReserved o t || (t.fmt = 1 && !(s.get SYS_FRPARTS_PARTS).testBit p) then some .refusedState
  else if !(s.get (TXM_PROFnC_PARTMASK t.prof)).testBit p then some .refusedAccess
  else if !modRateOk t.fmt (profMod a) (profRate a) then some .refusedState
  else
    let asc := match t.entry with
      | none => if t.window then some Code.refusedState else none
      | some li =>
        if (s.part p).desc.assocQ ≤ li || s.entSt (s.entOf p li) = 0 then some .refusedAccess
        else if t.window && !s.clsTx p (s.entClass (s.entOf p li)) then some .refusedState
        else if t.lvl ≠ 0 && s.ent (s.entOf p li) 26 8 = s.coordAddr p then some .refusedState
        else none
    match asc with
    | some c => some c
    | none => if syncOk t.fmt (s.subSync t) then none else some .refusedState

/-- The refusals of step 1 of R23. -/
def State.subStep1 (s : State) (p : Nat) (t : Tx) : Option Code :=
  let aad := if 5 ≤ t.lvl then hdrLen t.fmt t.lvl else hdrLen t.fmt t.lvl + t.body.length
  let over' := t.lvl ≠ 0 && (decide (64 < aad) || (decide (5 ≤ t.lvl) && decide (2031 < t.body.length)))
  if !t.lenOk || over' then some .refusedLength
  else
    match (match t.entry with | some li => if t.lvl ≠ 0 then s.txSecCheck p li else none | none => none) with
    | some c => some c
    | none => if (s.part p).desc.txQ ≤ s.txQueued p then some .refusedQuota else none

/-- A submission judged: a refusal, with whether it was one of R23, or the frame. -/
def State.subJudge (s : State) (p : Nat) (imgB host : Bool) (o : List Byte) : Sum (Code × Bool) Tx :=
  let t := s.subFrame p imgB host o
  match s.subRefused p o t with
  | some c => .inl (c, false)
  | none => match s.subStep1 p t with
    | some c => .inl (c, true)
    | none => .inr t

/-- tx-cancel (R428): a frame that has not reached T0 leaves the queue, its reservations returned. -/
def State.txCancel (s : State) (p tk : Nat) : Code × State :=
  match s.txs.find? fun t => t.kind = .submit && decide (t.p = p ∧ t.tk = tk) && t.stage ≠ .onAir && t.stage ≠ .acked with
  | none => (.refusedState, s)
  | some t =>
    let s := if t.stage = .bound then s.unbind.latch 33 0 else s
    let s := ((s.txDel t.id).giveBack t).lbtFree
    (.done, s.updPart p fun P => { P with tickets := P.tickets.filter fun u => u.num ≠ tk })

/-! ## Keys (R390 to R392) -/

/-- The wrapped octets of a kind (R378, R385). -/
def wrapLen (kind : Nat) : Nat := if kind = 3 then 40 else 24

/-- A general key deleted: its records, slot and note. -/
def State.dropGen (s : State) (p n : Nat) : State :=
  let rs := ksRecs.filter fun r => decide (s.ksPart r = p ∧ s.ksRef r = n) && [2, 3, 4].contains (s.ksKind r)
  let s := rs.foldl (fun s r => s.zero (ksAddr r) 32) s
  (s.zeroSlots fun x => decide (x.p = p ∧ x.ref = .gen n)).keyUnnote p (.gen n)

/-- key-load (R392). -/
def State.keyLoad (s : State) (p : Nat) (o : List Byte) : Code × State :=
  let n := fld o 0 1
  let kind := fld o 1 1
  let w := (o.drop 4).take (wrapLen kind)
  let mine := (ksRecs.filter fun r => decide (s.ksPart r = p ∧ s.ksRef r = n) && [2, 3, 4].contains (s.ksKind r)).length
  let need := if kind = 3 then 2 else 1
  if n = 0 || !([0, 2, 3].contains kind) then (.refusedState, s)
  else if !s.keysOn p then (.refusedQuota, s)
  else if kind = 0 then (.done, s.dropGen p n)
  else if s.get (KEY_TQUOTAp_QUOTA p) < s.ksHeld p - mine + need then (.refusedQuota, s)
  else
    let s := s.blocks (if kind = 3 then 24 else 12)
    match (s.ownerKey p).bind fun k => Config.keyUnwrap k w with
    | none => (.authFail, s)
    | some _ =>
      let s := s.dropGen p n
      match s.ksFree p with
      | none => (.refusedQuota, s)
      | some r =>
        let s := s.ksPut r kind p n 0 (w.take 24)
        if kind = 2 then (.done, s)
        else match s.ksFree p with
          | none => (.refusedQuota, s)
          | some r' => (.done, s.ksPut r' 4 p n 0 (w.drop 24))

/-- key-rotate (R390). -/
def State.keyRotate (s : State) (p : Nat) (o : List Byte) : Code × State :=
  let li := fld o 0 2
  let ph := s.entOf p li
  let free := decide ((s.part p).desc.assocQ ≤ li) || s.entSt ph = 0
  let nkey := !free && s.entFlag ph 11 1 = 1
  let mode := fld o 2 1
  if 2 < mode then (.refusedState, s)
  else if mode = 0 && free then (.refusedAccess, s)
  else if mode ≠ 0 && !nkey then (.refusedState, s)
  else if !s.keysOn p then (.refusedQuota, s)
  else if mode = 1 then (.done, s.promote p li 0)
  else if mode = 2 then (.done, s.dropNext p li)
  else
    let w := (o.drop 4).take 24
    match (if nkey then s.ksFind p 5 li else s.ksFree p) with
    | none => (.refusedQuota, s)
    | some r =>
      let s := s.blocks 12
      match (s.ownerKey p).bind fun k => Config.keyUnwrap k w with
      | none => (.authFail, s)
      | some _ =>
        let s := if nkey then s.dropNext p li else s
        (.done, (s.ksPut r 5 p li 0 w).putFlag ph 11 1 1)

/-! ## Expert cipher operations (R393) -/

/-- The stream of CTR: the counter block is incremented as a big-endian number (R375). -/
def ctrStream (key cb l : List Byte) : List Byte :=
  let c0 := ofOctets cb.reverse
  l.zipIdx.map fun e => e.1 ^^^ (Config.aesBlock key ((octets 16 ((c0 + e.2 / 16) % 2 ^ 128)).reverse)).getD (e.2 % 16) 0

/-- A cipher-op request (R430). -/
structure CiphReq where
  op    : Nat
  key   : Nat
  key2  : Nat
  tag   : Nat
  nonce : List Byte
  aad   : Nat
  data  : Nat
  src   : Nat
  dst   : Nat

/-- The fields of a cipher-op request. -/
def ciphReq (o : List Byte) : CiphReq :=
  { op := fld o 0 1, key := fld o 1 1, key2 := fld o 2 1, tag := fld o 3 1, nonce := (o.drop 4).take 16
    aad := fld o 20 2, data := fld o 22 2, src := fld o 24 4, dst := fld o 28 4 }

/-- The address that stands for the message itself (R430). -/
def inlineAddr : Nat := 0xFFFFFFFF

/-- Octets of input: AAD and data, and the tag that is compared. -/
def CiphReq.inLen (r : CiphReq) : Nat := r.aad + r.data + (if r.op = 1 ∨ r.op = 4 then r.tag else 0)

/-- Octets of output, but for WRAP, whose key decides them. -/
def CiphReq.outLen (r : CiphReq) : Nat :=
  match r.op with
  | 0 => r.data + r.tag
  | 1 | 2 => r.data
  | 3 => r.tag
  | _ => 0

/-- The checks of a cipher-op, in this order: the operation, the lengths of R379 and R375, the keys, the
buffers, KSLOTQ and KEY_CTL.EN, the limits. -/
def State.ciphCheck (s : State) (p : Nat) (r : CiphReq) (out : Nat) : Option Code :=
  let names := fun n => (s.ksFind p 2 n).isSome || (s.ksFind p 3 n).isSome
  let tagOk := match r.op with
    | 0 | 1 => r.tag = 4 || r.tag = 8 || r.tag = 16
    | 3 | 4 => decide (4 ≤ r.tag ∧ r.tag ≤ 16)
    | _ => true
  let used := if r.op = 5 then [r.key, r.key2] else [r.key]
  if 5 < r.op then some .refusedState
  else if 4096 < r.inLen || !tagOk then some .refusedLength
  else if !(used.all names) then some .refusedAccess
  else if (r.src ≠ inlineAddr && r.op ≠ 5 && !s.inWin p r.src r.inLen) || (r.dst ≠ inlineAddr && !s.inWin p r.dst out) then some .refusedAccess
  else if !s.keysOn p then some .refusedQuota
  else if used.any fun n => decide (s.keyLimit p ≤ s.keyCount p (.gen n)) then some .refusedKeyLimit
  else none

/-- What an operation computes: its output, none where a tag does not verify. -/
def CiphReq.run (r : CiphReq) (key : List Byte) (inp other : List Byte) : Option (List Byte) :=
  let aad := inp.take r.aad
  let data := (inp.drop r.aad).take r.data
  let tag := inp.drop (r.aad + r.data)
  match r.op with
  | 0 => some (Config.ccmSeal key (r.nonce.take 13) aad data r.tag)
  | 1 => Config.ccmOpen key (r.nonce.take 13) aad (data ++ tag) r.tag
  | 2 => some (ctrStream key r.nonce data)
  | 3 => some ((Config.cmac key data).take r.tag)
  | 4 => if (Config.cmac key data).take r.tag = tag then some [] else none
  | _ => some (Config.keyWrap key other)

/-- cipher-op (R393): its code and what its response carries from octet 4. -/
def State.cipherOp (s : State) (p : Nat) (o : List Byte) : Code × List Byte × State :=
  let r := ciphReq o
  let out := if r.op = 5 then (if (s.ksFind p 3 r.key2).isSome then 40 else 24) else r.outLen
  match s.ciphCheck p r out with
  | some c => (c, [], s)
  | none =>
    let inp := if r.src = inlineAddr then (o.drop 32).take r.inLen else s.winOcts p r.src r.inLen
    let two := if r.op = 5 then (s.useKey p (.gen r.key2)).map fun x => (x.1, if r.key2 = r.key then x.2 else x.2.invoke p (.gen r.key2))
      else some ([], s)
    match two with
    | none => (.authFail, [], s)
    | some (other, s) =>
      match s.useKey p (.gen r.key) with
      | none => (.authFail, [], s)
      | some (key, s) =>
        let s := s.invoke p (.gen r.key)
        let n := match r.op with
          | 0 | 1 => ccmBlocks r.aad r.data
          | 2 => ceilDiv r.data 16
          | 3 | 4 => max 1 (ceilDiv r.data 16)
          | _ => if other.length = 32 then 24 else 12
        let s := s.blocks n
        match r.run key inp other with
        | some x =>
          if r.dst = inlineAddr then (.done, octets 2 x.length ++ octets 2 0 ++ x, s)
          else (.done, octets 2 x.length ++ octets 2 0, s.winStore p r.dst x)
        | none =>
          (.authFail, octets 4 0, if r.dst = inlineAddr then s else s.winStore p r.dst (List.replicate r.outLen 0))

/-! ## Check-value operations and direct decoding (R409, R320) -/

/-- The first failing condition of a crc-op. -/
def State.crcReqCheck (s : State) (p : Nat) (o : List Byte) : Option Code :=
  let n := fld o 2 2
  let a := fld o 4 4
  s.crcOpCheck p (bits (fld o 0 1) 0 3) n (a = inlineAddr || s.inWin p a n)

/-- The start of a crc-op: an accepted one holds its slot (R409). -/
def State.crcReqStart (s : State) (p : Nat) (o : List Byte) : State :=
  match s.crcReqCheck p o with
  | some _ => s
  | none => s.updCrc p (bits (fld o 0 1) 0 3) fun u => { u with busy := true }

/-- crc-op: its code and what its response carries from octet 4. -/
def State.crcReq (s : State) (p : Nat) (o : List Byte) : Code × List Byte × State :=
  match s.crcReqCheck p o with
  | some c => (c, [], s)
  | none =>
    let n := fld o 2 2
    let a := fld o 4 4
    let data := if a = inlineAddr then (o.drop 8).take n else s.winOcts p a n
    let r := s.crcOp p (bits (fld o 0 1) 0 3) (bit (fld o 1 1) 0) (bit (fld o 1 1) 1) data
    (.done, r)

/-- The largest number of input bits whose coded length under PUNC does not exceed `n` metrics (R320). -/
def decodedBits (punc n : Nat) : Nat :=
  match punc with
  | 2 => 2 * (n / 3) + (if n % 3 = 2 then 1 else 0)
  | 3 => 3 * (n / 4) + (n % 4 - 1)
  | _ => n / 2

/-- Whether a code entry is valid (R169): an entry that P0 sets has no generator bit above K - 1. -/
def State.codeOk (s : State) (n : Nat) : Bool :=
  let top := 2 ^ s.get (TRL_CODEn_K n)
  decide (n < 4) || (decide (s.get (TRL_CODEn_G1 n) < top) && decide (s.get (TRL_CODEn_G0 n) < top))

/-- Direct decoding (R320, R174). -/
def State.directDecode (s : State) (p : Nat) (o : List Byte) : Code × List Byte × State :=
  let w := fld o 0 4
  let nmet := w / 65536
  let punc := bits w 4 3
  let term := bit w 8
  let entry := bits w 0 3
  let nbits := decodedBits punc nmet - (if term then s.get (TRL_CODEn_K entry) - 1 else 0)
  let maddr := fld o 4 4
  let oaddr := fld o 8 4
  if nmet = 0 || 16384 < nmet || (punc = 4 && nmet % 128 ≠ 0) then (.refusedLength, octets 4 0, s)
  else if !s.inPkt p maddr (ceilDiv nmet 2) || !s.inPkt p oaddr (ceilDiv nbits 8) then (.refusedAccess, octets 4 0, s)
  else if !([0, 2, 3, 4].contains punc) || bits w 9 7 ≠ 0 || bit w 7 || bit w 3 || !s.codeOk entry then (.refusedState, octets 4 0, s)
  else
    let code := s.fldsWord 0 [TRL_CODEn_RSC entry, TRL_CODEn_K entry, TRL_CODEn_G1 entry, TRL_CODEn_G0 entry] []
    let met := s.winOcts p maddr (ceilDiv nmet 2)
    (.done, octets 4 nbits, s.winStore p oaddr ((List.range (ceilDiv nbits 8)).map fun i => Config.trellis code punc term met i))

/-! ## Services by number (R317) -/

/-- Octets of a service's fixed part: a shorter request ends with REFUSED_LENGTH. -/
def svcFixed (n : Nat) (o : List Byte) : Nat :=
  match n with
  | 1 | 3 | 4 => 2
  | 2 => 44
  | 5 => if fld o 1 1 = 0 then 4 else 4 + wrapLen (fld o 1 1)
  | 6 => if fld o 2 1 = 0 then 28 else 4
  | 7 => 32
  | 8 => 8
  | _ => 12

/-- Octets a request carries beyond its fixed part, as its length fields say: none where it says nothing of them. -/
def svcExtra (n : Nat) (o : List Byte) : Nat :=
  match n with
  | 7 => let r := ciphReq o; if r.src = inlineAddr then r.inLen else 0
  | 8 => if fld o 4 4 = inlineAddr then fld o 2 2 else 0
  | _ => 0

/-- Whether a request is too short for its type or disagrees with its own length fields (R417). -/
def svcShort (n : Nat) (o : List Byte) : Bool := decide (o.length < svcFixed n o + svcExtra n o)

/-- Octets of the largest report of a service (R316): those of its response, or of a direct decode's. -/
def svcReport (n : Nat) (o : List Byte) : Nat :=
  match n with
  | 0 => 24
  | 2 => 8
  | 4 => 68
  | 7 => let r := ciphReq o; 8 + (if r.dst = inlineAddr then (if r.op = 5 then 40 else r.outLen) else 0)
  | 8 => 9
  | _ => 4

/-- The effect of a service other than transmit on its request: its code, what its response carries from
octet 4, and the state after it. -/
def State.svcRun (s : State) (p n : Nat) (o : List Byte) : Code × List Byte × State :=
  if svcShort n o then (.refusedLength, [], s)
  else match n with
    | 1 => let r := s.txCancel p (fld o 0 2); (r.1, [], r.2)
    | 2 => s.assocAdd p o
    | 3 => let r := s.assocDrop p (fld o 0 2); (r.1, [], r.2)
    | 4 =>
      let li := fld o 0 2
      if (s.part p).desc.assocQ ≤ li || s.entSt (s.entOf p li) = 0 then (.refusedAccess, [], s) else (.done, s.ntEntry p li, s)
    | 5 => let r := s.keyLoad p o; (r.1, [], r.2)
    | 6 => let r := s.keyRotate p o; (r.1, [], r.2)
    | 7 => s.cipherOp p o
    | 8 => s.crcReq p o
    | _ => s.directDecode p o

/-- Whether a code is one of the refusals 0x10 to 0x18 (R27). -/
def Code.refusal (c : Code) : Bool := decide (0x10 ≤ c.num ∧ c.num ≤ 0x18)

/-- The part of a response that its code leaves (R424): a refused request's carries octets 0 to 3 only. -/
def restFor (c : Code) (rest : List Byte) : List Byte := if c.refusal then [] else rest

/-- A service of SUBMIT completes: its report into its buffer (R318). Direct decoding reports NBITS alone (R320). -/
def State.ticketRun (s : State) (p : Nat) (t : Ticket) : State :=
  let o := s.winOcts p (t.buf + 4) t.reqLen
  let r := s.svcRun p t.service o
  r.2.2.ticketDone p t.num r.1.num (if t.service = 9 then r.2.1 else respBody r.1.num (restFor r.1 r.2.1))

/-- The service a message type shares its layout with (R317). -/
def svcOf (typ : Nat) : Option Nat :=
  match typ with
  | 0x21 => some 1
  | 0x31 => some 2
  | 0x32 => some 3
  | 0x33 => some 4
  | 0x38 => some 5
  | 0x39 => some 6
  | 0x50 => some 8
  | 0x51 => some 7
  | _ => none

/-- The messages whose service takes a time of its own (R414): assoc-add, key-load, key-rotate, crc-op, cipher-op. -/
def svcLater (typ : Nat) : Bool := [0x31, 0x38, 0x39, 0x50, 0x51].contains typ

/-- SERVICE_COMPLETE (R318): a submitted service completes, `tk` its ticket; 0 completes the request at the
head of the partition's incoming mailbox that is being executed (R418). -/
def execServiceComplete (p : Fin 32) (tk : BitVec 16) (s : State) : Host.Outcome State Fault Refusal :=
  .next (
    if tk = 0 then
      match (s.mb p).inq with
      | [] => s
      | m :: _ =>
        match svcOf m.typ with
        | none => s
        | some n =>
          if (s.mb p).busy && svcLater m.typ then
            let r := s.svcRun p n m.body
            r.2.2.answer p r.1 (restFor r.1 r.2.1)
          else s
    else
      match (s.part p).tickets.find? fun t => t.num = tk.toNat && t.status.isNone && t.service ≠ 0 with
      | none => s
      | some t => s.ticketRun p t)

end Sys2Proof.Machine
end

