-- ==== Sys2Proof/Machine/IsaSvc.lean ====
section
/-!
DEFINITION. The service and message instructions of a partition's program: SUBMIT, COLLECT, MPUSH, MPOP
(R316 to R323).
-/

namespace Sys2Proof.Machine

open Reg

/-! ## SUBMIT (R316 to R319) -/

/-- Outstanding tickets of a partition, transmit or other. -/
def State.ticketsOut (s : State) (p : Nat) (tx : Bool) : Nat :=
  ((s.part p).tickets.filter fun t => t.status.isNone && (t.service = 0) = tx).length

/-- A submission judged, in the order of R316: the code, and the state with its ticket where it is ACCEPTED. -/
def State.submitRun (s : State) (p : Nat) (imgB : Bool) (n addr : Nat) : Code × Nat × State :=
  let w := ofOctets (s.winOcts p addr 4)
  let req := w % 65536
  let buf := w / 65536
  let o := s.winOcts p (addr + 4) req
  let full := if n = 0 then (s.part p).desc.txQ ≤ s.ticketsOut p true else 32 ≤ s.ticketsOut p false
  if addr % 4 ≠ 0 || !s.inWin p addr (max buf 4) then (.refusedAccess, 0, s)
  else if decide (buf < req) || decide (buf < 4 + svcReport n o) then (.refusedLength, 0, s)
  else if full then (.refusedQuota, 0, s)
  else
    let judged : Sum Code (Option Tx) :=
      if n = 0 then match s.subJudge p imgB false o with
        | .inl r => .inl r.1
        | .inr t => .inr (some t)
      else .inr none
    match judged with
    | .inl e => (e, 0, s.raiseImg p imgB .txRefused)
    | .inr t =>
      let r := s.takeTicket p
      let tk : Ticket := { num := r.1, imgB := imgB, service := n, buf := addr, len := buf, reqLen := req }
      let s := r.2.updPart p fun P => { P with tickets := P.tickets ++ [tk] }
      let s := match t with | some t => s.txAdd { t with tk := r.1 } | none => if n = 8 then s.crcReqStart p o else s
      (.accepted, r.1, s)

/-- SUBMIT d, a of a service. -/
def State.submit (s : State) (c : Ctx) (n : Nat) (d a : Fin 16) : Host.Outcome State Fault Refusal :=
  .next (s.issue c .me true fun s g =>
    match c with
    | .part p b =>
      let r := s.submitRun p b n (g.reg a).toNat
      .inr { st := r.2.2.onProg c fun h => h.setReg d (BitVec.ofNat 32 (r.1.num * 2 ^ 24 + r.2.1)), cyc := 24 }
    | _ => .inr { st := s })

/-- SUBMIT subop 0x00: transmit (R316, R317, R426). -/
def execSubmitTransmit (c : Ctx) (d a : Fin 16) (s : State) : Host.Outcome State Fault Refusal := s.submit c 0 d a

/-- SUBMIT subop 0x01: transmit cancel (R316, R317, R428). -/
def execSubmitTxCancel (c : Ctx) (d a : Fin 16) (s : State) : Host.Outcome State Fault Refusal := s.submit c 1 d a

/-- SUBMIT subop 0x02: association add (R316, R248). -/
def execSubmitAssocAdd (c : Ctx) (d a : Fin 16) (s : State) : Host.Outcome State Fault Refusal := s.submit c 2 d a

/-- SUBMIT subop 0x03: association drop (R316, R249). -/
def execSubmitAssocDrop (c : Ctx) (d a : Fin 16) (s : State) : Host.Outcome State Fault Refusal := s.submit c 3 d a

/-- SUBMIT subop 0x04: association info (R316, R317). -/
def execSubmitAssocInfo (c : Ctx) (d a : Fin 16) (s : State) : Host.Outcome State Fault Refusal := s.submit c 4 d a

/-- SUBMIT subop 0x05: key load (R316, R392). -/
def execSubmitKeyLoad (c : Ctx) (d a : Fin 16) (s : State) : Host.Outcome State Fault Refusal := s.submit c 5 d a

/-- SUBMIT subop 0x06: key rotate (R316, R390). -/
def execSubmitKeyRotate (c : Ctx) (d a : Fin 16) (s : State) : Host.Outcome State Fault Refusal := s.submit c 6 d a

/-- SUBMIT subop 0x07: expert cipher operation (R316, R393). -/
def execSubmitCipherOp (c : Ctx) (d a : Fin 16) (s : State) : Host.Outcome State Fault Refusal := s.submit c 7 d a

/-- SUBMIT subop 0x08: expert check-value operation (R316, R409). -/
def execSubmitCrcOp (c : Ctx) (d a : Fin 16) (s : State) : Host.Outcome State Fault Refusal := s.submit c 8 d a

/-- SUBMIT subop 0x09: direct trellis decoding (R316, R320). -/
def execSubmitDirectDecode (c : Ctx) (d a : Fin 16) (s : State) : Host.Outcome State Fault Refusal := s.submit c 9 d a

/-- COLLECT d, a, #w (R321). -/
def execCollect (c : Ctx) (d a : Fin 16) (w : Bool) (s : State) : Host.Outcome State Fault Refusal :=
  .next (s.issue c .me true fun s g =>
    match c with
    | .part p b =>
      let tk := (g.reg a).toNat
      match s.collectTake p b tk with
      | some r => .inr { st := r.2.onProg c fun h => h.collected d.val r.1, cyc := 4 }
      | none =>
        if w then .inr { st := s.onProg c fun h => { h with run := .collect d.val tk }, cyc := 4 }
        else .inr { st := s.onProg c fun h => h.collected d.val (0, false, false), cyc := 4 }
    | _ => .inr { st := s })

/-! ## Messages (R322, R323) -/

/-- The message a program's octets spell: class, AUTH, type and tag are the program's (R322, R412). -/
def pushedMsg (o : List Byte) : Msg :=
  { cls := dbgOct o 1 / 32, auth := bit (dbgFld o 2 2) 11, typ := dbgOct o 4, tag := dbgFld o 6 2, body := o.drop 8 }

/-- A context with its open message set: the octets pushed so far; none where the next push opens a new one. -/
def Prog.outSet (g : Prog) (o : Option (List Byte)) : Prog := { g with out := o.getD [], outOpen := o.isSome }

/-- One push: its status and the state. -/
def State.push (s : State) (c : Ctx) (p : Nat) (o : List Byte) (k : Nat) (fin : Bool) : Code × State :=
  let drop := s.onProg c fun g => g.outSet none
  if k < 4 && !fin then (.refusedState, drop)
  else if decide (2048 < o.length) || (fin && decide (o.length < 8)) then (.refusedLength, drop)
  else if !(s.mb p).room o.length || !(s.mb p).wait.isEmpty then
    (.refusedQuota, drop.updMb p fun b => { b with noSpace := true })
  else if fin then (.accepted, drop.commit p (pushedMsg o))
  else (.done, s.onProg c fun g => g.outSet (some o))

/-- MPUSH d, a, #c (R322). -/
def execMpush (c : Ctx) (d a : Fin 16) (fn : BitVec 3) (s : State) : Host.Outcome State Fault Refusal :=
  .next (s.issue c .me true fun s g =>
    match c with
    | .part p _ =>
      let k := fn.toNat % 4 + 1
      let r := s.push c p (g.out ++ octets k (g.reg a).toNat) k (bit fn.toNat 2)
      .inr { st := r.2.onProg c fun h => h.setReg d (BitVec.ofNat 32 r.1.num), cyc := 2 }
    | _ => .inr { st := s })

/-- The head message of a partition as a context's MPOP sees it: during a window only the image that MBOXIMG names
has the mailbox (R353). -/
def State.popHead (s : State) (p : Nat) (imgB : Bool) : Option Msg :=
  if (s.part p).dual.isSome && s.flag (ENG_DUAL_MBOXIMG.at p) ≠ imgB then none else (s.mb p).tq.head?

/-- The head message leaves the mailbox. -/
def State.popMsg (s : State) (p : Nat) : State := (s.updMb p fun b => { b with tq := b.tq.drop 1, taken := 0 }).mbCount p

/-- MPOP d, #c (R323). -/
def execMpop (c : Ctx) (d : Fin 16) (discard : Bool) (s : State) : Host.Outcome State Fault Refusal :=
  .next (s.issue c .me true fun s _ =>
    match c with
    | .part p b =>
      match s.popHead p b with
      | none => .inr { st := s.onProg c fun h => { h.setReg d 0 with c := false, z := false }, cyc := 3 }
      | some m =>
        if discard then .inr { st := (s.popMsg p).onProg c fun h => { h.setReg d 0 with c := true }, cyc := 3 }
        else
          let o := (m.octets p).take m.size
          let at_ := (s.mb p).taken
          let last := decide (m.size ≤ at_ + 4)
          let s := if last then s.popMsg p else s.updMb p fun b => { b with taken := at_ + 4 }
          .inr { st := s.onProg c fun h => { h.setReg d (BitVec.ofNat 32 (ofOctets ((o.drop at_).take 4))) with c := true, z := last }, cyc := 3 }
    | _ => .inr { st := s })

end Sys2Proof.Machine
end

