-- ==== Sys2Proof/Machine/IsaDecode.lean ====
section
/-!
DEFINITION. The encodings of Ihlesque (R295 to R299, R303 to R309, R316, R321 to R324): a word read as the
instruction it stands for, and the word of an instruction; and the command for a word that is none.
-/

namespace Sys2Proof.Machine

/-- The fields of the four formats (R295). -/
def wOp (w : Nat) : Nat := w / 67108864 % 64
def wD (w : Nat) : Fin 16 := Fin.ofNat 16 (w / 4194304)
def wA (w : Nat) : Fin 16 := Fin.ofNat 16 (w / 262144)
def wB (w : Nat) : Fin 16 := Fin.ofNat 16 (w / 16384)
def wFunc (w : Nat) : Nat := w % 16384
def wImm (w : Nat) : BitVec 18 := BitVec.ofNat 18 w
def wOff (w : Nat) : BitVec 22 := BitVec.ofNat 22 w
def wSub (w : Nat) : Nat := w / 4096 % 64
def wLow (w : Nat) : BitVec 12 := BitVec.ofNat 12 w

/-- A word of format A, I, B or X. -/
def encA (op : Nat) (d a b : Fin 16) (f : Nat) : Nat := op * 67108864 + d.val * 4194304 + a.val * 262144 + b.val * 16384 + f
def encI (op : Nat) (d a : Fin 16) (i : BitVec 18) : Nat := op * 67108864 + d.val * 4194304 + a.val * 262144 + i.toNat
def encB (op : Nat) (c : Fin 16) (o : BitVec 22) : Nat := op * 67108864 + c.val * 4194304 + o.toNat
def encX (op : Nat) (d a : Fin 16) (sub low : Nat) : Nat :=
  op * 67108864 + d.val * 4194304 + a.val * 262144 + sub * 4096 + low

/-- An instruction where what its row requires of the other fields holds. -/
def only (b : Bool) (i : Instr) : Option Instr := if b then some i else none

/-- The register ALU group (R298): operation in func[5:0], U in func[6], func[13:7] 0. -/
def decodeAlu (c : Ctx) (w : Nat) : Option Instr :=
  let d := wD w
  let a := wA w
  let b := wB w
  match wFunc w with
  | 0x01 => some (.add c d a b)
  | 0x02 => some (.sub c d a b)
  | 0x03 => some (.andR c d a b)
  | 0x04 => some (.orR c d a b)
  | 0x05 => some (.xorR c d a b)
  | 0x06 => some (.shl c d a b)
  | 0x07 => some (.shr c d a b)
  | 0x08 => some (.sar c d a b)
  | 0x09 => some (.rot c d a b)
  | 0x0A => some (.mul c d a b)
  | 0x0B => some (.mulh c d a b false)
  | 0x4B => some (.mulh c d a b true)
  | 0x0C => some (.div c d a b false)
  | 0x4C => some (.div c d a b true)
  | 0x0D => some (.rem c d a b false)
  | 0x4D => some (.rem c d a b true)
  | 0x0E => only (d = 0) (.cmp c a b)
  | 0x0F => only (d = 0) (.tst c a b)
  | 0x10 => only (b = 0) (.mov c d a)
  | 0x11 => only (b = 0) (.clz c d a)
  | 0x12 => only (b = 0) (.popc c d a)
  | 0x13 => only (b = 0) (.brev c d a)
  | _ => none

/-- The register control group (R308): d and b 0. -/
def decodeCtl (c : Ctx) (w : Nat) : Option Instr :=
  if wD w ≠ 0 || wB w ≠ 0 then none
  else match wFunc w with
  | 1 => some (.jmp c (wA w))
  | 2 => some (.callRegister c (wA w))
  | 3 => only (wA w = 0) (.ret c)
  | _ => none

/-- The system group (R309): fields a row does not name are 0. -/
def decodeSys (c : Ctx) (w : Nat) : Option Instr :=
  let d := wD w
  let a := wA w
  let n := wLow w
  match wSub w with
  | 0x00 => only (d = 0 && a = 0 && n = 0) (.nop c)
  | 0x01 => only (a = 0 && n = 0) (.waite c d)
  | 0x02 => only (d = 0 && n = 0) (.waitt c a)
  | 0x03 => only (d = 0 && a = 0 && waitOk n) (.waittCycles c n)
  | 0x04 => only (d = 0 && a = 0) (.sig c n)
  | 0x05 => only (d = 0 && a = 0 && n = 0) (.yield c)
  | 0x06 => only (d = 0 && a = 0) (.trap c n)
  | 0x07 => only (d = 0 && a = 0) (.bkpt c n)
  | 0x08 => only (a = 0 && mfsOk n) (.mfs c d n)
  | 0x09 => only (d = 0 && mtsOk n) (.mts c a n)
  | _ => none

/-- SUBMIT (R316, R317): the service in subop. -/
def decodeSubmit (c : Ctx) (w : Nat) : Option Instr :=
  let d := wD w
  let a := wA w
  if wLow w ≠ 0 then none
  else match wSub w with
  | 0x00 => some (.submitTransmit c d a)
  | 0x01 => some (.submitTxCancel c d a)
  | 0x02 => some (.submitAssocAdd c d a)
  | 0x03 => some (.submitAssocDrop c d a)
  | 0x04 => some (.submitAssocInfo c d a)
  | 0x05 => some (.submitKeyLoad c d a)
  | 0x06 => some (.submitKeyRotate c d a)
  | 0x07 => some (.submitCipherOp c d a)
  | 0x08 => some (.submitCrcOp c d a)
  | 0x09 => some (.submitDirectDecode c d a)
  | _ => none

/-- The radio group (R324 to R329): fields a row does not name are 0. -/
def decodeRadio (c : Ctx) (w : Nat) : Option Instr :=
  let d := wD w
  let a := wA w
  let n := (wLow w).toNat
  match wSub w with
  | 0x00 => only (decide (n < 3)) (.tune c d a (BitVec.ofNat 2 n))
  | 0x01 => only (decide (n < 16) && rxarmOk (BitVec.ofNat 4 n)) (.rxarm c d a (BitVec.ofNat 4 n))
  | 0x02 => only (a = 0 && n = 0) (.txarm c d)
  | 0x03 => only (a = 0 && decide (n < 2)) (.fire c d (n = 1))
  | 0x04 => only (n = 0) (.lbtq c d a)
  | _ => none

/-- The instruction a word stands for; none for an undefined word (R296, R297). -/
def decodeIh (c : Ctx) (w : Nat) : Option Instr :=
  let d := wD w
  let a := wA w
  let i := wImm w
  match wOp w with
  | 0x00 => decodeAlu c w
  | 0x01 => some (.addImmediate c d a i)
  | 0x02 => some (.subImmediate c d a i)
  | 0x03 => some (.andImmediate c d a i)
  | 0x04 => some (.orImmediate c d a i)
  | 0x05 => some (.xorImmediate c d a i)
  | 0x06 => only (shiftImmOk i) (.shlImmediate c d a i)
  | 0x07 => only (shiftImmOk i) (.shrImmediate c d a i)
  | 0x08 => only (shiftImmOk i) (.sarImmediate c d a i)
  | 0x09 => only (shiftImmOk i) (.rotImmediate c d a i)
  | 0x0A => only (d = 0) (.cmpImmediate c a i)
  | 0x0B => only (d = 0) (.tstImmediate c a i)
  | 0x0C => only (a = 0) (.movi c d i)
  | 0x0D => only (a = 0 && movhiOk i) (.movhi c d i)
  | 0x0E => only (extOk i) (.ext c d a i)
  | 0x0F => only (insOk i) (.ins c d a i)
  | 0x10 => some (.ldb c d a i)
  | 0x11 => some (.ldh c d a i)
  | 0x12 => some (.ldw c d a i)
  | 0x13 => some (.stb c d a i)
  | 0x14 => some (.sth c d a i)
  | 0x15 => some (.stw c d a i)
  | 0x20 => some (.br c d (wOff w))
  | 0x21 => only (d = 0) (.callRelative c (wOff w))
  | 0x22 => decodeCtl c w
  | 0x30 => decodeSys c w
  | 0x31 => decodeSubmit c w
  | 0x32 => only (wSub w = 0 && decide ((wLow w).toNat < 2)) (.collect c d a ((wLow w).toNat = 1))
  | 0x33 => only (wSub w = 0 && decide ((wLow w).toNat < 8)) (.mpush c d a (BitVec.ofNat 3 (wLow w).toNat))
  | 0x34 => only (wSub w = 0 && a = 0 && decide ((wLow w).toNat < 2)) (.mpop c d ((wLow w).toNat = 1))
  | 0x35 => decodeRadio c w
  | _ => none

/-- The word of an instruction; none for a command that is no instruction. -/
def encodeIh (i : Instr) : Option Nat :=
  match i with
  | .add _ d a b => some (encA 0 d a b 0x01)
  | .sub _ d a b => some (encA 0 d a b 0x02)
  | .andR _ d a b => some (encA 0 d a b 0x03)
  | .orR _ d a b => some (encA 0 d a b 0x04)
  | .xorR _ d a b => some (encA 0 d a b 0x05)
  | .shl _ d a b => some (encA 0 d a b 0x06)
  | .shr _ d a b => some (encA 0 d a b 0x07)
  | .sar _ d a b => some (encA 0 d a b 0x08)
  | .rot _ d a b => some (encA 0 d a b 0x09)
  | .mul _ d a b => some (encA 0 d a b 0x0A)
  | .mulh _ d a b u => some (encA 0 d a b (if u then 0x4B else 0x0B))
  | .div _ d a b u => some (encA 0 d a b (if u then 0x4C else 0x0C))
  | .rem _ d a b u => some (encA 0 d a b (if u then 0x4D else 0x0D))
  | .cmp _ a b => some (encA 0 0 a b 0x0E)
  | .tst _ a b => some (encA 0 0 a b 0x0F)
  | .mov _ d a => some (encA 0 d a 0 0x10)
  | .clz _ d a => some (encA 0 d a 0 0x11)
  | .popc _ d a => some (encA 0 d a 0 0x12)
  | .brev _ d a => some (encA 0 d a 0 0x13)
  | .addImmediate _ d a i => some (encI 0x01 d a i)
  | .subImmediate _ d a i => some (encI 0x02 d a i)
  | .andImmediate _ d a i => some (encI 0x03 d a i)
  | .orImmediate _ d a i => some (encI 0x04 d a i)
  | .xorImmediate _ d a i => some (encI 0x05 d a i)
  | .shlImmediate _ d a i => some (encI 0x06 d a i)
  | .shrImmediate _ d a i => some (encI 0x07 d a i)
  | .sarImmediate _ d a i => some (encI 0x08 d a i)
  | .rotImmediate _ d a i => some (encI 0x09 d a i)
  | .cmpImmediate _ a i => some (encI 0x0A 0 a i)
  | .tstImmediate _ a i => some (encI 0x0B 0 a i)
  | .movi _ d i => some (encI 0x0C d 0 i)
  | .movhi _ d i => some (encI 0x0D d 0 i)
  | .ext _ d a i => some (encI 0x0E d a i)
  | .ins _ d a i => some (encI 0x0F d a i)
  | .ldb _ d a i => some (encI 0x10 d a i)
  | .ldh _ d a i => some (encI 0x11 d a i)
  | .ldw _ d a i => some (encI 0x12 d a i)
  | .stb _ d a i => some (encI 0x13 d a i)
  | .sth _ d a i => some (encI 0x14 d a i)
  | .stw _ d a i => some (encI 0x15 d a i)
  | .br _ k o => some (encB 0x20 k o)
  | .callRelative _ o => some (encB 0x21 0 o)
  | .jmp _ a => some (encA 0x22 0 a 0 1)
  | .callRegister _ a => some (encA 0x22 0 a 0 2)
  | .ret _ => some (encA 0x22 0 0 0 3)
  | .nop _ => some (encX 0x30 0 0 0x00 0)
  | .waite _ d => some (encX 0x30 d 0 0x01 0)
  | .waitt _ a => some (encX 0x30 0 a 0x02 0)
  | .waittCycles _ n => some (encX 0x30 0 0 0x03 n.toNat)
  | .sig _ n => some (encX 0x30 0 0 0x04 n.toNat)
  | .yield _ => some (encX 0x30 0 0 0x05 0)
  | .trap _ n => some (encX 0x30 0 0 0x06 n.toNat)
  | .bkpt _ n => some (encX 0x30 0 0 0x07 n.toNat)
  | .mfs _ d n => some (encX 0x30 d 0 0x08 n.toNat)
  | .mts _ a n => some (encX 0x30 0 a 0x09 n.toNat)
  | .submitTransmit _ d a => some (encX 0x31 d a 0x00 0)
  | .submitTxCancel _ d a => some (encX 0x31 d a 0x01 0)
  | .submitAssocAdd _ d a => some (encX 0x31 d a 0x02 0)
  | .submitAssocDrop _ d a => some (encX 0x31 d a 0x03 0)
  | .submitAssocInfo _ d a => some (encX 0x31 d a 0x04 0)
  | .submitKeyLoad _ d a => some (encX 0x31 d a 0x05 0)
  | .submitKeyRotate _ d a => some (encX 0x31 d a 0x06 0)
  | .submitCipherOp _ d a => some (encX 0x31 d a 0x07 0)
  | .submitCrcOp _ d a => some (encX 0x31 d a 0x08 0)
  | .submitDirectDecode _ d a => some (encX 0x31 d a 0x09 0)
  | .collect _ d a w => some (encX 0x32 d a 0 w.toNat)
  | .mpush _ d a f => some (encX 0x33 d a 0 f.toNat)
  | .mpop _ d x => some (encX 0x34 d 0 0 x.toNat)
  | .tune _ d a n => some (encX 0x35 d a 0x00 n.toNat)
  | .rxarm _ d a m => some (encX 0x35 d a 0x01 m.toNat)
  | .txarm _ d => some (encX 0x35 d 0 0x02 0)
  | .fire _ d f => some (encX 0x35 d 0 0x03 f.toNat)
  | .lbtq _ d a => some (encX 0x35 d a 0x04 0)
  | _ => none

/-- The context that executes an instruction; none for a command that is no instruction. -/
def ihCtx (i : Instr) : Option Ctx :=
  match i with
  | .add c _ _ _ => some c
  | .sub c _ _ _ => some c
  | .andR c _ _ _ => some c
  | .orR c _ _ _ => some c
  | .xorR c _ _ _ => some c
  | .shl c _ _ _ => some c
  | .shr c _ _ _ => some c
  | .sar c _ _ _ => some c
  | .rot c _ _ _ => some c
  | .mul c _ _ _ => some c
  | .mulh c _ _ _ _ => some c
  | .div c _ _ _ _ => some c
  | .rem c _ _ _ _ => some c
  | .cmp c _ _ => some c
  | .tst c _ _ => some c
  | .mov c _ _ => some c
  | .clz c _ _ => some c
  | .popc c _ _ => some c
  | .brev c _ _ => some c
  | .addImmediate c _ _ _ => some c
  | .subImmediate c _ _ _ => some c
  | .andImmediate c _ _ _ => some c
  | .orImmediate c _ _ _ => some c
  | .xorImmediate c _ _ _ => some c
  | .shlImmediate c _ _ _ => some c
  | .shrImmediate c _ _ _ => some c
  | .sarImmediate c _ _ _ => some c
  | .rotImmediate c _ _ _ => some c
  | .cmpImmediate c _ _ => some c
  | .tstImmediate c _ _ => some c
  | .movi c _ _ => some c
  | .movhi c _ _ => some c
  | .ext c _ _ _ => some c
  | .ins c _ _ _ => some c
  | .ldb c _ _ _ => some c
  | .ldh c _ _ _ => some c
  | .ldw c _ _ _ => some c
  | .stb c _ _ _ => some c
  | .sth c _ _ _ => some c
  | .stw c _ _ _ => some c
  | .br c _ _ => some c
  | .callRelative c _ => some c
  | .jmp c _ => some c
  | .callRegister c _ => some c
  | .ret c => some c
  | .nop c => some c
  | .waite c _ => some c
  | .waitt c _ => some c
  | .waittCycles c _ => some c
  | .sig c _ => some c
  | .yield c => some c
  | .trap c _ => some c
  | .bkpt c _ => some c
  | .mfs c _ _ => some c
  | .mts c _ _ => some c
  | .submitTransmit c _ _ => some c
  | .submitTxCancel c _ _ => some c
  | .submitAssocAdd c _ _ => some c
  | .submitAssocDrop c _ _ => some c
  | .submitAssocInfo c _ _ => some c
  | .submitKeyLoad c _ _ => some c
  | .submitKeyRotate c _ _ => some c
  | .submitCipherOp c _ _ => some c
  | .submitCrcOp c _ _ => some c
  | .submitDirectDecode c _ _ => some c
  | .collect c _ _ _ => some c
  | .mpush c _ _ _ => some c
  | .mpop c _ _ => some c
  | .tune c _ _ _ => some c
  | .rxarm c _ _ _ => some c
  | .txarm c _ => some c
  | .fire c _ _ => some c
  | .lbtq c _ _ => some c
  | _ => none

/-- The column of R330 of an instruction. -/
def ihAllow (i : Instr) : Allow :=
  match i with
  | .rot _ _ _ _ => .noSmall
  | .rotImmediate _ _ _ _ => .noSmall
  | .clz _ _ _ => .noSmall
  | .popc _ _ _ => .noSmall
  | .brev _ _ _ => .noSmall
  | .mul _ _ _ _ => .noSmall
  | .lbtq _ _ _ => .noSmall
  | .mulh _ _ _ _ _ => .full
  | .div _ _ _ _ _ => .full
  | .rem _ _ _ _ _ => .full
  | .yield _ => .me
  | .trap _ _ => .me
  | .submitTransmit _ _ _ => .me
  | .submitTxCancel _ _ _ => .me
  | .submitAssocAdd _ _ _ => .me
  | .submitAssocDrop _ _ _ => .me
  | .submitAssocInfo _ _ _ => .me
  | .submitKeyLoad _ _ _ => .me
  | .submitKeyRotate _ _ _ => .me
  | .submitCipherOp _ _ _ => .me
  | .submitCrcOp _ _ _ => .me
  | .submitDirectDecode _ _ _ => .me
  | .collect _ _ _ _ => .me
  | .mpush _ _ _ _ => .me
  | .mpop _ _ _ => .me
  | .tune _ _ _ _ => .seqs
  | .rxarm _ _ _ _ => .seqs
  | .txarm _ _ => .seqs
  | .fire _ _ _ => .seqs
  | _ => .all

/-- Whether a context may execute a word: defined, in its profile, with numbers its engine takes (R296, R313, R326, R330). -/
def wordOk (c : Ctx) (w : Nat) : Bool :=
  match decodeIh c w with
  | none => false
  | some i => (ihAllow i).on c &&
    match i with
    | .sig _ n => sigOk c n
    | .rxarm _ _ _ m => rxarmMay c m.toNat
    | _ => true

/-- Whether the word at PC is known: a basic sequence and the factory's supervisor image are no words the spec gives. -/
def State.wordKnown (s : State) (c : Ctx) : Bool :=
  match c with
  | .part _ _ => true
  | .sv => !s.svFactory s.svArea
  | .rsa => !s.flag (Reg.ENG_SEQSTATx_BASICACT 0)
  | .rsb => !s.flag (Reg.ENG_SEQSTATx_BASICACT 1)
  | .ce => decide ((s.sysSlot 4 (s.get Reg.ENG_COLCTL_SLOT)).st = .verified) && !s.flag Reg.ENG_COLCTL_BASIC

/-- ILLEGAL_INSTRUCTION (R296, R334): a context reaches a word it may not execute, or one it cannot fetch; any other
word is executed by its own command. -/
def execIllegalInstruction (c : Ctx) (s : State) : Host.Outcome State Fault Refusal :=
  .next (if !s.mayIssue c then s
  else
    let s' := s.takeTurn c
    let a := (s.prog (ctxNum c)).pc.toNat
    match s'.ctxFetch c a with
    | .inl e => s'.ctxFault c e a
    | .inr (w, _) => if s.wordKnown c && !wordOk c w then s'.ctxFault c .illegal a else s)

end Sys2Proof.Machine
end

