-- ==== Sys2Proof/Machine/HostCmd.lean ====
section
/-!
DEFINITION. The host's messages executed (R417, R418, R426 to R430, R529, R530). Each command executes the
request at the head of a partition's incoming mailbox, where it has the command's type.
-/

namespace Sys2Proof.Machine

open Reg

/-! ## What every request meets (R417, R529, R530) -/

/-- The requests that need SV: images, modes, partitions, regulatory profiles, and a tag to check (R567). DEDUCED -/
def Msg.needsSv (m : Msg) : Bool := m.auth || [0x40, 0x41, 0x62, 0x63, 0x64, 0x65].contains m.typ

/-- Whether the device executes requests now: a run mode, SV running where the request needs it, nothing in execution. -/
def State.hostReady (s : State) (p : Nat) (m : Msg) : Bool :=
  !s.pwr.boot && !s.pwr.held && s.pwr.sleep.isNone && !(s.mb p).busy && !(s.svHalted && m.needsSv)

/-- The request's payload without its tag. -/
def Msg.plainBody (m : Msg) : List Byte := if m.auth then m.body.take (m.body.length - 16) else m.body

/-- Whether the tag of a request with AUTH = 1 verifies (R529). -/
def State.msgTagOk (s : State) (p : Nat) (m : Msg) : Bool :=
  match s.installerKey with
  | none => false
  | some k => decide (Config.cmac k (octets 4 s.authCtr ++ (m.octets p).take (8 + (m.body.length - 16))) = m.body.drop (m.body.length - 16))

/-- A tag that fails (R529): counted and logged; it counts towards AUTHF where TMP_CTL.AUTHMSG says so (R539). -/
def State.msgTagFail (s : State) : State :=
  let s := (s.count TMP_AUTHFAIL_MSG 1).scree 28 0x0317 2 (octets 4 s.authCtr)
  if s.flag TMP_CTL_AUTHMSG then s.authFail else s

/-- The requests P0's host alone may send (R414). -/
def p0Only (typ : Nat) : Bool := decide (0x60 ≤ typ ∧ typ ≤ 0x65)

/-- Whether a request is executed in LOCKDOWN (R430). -/
def lockOk (typ : Nat) : Bool := typ = 0x01 || typ = 0x02 || typ = 0x62

/-- Executing the head of a partition's mailbox, where `is` takes its type: the checks of R417 in order, LOCKDOWN,
the tag; then the type's own outcome `f`. -/
def State.hostRun (s : State) (p : Nat) (is : Nat → Bool) (lenOk : List Byte → Bool) (f : State → Msg → List Byte → State) : State :=
  match (s.mb p).inq with
  | [] => s
  | m :: _ =>
    if !is m.typ || !s.hostReady p m then s
    else if (p0Only m.typ || m.auth) && p ≠ 0 then s.answer p .refusedAccess []
    else if (m.auth && decide (m.body.length < 16)) || !lenOk m.plainBody then s.answer p .refusedLength []
    else if s.pwr.lockdown && !lockOk m.typ then s.answer p .refusedState []
    else if !m.auth then f s m m.plainBody
    else if !s.msgTagOk p m then s.msgTagFail.answer p .authFail []
    else f (s.putAuthCtr (s.authCtr + 1)) m m.plainBody

/-- A request of a type, with a fixed part of `n` octets, answered at once. -/
def State.hostNow (s : State) (p typ n : Nat) (f : State → Msg → List Byte → Code × List Byte × State) : State :=
  s.hostRun p (fun t => t = typ) (fun o => decide (n ≤ o.length)) fun s m o => let r := f s m o; r.2.2.answer p r.1 r.2.1

/-- The head request is in execution and is answered later (R414, R418). -/
def State.hostBusy (s : State) (p : Nat) : State := s.updMb p fun b => { b with busy := true }

/-- A request that shares its layout with a service, answered at once or, where the service takes a time of its own,
by SERVICE_COMPLETE. -/
def State.hostSvc (s : State) (p typ n : Nat) : State :=
  s.hostRun p (fun t => t = typ) (fun o => !svcShort n o) fun s m o =>
    if svcLater typ then (if n = 8 then s.crcReqStart p m.body else s).hostBusy p
    else let r := s.svcRun p n o; r.2.2.answer p r.1 (restFor r.1 r.2.1)

/-! ## Identity, status, counters -/

/-- HELLO (R430). -/
def execHello (p : Fin 32) (s : State) : Host.Outcome State Fault Refusal :=
  .next (s.hostNow p 0x01 0 fun s _ _ =>
    (.done, octets 4 (s.get SYS_ID_PART * 2 ^ 16 + s.get SYS_ID_REVL * 2 ^ 12 + s.get SYS_ID_REVN * 2 ^ 8 + s.get SYS_ID_MAXGEN) ++
      octets 1 (s.get SYS_GEN_GEN) ++ [1] ++ octets 1 p.val ++ octets 1 (s.portOf p) ++ octets 4 (s.sysSlot 0 s.svArea).hdr.version, s))

/-- STATUS (R430). -/
def execStatus (p : Fin 32) (s : State) : Host.Outcome State Fault Refusal :=
  .next (s.hostNow p 0x02 0 fun s _ _ => (.done, s.statusBody p, s))

/-- RESYNC (R421): the response is not a stored one. -/
def execResync (p : Fin 32) (s : State) : Host.Outcome State Fault Refusal :=
  .next (s.hostRun p (fun t => t = 0x08) (fun o => decide (1 ≤ o.length)) fun s _ o =>
    let last := fld o 0 1
    let s := (s.set (HIF_PALIVE_INLAST.at p) last).updMb p fun b => { b with stored := none }
    s.answer p .done (octets 1 last ++ octets 1 (s.get (HIF_PALIVE_OUTNEXT.at p))) true)

/-! ## Registers (R18, R430, R530) -/

/-- Who acts for a partition's host agent through its own view. -/
def hostWho (p : Nat) (auth : Bool) : Who := { tag := p, as := p, bank := p, auth := auth }

/-- Whether a partition's view holds a register at an address, for a read or a write (R17, R430). -/
def viewMay (p : Nat) (write : Bool) (a : Nat) : Bool := inRegs a && a % 4 = 0 && regMay p write a

/-- CFG_GET (R430). -/
def execCfgGet (p : Fin 32) (s : State) : Host.Outcome State Fault Refusal :=
  .next (s.hostNow p 0x10 4 fun s m o =>
    if viewMay p false (fld o 0 4) then
      let r := s.regRead (hostWho p m.auth) (fld o 0 4)
      (.done, octets 4 r.1, r.2)
    else (.refusedAccess, [], s))

/-- CFG_SET (R430). -/
def execCfgSet (p : Fin 32) (s : State) : Host.Outcome State Fault Refusal :=
  .next (s.hostNow p 0x11 8 fun s m o =>
    if viewMay p true (fld o 0 4) then (.done, [], s.regWrite (hostWho p m.auth) (fld o 0 4) (fld o 4 4)) else (.refusedAccess, [], s))

/-- Whether reg-read or reg-write reaches an address (R18). -/
def hostMay (write : Bool) (a : Nat) : Bool :=
  inRegs a && a % 4 = 0 &&
    match findReg a with
    | none => true
    | some (d, _, _) => match d.owner with
      | .sv => false
      | .anyRo => !write
      | _ => true

/-- REG_READ (R18, R430): every word is checked before any is read. -/
def execRegRead (p : Fin 32) (s : State) : Host.Outcome State Fault Refusal :=
  .next (s.hostNow p 0x60 5 fun s m o =>
    let a := fld o 0 4
    let n := fld o 4 1
    if n = 0 || decide (64 < n) then (.refusedLength, [], s)
    else if !((List.range n).all fun i => hostMay false (a + 4 * i)) then (.refusedAccess, [], s)
    else
      let r := (List.range n).foldl (fun (r : List Byte × State) i =>
        let x := r.2.regRead (Who.host m.auth) (a + 4 * i)
        (r.1 ++ octets 4 x.1, x.2)) ([], s)
      (.done, r.1, r.2))

/-- A reg-write: one that needs authority and does not carry it is refused (R530), a generation's also in GENREJ (R582). -/
def State.hostWrite (s : State) (auth : Bool) (a v : Nat) : Code × State :=
  let was := s.get TMP_LCSTAT_AUTHREJ
  let t := (s.set TMP_LCSTAT_AUTHREJ 0).regWrite (Who.host auth) a v
  if auth then (.done, s.regWrite (Who.host auth) a v)
  else if t.flag TMP_LCSTAT_AUTHREJ then (.refusedAccess, s.sets [(TMP_LCSTAT_AUTHREJ, 1), (SYS_RSTCTL_GENREJ, t.get SYS_RSTCTL_GENREJ)])
  else (.done, t.set TMP_LCSTAT_AUTHREJ was)

/-- REG_WRITE (R18, R430, R530). -/
def execRegWrite (p : Fin 32) (s : State) : Host.Outcome State Fault Refusal :=
  .next (s.hostNow p 0x61 8 fun s m o =>
    if hostMay true (fld o 0 4) then let r := s.hostWrite m.auth (fld o 0 4) (fld o 4 4); (r.1, [], r.2) else (.refusedAccess, [], s))

/-! ## Frames and associations (R426 to R430) -/

/-- TX_SUBMIT (R426, R427, R23 step 1). -/
def execTxSubmit (p : Fin 32) (s : State) : Host.Outcome State Fault Refusal :=
  .next (s.hostRun p (fun t => t = 0x20) (fun o => decide (24 ≤ o.length) && o.length = 24 + fld o 6 2) fun s _ o =>
    match s.subJudge p false true o with
    | .inl (c, r23) => (if r23 then s.raise p .txRefused else s).answer p c []
    | .inr t =>
      let r := s.takeTicket p
      (r.2.txAdd { t with tk := r.1 }).answer p .accepted (octets 2 r.1))

/-- TX_CANCEL (R428). -/
def execTxCancel (p : Fin 32) (s : State) : Host.Outcome State Fault Refusal := .next (s.hostSvc p 0x21 1)

/-- The answer of assoc-list from a local index on: up to 338 entries that are not FREE (R430). -/
def State.assocList (s : State) (p first : Nat) : List Byte :=
  let l := (s.entsOf p).filter fun li => decide (first ≤ li)
  let now := l.take 338
  octets 2 now.length ++ octets 2 ((l.drop 338).headD 0xFFFF) ++
    now.flatMap fun li => octets 2 li ++ octets 2 (s.entSaddr (s.entOf p li)) ++ octets 2 (s.ent (s.entOf p li) 34 2)

/-- ASSOC_LIST (R430). -/
def execAssocList (p : Fin 32) (s : State) : Host.Outcome State Fault Refusal :=
  .next (s.hostNow p 0x30 2 fun s _ o => (.done, s.assocList p (fld o 0 2), s))

/-- ASSOC_ADD (R248). -/
def execAssocAdd (p : Fin 32) (s : State) : Host.Outcome State Fault Refusal := .next (s.hostSvc p 0x31 2)

/-- ASSOC_DROP (R249). -/
def execAssocDrop (p : Fin 32) (s : State) : Host.Outcome State Fault Refusal := .next (s.hostSvc p 0x32 3)

/-- ASSOC_INFO (R430). -/
def execAssocInfo (p : Fin 32) (s : State) : Host.Outcome State Fault Refusal := .next (s.hostSvc p 0x33 4)

/-! ## Keys and expert operations (R390 to R394, R409) -/

/-- KEY_LOAD (R392). -/
def execKeyLoad (p : Fin 32) (s : State) : Host.Outcome State Fault Refusal := .next (s.hostSvc p 0x38 5)

/-- KEY_ROTATE (R390). -/
def execKeyRotate (p : Fin 32) (s : State) : Host.Outcome State Fault Refusal := .next (s.hostSvc p 0x39 6)

/-- CRC_OP (R409). -/
def execCrcOp (p : Fin 32) (s : State) : Host.Outcome State Fault Refusal := .next (s.hostSvc p 0x50 8)

/-- CIPHER_OP (R393). -/
def execCipherOp (p : Fin 32) (s : State) : Host.Outcome State Fault Refusal := .next (s.hostSvc p 0x51 7)

/-! ## Images (R347 to R349, R360) -/

/-- Whether the lengths of an image-load agree (R347, R430). -/
def chunkOk (o : List Byte) : Bool :=
  let n := fld o 6 2
  decide (8 ≤ o.length) && o.length = 8 + n && n % 16 = 0 && decide (16 ≤ n ∧ n ≤ 2032)

/-- IMAGE_LOAD (R347): with LAST the verification answers. -/
def execImageLoad (p : Fin 32) (s : State) : Host.Outcome State Fault Refusal :=
  .next (s.hostRun p (fun t => t = 0x40) chunkOk fun s _ o =>
    let kind := fld o 4 1
    let fl := fld o 5 1
    if decide (4 < kind) || decide (1 < fl) then s.answer p .refusedState []
    else
      let r := s.stage p kind p (fld o 0 4) (o.drop 8) (fl = 1) true false
      match r.1 with
      | some c => r.2.answer p c []
      | none => r.2.hostBusy p)

/-- IMAGE_ACTIVATE (R349, R360). -/
def execImageActivate (p : Fin 32) (s : State) : Host.Outcome State Fault Refusal :=
  .next (s.hostNow p 0x41 5 fun s _ o =>
    match fld o 0 1 with
    | 0 => let r := s.imageAct p (fld o 1 1) (fld o 2 2) (bit (fld o 4 1) 0); (r.1, [], r.2)
    | 1 => if p ≠ 0 then (.refusedAccess, [], s) else let r := s.svAct (fld o 1 1); (r.1, [], r.2)
    | _ => (.refusedState, [], s))

/-! ## Events (R277, R430) -/

/-- The host-side events of a partition that are pending and enabled. -/
def State.hostEvents (s : State) (p : Nat) : Nat := s.get (PEC_HPEND_HPEND.at p) &&& s.get (PEC_HEN_HEN.at p)

/-- EVT_SUMMARY (R430). -/
def execEvtSummary (p : Fin 32) (s : State) : Host.Outcome State Fault Refusal :=
  .next (s.hostNow p 0x48 0 fun s _ _ =>
    let x := s.portOf p
    let mask := fun (f : Nat → Bool) => ((s.live.filter fun q => s.portOf q = x && f q).map fun q => 2 ^ q).sum
    (.done, octets 4 (mask fun q => s.hostEvents q ≠ 0) ++ octets 4 (mask fun q => (s.port x).offer = some q) ++ octets 4 (s.hostEvents p), s))

/-- EVT_ACK (R277, R430). -/
def execEvtAck (p : Fin 32) (s : State) : Host.Outcome State Fault Refusal :=
  .next (s.hostNow p 0x49 4 fun s _ o =>
    let h := s.get (PEC_HPEND_HPEND.at p)
    let s := s.set (PEC_HPEND_HPEND.at p) (h - (h &&& fld o 0 4))
    (.done, octets 4 (s.get (PEC_HPEND_HPEND.at p)), s))

/-! ## Requests of P0's host -/

/-- MODE_REQUEST (R458). -/
def execModeRequest (p : Fin 32) (s : State) : Host.Outcome State Fault Refusal :=
  .next (s.hostNow p 0x62 8 fun s m o =>
    if fld o 1 3 ≠ 0 then (.refusedState, [], s) else let r := s.modeRequest (fld o 0 1) (fld o 4 4) m.auth true; (r.1, [], r.2))

/-- PARTITION_CREATE (R266): it waits while a creation or PURGE is in progress. -/
def execPartitionCreate (p : Fin 32) (s : State) : Host.Outcome State Fault Refusal :=
  .next (s.hostRun p (fun t => t = 0x63 && s.creation.isNone) (fun o => decide (64 ≤ o.length)) fun s _ o =>
    (s.createReq (some (o.take 64)) false).hostBusy p)

/-- PARTITION_PURGE (R273). -/
def execPartitionPurge (p : Fin 32) (s : State) : Host.Outcome State Fault Refusal :=
  .next (s.hostRun p (fun t => t = 0x64 && s.creation.isNone) (fun o => decide (1 ≤ o.length)) fun s _ o =>
    (s.purgeReq (fld o 0 1) false).hostBusy p)

/-- REGULATORY_LOAD (R209): an image in the message is copied to its address first. A load in progress refuses it. -/
def execRegulatoryLoad (p : Fin 32) (s : State) : Host.Outcome State Fault Refusal :=
  .next (s.hostRun p (fun t => t = 0x65) (fun o => decide (4 ≤ o.length)) fun s _ o =>
    let a := fld o 0 4
    let im := o.drop 4
    if s.air.load.isSome then ((s.regLoad a false true).answer p .refusedState [])
    else
      let s := if s.inPkt 0 a im.length then s.winStore 0 a im else s
      (s.regLoad a false true).hostBusy p)

/-! ## Tenant types (R415) -/

/-- TENANT_REQUEST (R415): the message is the program's to take; EV_MBOX_IN in the image that has the mailbox (R353). -/
def execTenantRequest (p : Fin 32) (s : State) : Host.Outcome State Fault Refusal :=
  .next (s.hostRun p (fun t => decide (0x80 ≤ t)) (fun _ => true) fun s m _ =>
    let s := s.updMb p fun b => { b with tq := b.tq ++ [m] }
    let s := s.popIn p
    s.raiseImg p ((s.part p).dual.isSome && s.flag (ENG_DUAL_MBOXIMG.at p)) .mboxIn)

end Sys2Proof.Machine
end

