-- ==== Sys2Proof/Machine/IsaAlu.lean ====
section
/-!
DEFINITION. The arithmetic and logical instructions (R298 to R303, R306 to R308): register and immediate
forms, bit fields, branches and jumps.
-/

namespace Sys2Proof.Machine

/-- An operation on two values, its result to d. -/
def State.opD (s : State) (c : Ctx) (d : Fin 16) (cyc : Nat) (r : Prog → Word × Flg) : Eff :=
  .inr { st := s.onProg c fun g => g.write d (r g), cyc := cyc }

/-- An operation that sets flags alone (CMP, TST). -/
def State.opF (s : State) (c : Ctx) (r : Prog → Word × Flg) : Eff :=
  .inr { st := s.onProg c fun g => g.withFlags (r g).2 }

/-- A register form of the ALU group. -/
def State.aluReg (s : State) (c : Ctx) (al : Allow) (cyc : Nat) (d a b : Fin 16) (op : Word → Word → Word × Flg) :
    Host.Outcome State Fault Refusal :=
  .next (s.issue c al true fun s _ => s.opD c d cyc fun g => op (g.reg a) (g.reg b))

/-- A form with one source. -/
def State.aluOne (s : State) (c : Ctx) (al : Allow) (d a : Fin 16) (op : Word → Word × Flg) : Host.Outcome State Fault Refusal :=
  .next (s.issue c al true fun s _ => s.opD c d 1 fun g => op (g.reg a))

/-- An immediate form: `b` in place of the register. -/
def State.aluImm (s : State) (c : Ctx) (al : Allow) (legal : Bool) (d a : Fin 16) (b : Word) (op : Word → Word → Word × Flg) :
    Host.Outcome State Fault Refusal :=
  .next (s.issue c al legal fun s _ => s.opD c d 1 fun g => op (g.reg a) b)

/-- MUL takes 2 cycles in the Full profile, 1 in the Timed one (R331). -/
def mulCyc (c : Ctx) : Nat := if ctxFull c then 2 else 1

/-- ADD d, a, b (R298). -/
def execAdd (c : Ctx) (d a b : Fin 16) (s : State) : Host.Outcome State Fault Refusal :=
  s.aluReg c .all 1 d a b aluAdd

/-- SUB d, a, b (R298). -/
def execSub (c : Ctx) (d a b : Fin 16) (s : State) : Host.Outcome State Fault Refusal :=
  s.aluReg c .all 1 d a b aluSub

/-- AND d, a, b (R298). -/
def execAndR (c : Ctx) (d a b : Fin 16) (s : State) : Host.Outcome State Fault Refusal :=
  s.aluReg c .all 1 d a b aluAnd

/-- OR d, a, b (R298). -/
def execOrR (c : Ctx) (d a b : Fin 16) (s : State) : Host.Outcome State Fault Refusal :=
  s.aluReg c .all 1 d a b aluOr

/-- XOR d, a, b (R298). -/
def execXorR (c : Ctx) (d a b : Fin 16) (s : State) : Host.Outcome State Fault Refusal :=
  s.aluReg c .all 1 d a b aluXor

/-- SHL d, a, b (R298, R301). -/
def execShl (c : Ctx) (d a b : Fin 16) (s : State) : Host.Outcome State Fault Refusal :=
  s.aluReg c .all 1 d a b aluShl

/-- SHR d, a, b (R298, R301). -/
def execShr (c : Ctx) (d a b : Fin 16) (s : State) : Host.Outcome State Fault Refusal :=
  s.aluReg c .all 1 d a b aluShr

/-- SAR d, a, b (R298, R301). -/
def execSar (c : Ctx) (d a b : Fin 16) (s : State) : Host.Outcome State Fault Refusal :=
  s.aluReg c .all 1 d a b aluSar

/-- ROT d, a, b (R298, R301). -/
def execRot (c : Ctx) (d a b : Fin 16) (s : State) : Host.Outcome State Fault Refusal :=
  s.aluReg c .noSmall 1 d a b aluRot

/-- MUL d, a, b (R298). -/
def execMul (c : Ctx) (d a b : Fin 16) (s : State) : Host.Outcome State Fault Refusal :=
  s.aluReg c .noSmall (mulCyc c) d a b aluMul

/-- MULH d, a, b (R298). -/
def execMulh (c : Ctx) (d a b : Fin 16) (u : Bool) (s : State) : Host.Outcome State Fault Refusal :=
  s.aluReg c .full 2 d a b (aluMulh u)

/-- DIV d, a, b (R298, R302). -/
def execDiv (c : Ctx) (d a b : Fin 16) (u : Bool) (s : State) : Host.Outcome State Fault Refusal :=
  s.aluReg c .full 18 d a b (aluDiv u)

/-- REM d, a, b (R298, R302). -/
def execRem (c : Ctx) (d a b : Fin 16) (u : Bool) (s : State) : Host.Outcome State Fault Refusal :=
  s.aluReg c .full 18 d a b (aluRem u)

/-- CMP a, b (R298, R300). -/
def execCmp (c : Ctx) (a b : Fin 16) (s : State) : Host.Outcome State Fault Refusal :=
  .next (s.issue c .all true fun s _ => s.opF c fun g => aluSub (g.reg a) (g.reg b))

/-- TST a, b (R298, R300). -/
def execTst (c : Ctx) (a b : Fin 16) (s : State) : Host.Outcome State Fault Refusal :=
  .next (s.issue c .all true fun s _ => s.opF c fun g => aluAnd (g.reg a) (g.reg b))

/-- MOV d, a (R298): no flag changes. -/
def execMov (c : Ctx) (d a : Fin 16) (s : State) : Host.Outcome State Fault Refusal :=
  s.aluOne c .all d a fun x => (x, {})

/-- CLZ d, a (R298). -/
def execClz (c : Ctx) (d a : Fin 16) (s : State) : Host.Outcome State Fault Refusal :=
  s.aluOne c .noSmall d a aluClz

/-- POPC d, a (R298). -/
def execPopc (c : Ctx) (d a : Fin 16) (s : State) : Host.Outcome State Fault Refusal :=
  s.aluOne c .noSmall d a aluPopc

/-- BREV d, a (R298). -/
def execBrev (c : Ctx) (d a : Fin 16) (s : State) : Host.Outcome State Fault Refusal :=
  s.aluOne c .noSmall d a aluBrev

/-- ADD d, a, #i (R299). -/
def execAddImmediate (c : Ctx) (d a : Fin 16) (imm : BitVec 18) (s : State) : Host.Outcome State Fault Refusal :=
  s.aluImm c .all true d a (sx18 imm) aluAdd

/-- SUB d, a, #i (R299). -/
def execSubImmediate (c : Ctx) (d a : Fin 16) (imm : BitVec 18) (s : State) : Host.Outcome State Fault Refusal :=
  s.aluImm c .all true d a (sx18 imm) aluSub

/-- AND d, a, #i (R299). -/
def execAndImmediate (c : Ctx) (d a : Fin 16) (imm : BitVec 18) (s : State) : Host.Outcome State Fault Refusal :=
  s.aluImm c .all true d a (zx18 imm) aluAnd

/-- OR d, a, #i (R299). -/
def execOrImmediate (c : Ctx) (d a : Fin 16) (imm : BitVec 18) (s : State) : Host.Outcome State Fault Refusal :=
  s.aluImm c .all true d a (zx18 imm) aluOr

/-- XOR d, a, #i (R299). -/
def execXorImmediate (c : Ctx) (d a : Fin 16) (imm : BitVec 18) (s : State) : Host.Outcome State Fault Refusal :=
  s.aluImm c .all true d a (zx18 imm) aluXor

/-- SHL d, a, #s (R299, R301). -/
def execShlImmediate (c : Ctx) (d a : Fin 16) (imm : BitVec 18) (s : State) : Host.Outcome State Fault Refusal :=
  s.aluImm c .all (shiftImmOk imm) d a (zx18 imm) aluShl

/-- SHR d, a, #s (R299, R301). -/
def execShrImmediate (c : Ctx) (d a : Fin 16) (imm : BitVec 18) (s : State) : Host.Outcome State Fault Refusal :=
  s.aluImm c .all (shiftImmOk imm) d a (zx18 imm) aluShr

/-- SAR d, a, #s (R299, R301). -/
def execSarImmediate (c : Ctx) (d a : Fin 16) (imm : BitVec 18) (s : State) : Host.Outcome State Fault Refusal :=
  s.aluImm c .all (shiftImmOk imm) d a (zx18 imm) aluSar

/-- ROT d, a, #s (R299, R301). -/
def execRotImmediate (c : Ctx) (d a : Fin 16) (imm : BitVec 18) (s : State) : Host.Outcome State Fault Refusal :=
  s.aluImm c .noSmall (shiftImmOk imm) d a (zx18 imm) aluRot

/-- CMP a, #i (R299, R300). -/
def execCmpImmediate (c : Ctx) (a : Fin 16) (imm : BitVec 18) (s : State) : Host.Outcome State Fault Refusal :=
  .next (s.issue c .all true fun s _ => s.opF c fun g => aluSub (g.reg a) (sx18 imm))

/-- TST a, #i (R299, R300). -/
def execTstImmediate (c : Ctx) (a : Fin 16) (imm : BitVec 18) (s : State) : Host.Outcome State Fault Refusal :=
  .next (s.issue c .all true fun s _ => s.opF c fun g => aluAnd (g.reg a) (zx18 imm))

/-- MOVI d, #i (R299). -/
def execMovi (c : Ctx) (d : Fin 16) (imm : BitVec 18) (s : State) : Host.Outcome State Fault Refusal :=
  .next (s.issue c .all true fun s _ => s.opD c d 1 fun _ => (sx18 imm, {}))

/-- MOVHI d, #i (R299). -/
def execMovhi (c : Ctx) (d : Fin 16) (imm : BitVec 18) (s : State) : Host.Outcome State Fault Refusal :=
  .next (s.issue c .all (movhiOk imm) fun s _ => s.opD c d 1 fun g => (movhiWord (g.reg d) imm, {}))

/-- EXT d, a, #pos, #w[, SX] (R303). -/
def execExt (c : Ctx) (d a : Fin 16) (imm : BitVec 18) (s : State) : Host.Outcome State Fault Refusal :=
  .next (s.issue c .all (extOk imm) fun s _ => s.opD c d 1 fun g => aluExt (g.reg a) (fldPos imm) (fldW imm) (fldSx imm))

/-- INS d, a, #pos, #w (R303). -/
def execIns (c : Ctx) (d a : Fin 16) (imm : BitVec 18) (s : State) : Host.Outcome State Fault Refusal :=
  .next (s.issue c .all (insOk imm) fun s _ => s.opD c d 1 fun g => aluIns (g.reg d) (g.reg a) (fldPos imm) (fldW imm))

/-! ## Control flow (R306 to R308) -/

/-- A taken branch or jump: 2 cycles, 1 in the Timed profile (R331). -/
def takenCyc (c : Ctx) : Nat := if ctxTimed c then 1 else 2

/-- A jump to a register's address: FAULT_ALIGN where it is no multiple of 4 (R308). -/
def jumpTo (s : State) (c : Ctx) (t : Word) : Eff :=
  if t.toNat % 4 ≠ 0 then .inl (.align, t.toNat) else .inr { st := s, dest := some t, cyc := takenCyc c }

/-- BR cond, target (R306, R307). -/
def execBr (c : Ctx) (cond : Fin 16) (off : BitVec 22) (s : State) : Host.Outcome State Fault Refusal :=
  .next (s.issue c .all true fun s g =>
    .inr (if g.cond cond then { st := s, dest := some (g.rel off), cyc := takenCyc c } else { st := s }))

/-- CALL target (R306). -/
def execCallRelative (c : Ctx) (off : BitVec 22) (s : State) : Host.Outcome State Fault Refusal :=
  .next (s.issue c .all true fun s g =>
    .inr { st := s.onProg c fun h => h.setReg 15 (h.pc + 4), dest := some (g.rel off), cyc := takenCyc c })

/-- JMP a (R308). -/
def execJmp (c : Ctx) (a : Fin 16) (s : State) : Host.Outcome State Fault Refusal :=
  .next (s.issue c .all true fun s g => jumpTo s c (g.reg a))

/-- CALL a (R308): the target is read before g15 is written. -/
def execCallRegister (c : Ctx) (a : Fin 16) (s : State) : Host.Outcome State Fault Refusal :=
  .next (s.issue c .all true fun s g => jumpTo (s.onProg c fun h => h.setReg 15 (h.pc + 4)) c (g.reg a))

/-- RET (R308). -/
def execRet (c : Ctx) (s : State) : Host.Outcome State Fault Refusal :=
  .next (s.issue c .all true fun s g => jumpTo s c (g.reg 15))

end Sys2Proof.Machine
end

