-- ==== Sys2Proof/Machine/IsaMem.lean ====
section
/-!
DEFINITION. Loads and stores (R304, R305).
-/

namespace Sys2Proof.Machine

/-- The cycles of a load (R331). Of SV's own map the table names no rows; the counts of the partition's windows
on the same memories are taken. -/
def State.loadCyc (s : State) (c : Ctx) (x : Nat) : Nat × State :=
  if ctxTimed c then (1, s)
  else if ctxSmall c then (2, s)
  else if inRegs x then s.cycIn 4 12
  else if x < 0x20000000 then (2, s)
  else s.cycIn 3 12

/-- The cycles of a store (R331). -/
def State.storeCyc (s : State) (c : Ctx) (x : Nat) : Nat × State :=
  if !ctxFull c || decide (x < 0x20000000) then (1, s) else s.cycIn 2 12

/-- A load of `n` octets into d. -/
def State.load (s : State) (c : Ctx) (n : Nat) (d a : Fin 16) (imm : BitVec 18) : Host.Outcome State Fault Refusal :=
  .next (s.issue c .all true fun s g =>
    let x := g.ea a imm
    match s.ctxLoad c x n with
    | .inl e => .inl (e, x)
    | .inr (v, s) =>
      let r := s.loadCyc c x
      .inr { st := r.2.onProg c fun h => h.setReg d (BitVec.ofNat 32 v), cyc := r.1, touch := some (x, n, false) })

/-- A store of the low `n` octets of d. -/
def State.stores (s : State) (c : Ctx) (n : Nat) (d a : Fin 16) (imm : BitVec 18) : Host.Outcome State Fault Refusal :=
  .next (s.issue c .all true fun s g =>
    let x := g.ea a imm
    match s.ctxStore c x n ((g.reg d).toNat % 256 ^ n) with
    | .inl e => .inl (e, x)
    | .inr s =>
      let r := s.storeCyc c x
      .inr { st := r.2, cyc := r.1, touch := some (x, n, true) })

/-- LDB d, [a, #i] (R304). -/
def execLdb (c : Ctx) (d a : Fin 16) (imm : BitVec 18) (s : State) : Host.Outcome State Fault Refusal :=
  s.load c 1 d a imm

/-- LDH d, [a, #i] (R304). -/
def execLdh (c : Ctx) (d a : Fin 16) (imm : BitVec 18) (s : State) : Host.Outcome State Fault Refusal :=
  s.load c 2 d a imm

/-- LDW d, [a, #i] (R304). -/
def execLdw (c : Ctx) (d a : Fin 16) (imm : BitVec 18) (s : State) : Host.Outcome State Fault Refusal :=
  s.load c 4 d a imm

/-- STB d, [a, #i] (R304). -/
def execStb (c : Ctx) (d a : Fin 16) (imm : BitVec 18) (s : State) : Host.Outcome State Fault Refusal :=
  s.stores c 1 d a imm

/-- STH d, [a, #i] (R304). -/
def execSth (c : Ctx) (d a : Fin 16) (imm : BitVec 18) (s : State) : Host.Outcome State Fault Refusal :=
  s.stores c 2 d a imm

/-- STW d, [a, #i] (R304). -/
def execStw (c : Ctx) (d a : Fin 16) (imm : BitVec 18) (s : State) : Host.Outcome State Fault Refusal :=
  s.stores c 4 d a imm

end Sys2Proof.Machine
end

