-- ==== Sys2Proof/Machine/Pins.lean ====
section
/-!
DEFINITION. The output pins (R592, R594, R595, R499): what the block drives each to, as a function of its state between
two commands.
-/

namespace Sys2Proof.Machine

open Reg

/-- The pins the block can drive (R592). -/
inductive Pin where
  | fem (i : Fin 3)
  | trsw
  | gp (n : Fin 8)
  | hirqA
  | hirqB
  | uartTxd
  | uartDe
  | spiSdo
  | dbgIo
  | clkOut
  | tamperOut
  deriving DecidableEq, Repr

/-- What a pin carries: a level, a clock of the XO divided by a number, the characters or octets of its port, or nothing the
block drives. -/
inductive Drive where
  | level (b : Bool)
  | clock (div : Nat)
  | data
  | off
  deriving DecidableEq, Repr

/-- A level or nothing. -/
def Drive.of : Option Bool → Drive
  | some b => .level b
  | none => .off

/-- CLKOUT (R35, R36): low while the XO is not in RUN and in the sleep modes. -/
def State.clkOut (s : State) : Drive :=
  if s.clk.xo ≠ .run || s.pwr.sleep.isSome then .level false
  else if !s.flag CLK_OUT_EN then .off
  else .clock ([1, 2, 4, 8, 32].getD (s.get CLK_OUT_DIV) 1)

/-- A pin outside a latch (R594, R595). The serial lines are shown between two transactions: SPI_SDO and DBG_IO are then not
driven; UART_TXD carries what its transmitter sends. -/
def State.pinFree (s : State) (p : Pin) : Drive :=
  let reset := s.pwr.held || s.pwr.boot
  let radio := fun i => if reset then .level false else .level (s.femPins.testBit i)
  match p with
  | .fem i => radio i
  | .trsw => radio 3
  | .gp n => if reset then .off else .of (s.gpcDrive n)
  | .hirqA => if reset then .off else .of (s.hirqDrive 0)
  | .hirqB => if reset then .off else .of (s.hirqDrive 1)
  | .uartTxd => if reset then .off else if s.flag UART_STAT_TXBUSY then .data else .level true
  | .uartDe => if reset then .off else .level (s.flag UART_STAT_DEACT)
  | .spiSdo => .off
  | .dbgIo => .off
  | .clkOut => s.clkOut
  | .tamperOut => .level true

/-- What a pin is driven to (R499, R594, R595): SV's pads and the GP pins as latched, the others as their mode has them; no
DIO pad while VDDIO is below 1.45 V. -/
def State.pinDrive (s : State) (p : Pin) : Drive :=
  if p = .tamperOut then .level true
  else if !s.pwr.vddio then .off
  else match p with
  | .gp n => if s.ret.pads.contains n.val then .of (s.gpDrive n) else s.pinFree p
  | _ =>
    if !s.ret.padSv then s.pinFree p
    else match p with
    | .fem i => .level (s.femPins.testBit i)
    | .trsw => .level (s.femPins.testBit 3)
    | .hirqA => .of (s.ret.padDrv.getD 8 none)
    | .hirqB => .of (s.ret.padDrv.getD 9 none)
    | .uartTxd => .level true
    | .uartDe => .level false
    | .clkOut => .level false
    | _ => .off

end Sys2Proof.Machine
end

