-- ==== Sys2Proof/Machine/Dispatch.lean ====
section
/-!
DEFINITION. One arm per command (spec/opcode_table.json): a direct call of its meaning.
-/

namespace Sys2Proof.Machine

/-- What a command does to everything but the queue of waiting commands. -/
def exec (i : Instr) (s : State) : Host.Outcome State Fault Refusal :=
  match i with
  | .registerWrite tag bank addr w => Sys2Proof.Machine.execRegisterWrite tag bank addr w s
  | .pktEnableWrite en => Sys2Proof.Machine.execPktEnableWrite en s
  | .airEnableWrite en => Sys2Proof.Machine.execAirEnableWrite en s
  | .ascEnableWrite en => Sys2Proof.Machine.execAscEnableWrite en s
  | .keyEnableWrite en => Sys2Proof.Machine.execKeyEnableWrite en s
  | .xoStartDone => Sys2Proof.Machine.execXoStartDone s
  | .xoClockFault pre => Sys2Proof.Machine.execXoClockFault pre s
  | .systemPllLoss => Sys2Proof.Machine.execSystemPllLoss s
  | .relockAttempt => Sys2Proof.Machine.execRelockAttempt s
  | .relockRecalibrationEnd locked => Sys2Proof.Machine.execRelockRecalibrationEnd locked s
  | .relockHoldEnd held => Sys2Proof.Machine.execRelockHoldEnd held s
  | .fallbackExit => Sys2Proof.Machine.execFallbackExit s
  | .forceFallback => Sys2Proof.Machine.execForceFallback s
  | .ticklRead tag imgB => Sys2Proof.Machine.execTicklRead tag imgB s
  | .timebaseSetWrite w => Sys2Proof.Machine.execTimebaseSetWrite w s
  | .timebaseAdjustWrite w => Sys2Proof.Machine.execTimebaseAdjustWrite w s
  | .phaseStepWrite w => Sys2Proof.Machine.execPhaseStepWrite w s
  | .tickBoundaryApply => Sys2Proof.Machine.execTickBoundaryApply s
  | .phaseStep => Sys2Proof.Machine.execPhaseStep s
  | .timerCompareCommit p n w => Sys2Proof.Machine.execTimerCompareCommit p n w s
  | .timerExpiry p n => Sys2Proof.Machine.execTimerExpiry p n s
  | .tickOutPulse => Sys2Proof.Machine.execTickOutPulse s
  | .tickOutPulseEnd => Sys2Proof.Machine.execTickOutPulseEnd s
  | .frequencyCommand x w => Sys2Proof.Machine.execFrequencyCommand x w s
  | .synthEnableWrite x en => Sys2Proof.Machine.execSynthEnableWrite x en s
  | .synthLock x => Sys2Proof.Machine.execSynthLock x s
  | .synthLockLoss x => Sys2Proof.Machine.execSynthLockLoss x s
  | .synthReacquireEnd x => Sys2Proof.Machine.execSynthReacquireEnd x s
  | .synthLockFail x => Sys2Proof.Machine.execSynthLockFail x s
  | .syntCalStepStart dur => Sys2Proof.Machine.execSyntCalStepStart dur s
  | .syntCalStepEnd => Sys2Proof.Machine.execSyntCalStepEnd s
  | .carrierPhaseStep steps => Sys2Proof.Machine.execCarrierPhaseStep steps s
  | .phaseTrackWrite on => Sys2Proof.Machine.execPhaseTrackWrite on s
  | .agcAttack x => Sys2Proof.Machine.execAgcAttack x s
  | .agcDecay x => Sys2Proof.Machine.execAgcDecay x s
  | .agcModeWrite x w => Sys2Proof.Machine.execAgcModeWrite x w s
  | .chainEnableWrite x en => Sys2Proof.Machine.execChainEnableWrite x en s
  | .chainRemovalRequest x => Sys2Proof.Machine.execChainRemovalRequest x s
  | .chainReturnRequest x => Sys2Proof.Machine.execChainReturnRequest x s
  | .branchRejoin k b => Sys2Proof.Machine.execBranchRejoin k b s
  | .beaconBoundary => Sys2Proof.Machine.execBeaconBoundary s
  | .bankEnableWrite en => Sys2Proof.Machine.execBankEnableWrite en s
  | .chbClearCounters => Sys2Proof.Machine.execChbClearCounters s
  | .planLoad => Sys2Proof.Machine.execPlanLoad s
  | .planLoadDone => Sys2Proof.Machine.execPlanLoadDone s
  | .planCancel => Sys2Proof.Machine.execPlanCancel s
  | .planNow => Sys2Proof.Machine.execPlanNow s
  | .planNowActivation => Sys2Proof.Machine.execPlanNowActivation s
  | .preambleDetection k h lam foff dP => Sys2Proof.Machine.execPreambleDetection k h lam foff dP s
  | .syncSearchTimeout k h => Sys2Proof.Machine.execSyncSearchTimeout k h s
  | .syncWordFound k h stamp rssi rssiA rssiB snr foff sfdc => Sys2Proof.Machine.execSyncWordFound k h stamp rssi rssiA rssiB snr foff sfdc s
  | .cancellerRecordingEnd k => Sys2Proof.Machine.execCancellerRecordingEnd k s
  | .sicRecoveryDone k stamp rssi rssiA rssiB snr foff => Sys2Proof.Machine.execSicRecoveryDone k stamp rssi rssiA rssiB snr foff s
  | .energySample e n0 => Sys2Proof.Machine.execEnergySample e n0 s
  | .decoderQuantumEnd d ready lat => Sys2Proof.Machine.execDecoderQuantumEnd d ready lat s
  | .decoderServiceWrite out => Sys2Proof.Machine.execDecoderServiceWrite out s
  | .phrDecoded fid phr => Sys2Proof.Machine.execPhrDecoded fid phr s
  | .mhrDecoded fid o => Sys2Proof.Machine.execMhrDecoded fid o s
  | .micVerdict fid hdr body => Sys2Proof.Machine.execMicVerdict fid hdr body s
  | .frameEnd fid psdu lqi => Sys2Proof.Machine.execFrameEnd fid psdu lqi s
  | .rxRecordWritten q => Sys2Proof.Machine.execRxRecordWritten q s
  | .ackCommitPoint id => Sys2Proof.Machine.execAckCommitPoint id s
  | .pktClearCounters => Sys2Proof.Machine.execPktClearCounters s
  | .profileWrite n k w => Sys2Proof.Machine.execProfileWrite n k w s
  | .tapCommit w => Sys2Proof.Machine.execTapCommit w s
  | .femPatternWrite w => Sys2Proof.Machine.execFemPatternWrite w s
  | .airtimeDrawn id => Sys2Proof.Machine.execAirtimeDrawn id s
  | .latestStartExpiry id => Sys2Proof.Machine.execLatestStartExpiry id s
  | .regulatoryWaitEnd id => Sys2Proof.Machine.execRegulatoryWaitEnd id s
  | .lbtDecision id e => Sys2Proof.Machine.execLbtDecision id e s
  | .backoffEnd id => Sys2Proof.Machine.execBackoffEnd id s
  | .transmissionRelease id => Sys2Proof.Machine.execTransmissionRelease id s
  | .transmissionWithdrawal => Sys2Proof.Machine.execTransmissionWithdrawal s
  | .syntPretune id => Sys2Proof.Machine.execSyntPretune id s
  | .fixedStartLbtCheck id => Sys2Proof.Machine.execFixedStartLbtCheck id s
  | .txLockWaitLimit => Sys2Proof.Machine.execTxLockWaitLimit s
  | .rampUpStart => Sys2Proof.Machine.execRampUpStart s
  | .symbolsEnd => Sys2Proof.Machine.execSymbolsEnd s
  | .rampDownEnd => Sys2Proof.Machine.execRampDownEnd s
  | .transmitIntervalEnd => Sys2Proof.Machine.execTransmitIntervalEnd s
  | .blankingEnd => Sys2Proof.Machine.execBlankingEnd s
  | .maskPeriodEnd pw => Sys2Proof.Machine.execMaskPeriodEnd pw s
  | .ackTimeout id => Sys2Proof.Machine.execAckTimeout id s
  | .deferRetry id => Sys2Proof.Machine.execDeferRetry id s
  | .beaconPeriodWrite which p w => Sys2Proof.Machine.execBeaconPeriodWrite which p w s
  | .airClearCounters => Sys2Proof.Machine.execAirClearCounters s
  | .regulatoryLoadWrite => Sys2Proof.Machine.execRegulatoryLoadWrite s
  | .regulatoryLoadDone => Sys2Proof.Machine.execRegulatoryLoadDone s
  | .regulatoryCancel => Sys2Proof.Machine.execRegulatoryCancel s
  | .regulatoryNow => Sys2Proof.Machine.execRegulatoryNow s
  | .regulatoryNowActivation => Sys2Proof.Machine.execRegulatoryNowActivation s
  | .groupAckBuild p => Sys2Proof.Machine.execGroupAckBuild p s
  | .beaconBuild p => Sys2Proof.Machine.execBeaconBuild p s
  | .ascClearCounters => Sys2Proof.Machine.execAscClearCounters s
  | .shortAddressRangeWrite p w => Sys2Proof.Machine.execShortAddressRangeWrite p w s
  | .wheelOffer p li => Sys2Proof.Machine.execWheelOffer p li s
  | .receiveWindowVerdict p li => Sys2Proof.Machine.execReceiveWindowVerdict p li s
  | .transmitWindowVerdict p li => Sys2Proof.Machine.execTransmitWindowVerdict p li s
  | .resyncFrameTimer p li => Sys2Proof.Machine.execResyncFrameTimer p li s
  | .partitionCreateWrite => Sys2Proof.Machine.execPartitionCreateWrite s
  | .partitionCreateDone => Sys2Proof.Machine.execPartitionCreateDone s
  | .partitionPurgeWrite p => Sys2Proof.Machine.execPartitionPurgeWrite p s
  | .partitionResetRequest p w => Sys2Proof.Machine.execPartitionResetRequest p w s
  | .partitionCtlReset p w => Sys2Proof.Machine.execPartitionCtlReset p w s
  | .partitionResetDone p => Sys2Proof.Machine.execPartitionResetDone p s
  | .imageEraseDone p => Sys2Proof.Machine.execImageEraseDone p s
  | .autoReset p => Sys2Proof.Machine.execAutoReset p s
  | .eventPendClear p imgB ovf w => Sys2Proof.Machine.execEventPendClear p imgB ovf w s
  | .airtimeRefill => Sys2Proof.Machine.execAirtimeRefill s
  | .saddleParamWrite which p w => Sys2Proof.Machine.execSaddleParamWrite which p w s
  | .packetMemoryRequest p w => Sys2Proof.Machine.execPacketMemoryRequest p w s
  | .rxRingWrite p w => Sys2Proof.Machine.execRxRingWrite p w s
  | .rxRingFree p w => Sys2Proof.Machine.execRxRingFree p w s
  | .add c d a b => Sys2Proof.Machine.execAdd c d a b s
  | .sub c d a b => Sys2Proof.Machine.execSub c d a b s
  | .andR c d a b => Sys2Proof.Machine.execAndR c d a b s
  | .orR c d a b => Sys2Proof.Machine.execOrR c d a b s
  | .xorR c d a b => Sys2Proof.Machine.execXorR c d a b s
  | .shl c d a b => Sys2Proof.Machine.execShl c d a b s
  | .shr c d a b => Sys2Proof.Machine.execShr c d a b s
  | .sar c d a b => Sys2Proof.Machine.execSar c d a b s
  | .rot c d a b => Sys2Proof.Machine.execRot c d a b s
  | .mul c d a b => Sys2Proof.Machine.execMul c d a b s
  | .mulh c d a b u => Sys2Proof.Machine.execMulh c d a b u s
  | .div c d a b u => Sys2Proof.Machine.execDiv c d a b u s
  | .rem c d a b u => Sys2Proof.Machine.execRem c d a b u s
  | .cmp c a b => Sys2Proof.Machine.execCmp c a b s
  | .tst c a b => Sys2Proof.Machine.execTst c a b s
  | .mov c d a => Sys2Proof.Machine.execMov c d a s
  | .clz c d a => Sys2Proof.Machine.execClz c d a s
  | .popc c d a => Sys2Proof.Machine.execPopc c d a s
  | .brev c d a => Sys2Proof.Machine.execBrev c d a s
  | .addImmediate c d a imm => Sys2Proof.Machine.execAddImmediate c d a imm s
  | .subImmediate c d a imm => Sys2Proof.Machine.execSubImmediate c d a imm s
  | .andImmediate c d a imm => Sys2Proof.Machine.execAndImmediate c d a imm s
  | .orImmediate c d a imm => Sys2Proof.Machine.execOrImmediate c d a imm s
  | .xorImmediate c d a imm => Sys2Proof.Machine.execXorImmediate c d a imm s
  | .shlImmediate c d a imm => Sys2Proof.Machine.execShlImmediate c d a imm s
  | .shrImmediate c d a imm => Sys2Proof.Machine.execShrImmediate c d a imm s
  | .sarImmediate c d a imm => Sys2Proof.Machine.execSarImmediate c d a imm s
  | .rotImmediate c d a imm => Sys2Proof.Machine.execRotImmediate c d a imm s
  | .cmpImmediate c a imm => Sys2Proof.Machine.execCmpImmediate c a imm s
  | .tstImmediate c a imm => Sys2Proof.Machine.execTstImmediate c a imm s
  | .movi c d imm => Sys2Proof.Machine.execMovi c d imm s
  | .movhi c d imm => Sys2Proof.Machine.execMovhi c d imm s
  | .ext c d a imm => Sys2Proof.Machine.execExt c d a imm s
  | .ins c d a imm => Sys2Proof.Machine.execIns c d a imm s
  | .ldb c d a imm => Sys2Proof.Machine.execLdb c d a imm s
  | .ldh c d a imm => Sys2Proof.Machine.execLdh c d a imm s
  | .ldw c d a imm => Sys2Proof.Machine.execLdw c d a imm s
  | .stb c d a imm => Sys2Proof.Machine.execStb c d a imm s
  | .sth c d a imm => Sys2Proof.Machine.execSth c d a imm s
  | .stw c d a imm => Sys2Proof.Machine.execStw c d a imm s
  | .br c cond off => Sys2Proof.Machine.execBr c cond off s
  | .callRelative c off => Sys2Proof.Machine.execCallRelative c off s
  | .jmp c a => Sys2Proof.Machine.execJmp c a s
  | .callRegister c a => Sys2Proof.Machine.execCallRegister c a s
  | .ret c => Sys2Proof.Machine.execRet c s
  | .nop c => Sys2Proof.Machine.execNop c s
  | .waite c d => Sys2Proof.Machine.execWaite c d s
  | .waitt c a => Sys2Proof.Machine.execWaitt c a s
  | .waittCycles c n => Sys2Proof.Machine.execWaittCycles c n s
  | .sig c n => Sys2Proof.Machine.execSig c n s
  | .yield c => Sys2Proof.Machine.execYield c s
  | .trap c n => Sys2Proof.Machine.execTrap c n s
  | .bkpt c n => Sys2Proof.Machine.execBkpt c n s
  | .mfs c d sp => Sys2Proof.Machine.execMfs c d sp s
  | .mts c a sp => Sys2Proof.Machine.execMts c a sp s
  | .submitTransmit c d a => Sys2Proof.Machine.execSubmitTransmit c d a s
  | .submitTxCancel c d a => Sys2Proof.Machine.execSubmitTxCancel c d a s
  | .submitAssocAdd c d a => Sys2Proof.Machine.execSubmitAssocAdd c d a s
  | .submitAssocDrop c d a => Sys2Proof.Machine.execSubmitAssocDrop c d a s
  | .submitAssocInfo c d a => Sys2Proof.Machine.execSubmitAssocInfo c d a s
  | .submitKeyLoad c d a => Sys2Proof.Machine.execSubmitKeyLoad c d a s
  | .submitKeyRotate c d a => Sys2Proof.Machine.execSubmitKeyRotate c d a s
  | .submitCipherOp c d a => Sys2Proof.Machine.execSubmitCipherOp c d a s
  | .submitCrcOp c d a => Sys2Proof.Machine.execSubmitCrcOp c d a s
  | .submitDirectDecode c d a => Sys2Proof.Machine.execSubmitDirectDecode c d a s
  | .collect c d a w => Sys2Proof.Machine.execCollect c d a w s
  | .mpush c d a fn => Sys2Proof.Machine.execMpush c d a fn s
  | .mpop c d discard => Sys2Proof.Machine.execMpop c d discard s
  | .tune c d a sel => Sys2Proof.Machine.execTune c d a sel s
  | .rxarm c d a m => Sys2Proof.Machine.execRxarm c d a m s
  | .txarm c d => Sys2Proof.Machine.execTxarm c d s
  | .fire c d f => Sys2Proof.Machine.execFire c d f s
  | .lbtq c d a => Sys2Proof.Machine.execLbtq c d a s
  | .contextResume c => Sys2Proof.Machine.execContextResume c s
  | .trapReturn p imgB => Sys2Proof.Machine.execTrapReturn p imgB s
  | .serviceComplete p tk => Sys2Proof.Machine.execServiceComplete p tk s
  | .sliceEnd e => Sys2Proof.Machine.execSliceEnd e s
  | .engineWatchdogExpiry p imgB => Sys2Proof.Machine.execEngineWatchdogExpiry p imgB s
  | .watchdogKick p imgB => Sys2Proof.Machine.execWatchdogKick p imgB s
  | .engineServiceWrite out => Sys2Proof.Machine.execEngineServiceWrite out s
  | .sequencerLoad x => Sys2Proof.Machine.execSequencerLoad x s
  | .sequencerLoadDone x => Sys2Proof.Machine.execSequencerLoadDone x s
  | .sequencerSwapRequest x => Sys2Proof.Machine.execSequencerSwapRequest x s
  | .sequencerSwap x => Sys2Proof.Machine.execSequencerSwap x s
  | .sequencerBasicWrite x b => Sys2Proof.Machine.execSequencerBasicWrite x b s
  | .sequencerRestart x => Sys2Proof.Machine.execSequencerRestart x s
  | .sequencerWatchdogExpiry e => Sys2Proof.Machine.execSequencerWatchdogExpiry e s
  | .imageVerifyDone p kind => Sys2Proof.Machine.execImageVerifyDone p kind s
  | .imageStart p => Sys2Proof.Machine.execImageStart p s
  | .supervisorSwitch => Sys2Proof.Machine.execSupervisorSwitch s
  | .supervisorConfirm => Sys2Proof.Machine.execSupervisorConfirm s
  | .supervisorConfirmTimeout => Sys2Proof.Machine.execSupervisorConfirmTimeout s
  | .coreServiceWrite out => Sys2Proof.Machine.execCoreServiceWrite out s
  | .trngHealthFail test => Sys2Proof.Machine.execTrngHealthFail test s
  | .trngRestart => Sys2Proof.Machine.execTrngRestart s
  | .drbgReseed => Sys2Proof.Machine.execDrbgReseed s
  | .keyFlush => Sys2Proof.Machine.execKeyFlush s
  | .keyTableQuotaWrite p w => Sys2Proof.Machine.execKeyTableQuotaWrite p w s
  | .keyLimitWrite p w => Sys2Proof.Machine.execKeyLimitWrite p w s
  | .crcHold p l => Sys2Proof.Machine.execCrcHold p l s
  | .crcReturn p l => Sys2Proof.Machine.execCrcReturn p l s
  | .crcStart p l => Sys2Proof.Machine.execCrcStart p l s
  | .crcFinish p l => Sys2Proof.Machine.execCrcFinish p l s
  | .crcFeed1 p l w => Sys2Proof.Machine.execCrcFeed1 p l w s
  | .crcFeed2 p l w => Sys2Proof.Machine.execCrcFeed2 p l w s
  | .crcFeed4 p l w => Sys2Proof.Machine.execCrcFeed4 p l w s
  | .crcStateRestore p l which w => Sys2Proof.Machine.execCrcStateRestore p l which w s
  | .crcConfigWrite p l w => Sys2Proof.Machine.execCrcConfigWrite p l w s
  | .hello p => Sys2Proof.Machine.execHello p s
  | .status p => Sys2Proof.Machine.execStatus p s
  | .resync p => Sys2Proof.Machine.execResync p s
  | .cfgGet p => Sys2Proof.Machine.execCfgGet p s
  | .cfgSet p => Sys2Proof.Machine.execCfgSet p s
  | .txSubmit p => Sys2Proof.Machine.execTxSubmit p s
  | .txCancel p => Sys2Proof.Machine.execTxCancel p s
  | .assocList p => Sys2Proof.Machine.execAssocList p s
  | .assocAdd p => Sys2Proof.Machine.execAssocAdd p s
  | .assocDrop p => Sys2Proof.Machine.execAssocDrop p s
  | .assocInfo p => Sys2Proof.Machine.execAssocInfo p s
  | .keyLoad p => Sys2Proof.Machine.execKeyLoad p s
  | .keyRotate p => Sys2Proof.Machine.execKeyRotate p s
  | .imageLoad p => Sys2Proof.Machine.execImageLoad p s
  | .imageActivate p => Sys2Proof.Machine.execImageActivate p s
  | .evtSummary p => Sys2Proof.Machine.execEvtSummary p s
  | .evtAck p => Sys2Proof.Machine.execEvtAck p s
  | .crcOp p => Sys2Proof.Machine.execCrcOp p s
  | .cipherOp p => Sys2Proof.Machine.execCipherOp p s
  | .regRead p => Sys2Proof.Machine.execRegRead p s
  | .regWrite p => Sys2Proof.Machine.execRegWrite p s
  | .modeRequest p => Sys2Proof.Machine.execModeRequest p s
  | .partitionCreate p => Sys2Proof.Machine.execPartitionCreate p s
  | .partitionPurge p => Sys2Proof.Machine.execPartitionPurge p s
  | .regulatoryLoad p => Sys2Proof.Machine.execRegulatoryLoad p s
  | .tenantRequest p => Sys2Proof.Machine.execTenantRequest p s
  | .spiStatus => Sys2Proof.Machine.execSpiStatus s
  | .spiWrite octs mid => Sys2Proof.Machine.execSpiWrite octs mid s
  | .spiRead n => Sys2Proof.Machine.execSpiRead n s
  | .spiAckRead a n => Sys2Proof.Machine.execSpiAckRead a n s
  | .spiBusReset => Sys2Proof.Machine.execSpiBusReset s
  | .spiReservedCommand c => Sys2Proof.Machine.execSpiReservedCommand c s
  | .hifClearCounters => Sys2Proof.Machine.execHifClearCounters s
  | .uartMessageFrame octs fe pe => Sys2Proof.Machine.execUartMessageFrame octs fe pe s
  | .uartStatus => Sys2Proof.Machine.execUartStatus s
  | .uartResend => Sys2Proof.Machine.execUartResend s
  | .uartAck a => Sys2Proof.Machine.execUartAck a s
  | .uartInvalidFrame fe pe => Sys2Proof.Machine.execUartInvalidFrame fe pe s
  | .uartBreak => Sys2Proof.Machine.execUartBreak s
  | .uartLineIdle => Sys2Proof.Machine.execUartLineIdle s
  | .uartAckTimeout => Sys2Proof.Machine.execUartAckTimeout s
  | .uartFrameSent => Sys2Proof.Machine.execUartFrameSent s
  | .uartCharacterReceived d fe pe => Sys2Proof.Machine.execUartCharacterReceived d fe pe s
  | .uartTransmitDataWrite p w => Sys2Proof.Machine.execUartTransmitDataWrite p w s
  | .uartReceiveDataRead p imgB => Sys2Proof.Machine.execUartReceiveDataRead p imgB s
  | .uartModeWrite w => Sys2Proof.Machine.execUartModeWrite w s
  | .uartModeChange => Sys2Proof.Machine.execUartModeChange s
  | .uartDividerWrite sh w => Sys2Proof.Machine.execUartDividerWrite sh w s
  | .uartFormatWrite w => Sys2Proof.Machine.execUartFormatWrite w s
  | .uartDeTailEnd => Sys2Proof.Machine.execUartDeTailEnd s
  | .modeRequestWrite w => Sys2Proof.Machine.execModeRequestWrite w s
  | .modeEntryProceed => Sys2Proof.Machine.execModeEntryProceed s
  | .modeEntryComplete pin => Sys2Proof.Machine.execModeEntryComplete pin s
  | .wakeEvent src => Sys2Proof.Machine.execWakeEvent src s
  | .wakeComplete pll imgOk => Sys2Proof.Machine.execWakeComplete pll imgOk s
  | .idleEntry => Sys2Proof.Machine.execIdleEntry s
  | .idleExit => Sys2Proof.Machine.execIdleExit s
  | .calibrateEnd va vb vt => Sys2Proof.Machine.execCalibrateEnd va vb vt s
  | .comparatorChange out => Sys2Proof.Machine.execComparatorChange out s
  | .autoColRequest => Sys2Proof.Machine.execAutoColRequest s
  | .colSniff => Sys2Proof.Machine.execColSniff s
  | .colSniffWindowEnd e => Sys2Proof.Machine.execColSniffWindowEnd e s
  | .colSearchEnd => Sys2Proof.Machine.execColSearchEnd s
  | .colFrame stamp rssi snr foff lqi phr psdu => Sys2Proof.Machine.execColFrame stamp rssi snr foff lqi phr psdu s
  | .colAgeWake => Sys2Proof.Machine.execColAgeWake s
  | .colBeacon => Sys2Proof.Machine.execColBeacon s
  | .colTransmitRelease id e => Sys2Proof.Machine.execColTransmitRelease id e s
  | .ceTimer => Sys2Proof.Machine.execCeTimer s
  | .domainWakeOnDemand n => Sys2Proof.Machine.execDomainWakeOnDemand n s
  | .domainReady n us => Sys2Proof.Machine.execDomainReady n us s
  | .domainIdlePowerDown n => Sys2Proof.Machine.execDomainIdlePowerDown n s
  | .powerDownDrainEnd n drained => Sys2Proof.Machine.execPowerDownDrainEnd n drained s
  | .supplyShed mv pfa pfb => Sys2Proof.Machine.execSupplyShed mv pfa pfb s
  | .supplyShedRecovery => Sys2Proof.Machine.execSupplyShedRecovery s
  | .vcoreTargetReached => Sys2Proof.Machine.execVcoreTargetReached s
  | .biasChangeDone => Sys2Proof.Machine.execBiasChangeDone s
  | .padRelease p => Sys2Proof.Machine.execPadRelease p s
  | .temperatureSample raw => Sys2Proof.Machine.execTemperatureSample raw s
  | .calStepStart => Sys2Proof.Machine.execCalStepStart s
  | .calStepEnd v => Sys2Proof.Machine.execCalStepEnd v s
  | .calForcedRun => Sys2Proof.Machine.execCalForcedRun s
  | .calItemRun n => Sys2Proof.Machine.execCalItemRun n s
  | .calSave => Sys2Proof.Machine.execCalSave s
  | .xoFeedbackWrite w => Sys2Proof.Machine.execXoFeedbackWrite w s
  | .calRecordWriteDone ok => Sys2Proof.Machine.execCalRecordWriteDone ok s
  | .calRecordRetry => Sys2Proof.Machine.execCalRecordRetry s
  | .nvmWriteDone => Sys2Proof.Machine.execNvmWriteDone s
  | .nvmRefreshStep addr k => Sys2Proof.Machine.execNvmRefreshStep addr k s
  | .checkpointPass => Sys2Proof.Machine.execCheckpointPass s
  | .logIndexWrite w => Sys2Proof.Machine.execLogIndexWrite w s
  | .deviceReset cause => Sys2Proof.Machine.execDeviceReset cause s
  | .svWatchdogExpiry => Sys2Proof.Machine.execSvWatchdogExpiry s
  | .bootEnd raw pll imgOk => Sys2Proof.Machine.execBootEnd raw pll imgOk s
  | .commission => Sys2Proof.Machine.execCommission s
  | .commissionDone => Sys2Proof.Machine.execCommissionDone s
  | .decommission auth => Sys2Proof.Machine.execDecommission auth s
  | .exportPkg auth => Sys2Proof.Machine.execExportPkg auth s
  | .exportChunkReady => Sys2Proof.Machine.execExportChunkReady s
  | .importPkg => Sys2Proof.Machine.execImportPkg s
  | .packageNext => Sys2Proof.Machine.execPackageNext s
  | .packageAbort auth => Sys2Proof.Machine.execPackageAbort auth s
  | .importDone => Sys2Proof.Machine.execImportDone s
  | .tamperFire src on pre => Sys2Proof.Machine.execTamperFire src on pre s
  | .tamperLoopCheck sample => Sys2Proof.Machine.execTamperLoopCheck sample s
  | .tamperPolicyWrite w auth => Sys2Proof.Machine.execTamperPolicyWrite w auth s
  | .dbgIdent o => Sys2Proof.Machine.execDbgIdent o s
  | .dbgChallenge o => Sys2Proof.Machine.execDbgChallenge o s
  | .dbgOpen o => Sys2Proof.Machine.execDbgOpen o s
  | .dbgClose o => Sys2Proof.Machine.execDbgClose o s
  | .dbgHalt o => Sys2Proof.Machine.execDbgHalt o s
  | .dbgRun o => Sys2Proof.Machine.execDbgRun o s
  | .dbgStep o => Sys2Proof.Machine.execDbgStep o s
  | .dbgCstat o => Sys2Proof.Machine.execDbgCstat o s
  | .dbgRead o => Sys2Proof.Machine.execDbgRead o s
  | .dbgWrite o => Sys2Proof.Machine.execDbgWrite o s
  | .dbgCread o => Sys2Proof.Machine.execDbgCread o s
  | .dbgCwrite o => Sys2Proof.Machine.execDbgCwrite o s
  | .dbgBreak o => Sys2Proof.Machine.execDbgBreak o s
  | .dbgWatch o => Sys2Proof.Machine.execDbgWatch o s
  | .dbgReset o => Sys2Proof.Machine.execDbgReset o s
  | .debugLineReset => Sys2Proof.Machine.execDebugLineReset s
  | .debugResponseAbandon => Sys2Proof.Machine.execDebugResponseAbandon s
  | .sessionIdleTimeout => Sys2Proof.Machine.execSessionIdleTimeout s
  | .challengeLapse => Sys2Proof.Machine.execChallengeLapse s
  | .tokenLockoutEnd => Sys2Proof.Machine.execTokenLockoutEnd s
  | .breakpointHit c => Sys2Proof.Machine.execBreakpointHit c s
  | .deferredHalt x => Sys2Proof.Machine.execDeferredHalt x s
  | .engineTest e => Sys2Proof.Machine.execEngineTest e s
  | .coreTest c => Sys2Proof.Machine.execCoreTest c s
  | .decoderTest d => Sys2Proof.Machine.execDecoderTest d s
  | .sramSegmentTest g => Sys2Proof.Machine.execSramSegmentTest g s
  | .chainLoopbackTest x sv => Sys2Proof.Machine.execChainLoopbackTest x sv s
  | .chainLoopbackStep v p => Sys2Proof.Machine.execChainLoopbackStep v p s
  | .nvmVerify item => Sys2Proof.Machine.execNvmVerify item s
  | .testAbort => Sys2Proof.Machine.execTestAbort s
  | .testComplete ok r0 r1 => Sys2Proof.Machine.execTestComplete ok r0 r1 s
  | .nextGenerationWrite w auth => Sys2Proof.Machine.execNextGenerationWrite w auth s
  | .gpPinWrite n w => Sys2Proof.Machine.execGpPinWrite n w s
  | .powerPathSwitch bkp low => Sys2Proof.Machine.execPowerPathSwitch bkp low s
  | .transmitTierChange low => Sys2Proof.Machine.execTransmitTierChange low s
  | .vddpaCurrentLimit => Sys2Proof.Machine.execVddpaCurrentLimit s
  | .vddioRise => Sys2Proof.Machine.execVddioRise s
  | .resetRelease => Sys2Proof.Machine.execResetRelease s
  | .vddioFall => Sys2Proof.Machine.execVddioFall s
  | .branchDropOut k b => Sys2Proof.Machine.execBranchDropOut k b s
  | .colSyncFound => Sys2Proof.Machine.execColSyncFound s
  | .uartCharacterSent => Sys2Proof.Machine.execUartCharacterSent s
  | .debugBadRequest crcOk cmd => Sys2Proof.Machine.execDebugBadRequest crcOk cmd s
  | .illegalInstruction c => Sys2Proof.Machine.execIllegalInstruction c s

end Sys2Proof.Machine
end

