-- ==== Sys2Proof/Safety.lean ====
section
/-!
DEFINITION. What counts as a safe run, and the terms the statements use: what a command leaves
unchanged, what a raised event leaves pending, the canonical form of memory.
-/

namespace Sys2Proof

open Machine Machine.Reg

/-- An outcome that goes on. -/
def Goes (o : Host.Outcome State Fault Refusal) : Prop := ∃ t, o = .next t

/-- A state from which `n` steps go on. -/
def SafeFor : Nat → State → Prop
  | 0, _ => True
  | n + 1, s => ∃ t, step s = .next t ∧ SafeFor n t

/-- A state from which every run goes on. -/
def Safe (s : State) : Prop := ∀ n, SafeFor n s

/-! ## The canonical form -/

/-- The canonical form of the state's sparse stores: memory with its addresses strictly rising and no octet equal to
what an unlisted address reads as; register fields with their keys strictly rising. -/
def Machine.State.Canonical (s : State) : Prop := Memory.wf s.mem = true ∧ Tab.rising s.regs = true

/-! ## Frames -/

/-- Every register field outside the list reads in `t` as in `s`. -/
def Kept (l : List Fld) (s t : State) : Prop := ∀ F : Fld, (∀ G ∈ l, F.key ≠ G.key) → t.get F = s.get F

/-- Only register fields of the list differ: the rest of the state, every octet of memory with it, is the same. -/
def OnlyRegs (l : List Fld) (s t : State) : Prop := { t with regs := s.regs } = s ∧ Kept l s t

/-- Every octet of memory reads in `t` as in `s`. -/
def SameMem (s t : State) : Prop := ∀ a, t.byte a = s.byte a

/-- The fields a raised event writes: the latches of every bank (R277). -/
def evFlds : List Fld :=
  (List.range 64).flatMap fun b => [PEC_PEND_PEND.at b, PEC_OVF_OVF.at b, PEC_HPEND_HPEND.at b]

/-- The event is pending in a partition, on the program's side and the host's (R277). -/
def Pends (s : State) (p : Nat) (e : Ev) : Prop :=
  (s.get (PEC_PEND_PEND.at p)).testBit e.bit = true ∧ (s.get (PEC_HPEND_HPEND.at p)).testBit e.bit = true

/-! ## Instructions -/

/-- A context that issues its next instruction, whose fetch address is one it may fetch from, and that no halt awaits. -/
def Ready (s : State) (c : Ctx) : Prop :=
  s.mayIssue c = true ∧ (s.place c .fetch (s.prog (ctxNum c)).pc.toNat 4).isRight = true ∧
    (s.prog (ctxNum c)).stepping = false ∧ (s.prog (ctxNum c)).haltPend = false

/-- A context's registers with a result in `d`, its Z and N, and C and V (R292, R300). -/
def Machine.Prog.result (g : Prog) (d : Fin 16) (r : Word) (c v : Bool) : Prog :=
  { g.setReg d r with z := decide (r = 0), n := r.msb, c := c, v := v }

/-- The flags of a result alone. -/
def Machine.Prog.compared (g : Prog) (r : Word) (c v : Bool) : Prog := { g with z := decide (r = 0), n := r.msb, c := c, v := v }

/-- `t` is `s` after a context has executed one instruction: its program is `g` with PC at `dest` and `n` cycles counted;
no other program and nothing else of the state but the engine's turn has changed. -/
def Ran (s : State) (c : Ctx) (t : State) (g : Prog) (dest : Word) (n : Nat) : Prop :=
  t.prog (ctxNum c) = { g with
    pc := dest, cyc := (s.prog (ctxNum c)).cyc + BitVec.ofNat 32 n
    wdog := if ctxNum c < 32 ∨ 64 ≤ ctxNum c then (s.prog (ctxNum c)).wdog + n else (s.prog (ctxNum c)).wdog } ∧
  (∀ j, j ≠ ctxNum c → t.prog j = s.prog j) ∧ { t with progs := s.progs, eng := s.eng } = s

/-! ## Host messages -/

/-- The request `m` of a type stands at the head of a partition's incoming mailbox, and the device executes it now: it
carries no tag, and the device is not in LOCKDOWN (R417, R430). -/
def Asks (s : State) (p : Nat) (m : Msg) (typ : Nat) : Prop :=
  (s.mb p).inq.head? = some m ∧ m.typ = typ ∧ m.auth = false ∧ s.hostReady p m = true ∧ s.pwr.lockdown = false

/-- A request as a host may send it: every field within its width (R411, R412). -/
def Machine.Msg.Sound (m : Msg) : Prop := m.cls = 0 ∧ m.typ < 256 ∧ m.tag < 65536 ∧ m.alive < 256 ∧ m.body.length ≤ 2040

/-- `t` has accepted the request `m` of a partition: LAST has advanced, the request stands last in the mailbox, and the
stored response is the one it awaits (R419, R420, R423). -/
def Accepted (s : State) (p : Nat) (m : Msg) (t : State) : Prop :=
  t.get (HIF_PALIVE_INLAST.at p) = m.alive ∧
    (t.mb p).inq = (s.mb p).inq ++ [{ m with plain := false, ans := none, at_ := s.tick }] ∧
    (t.mb p).stored = some { tag := m.tag, alive := m.alive, tenant := decide (0x80 ≤ m.typ) } ∧ SameMem s t

/-- A partition's mailbox takes the request next: in sequence, of a type the device knows and no resync, with room for it,
and nothing waiting that the device would answer or commit first (R416, R417, R423). -/
def Takes (s : State) (p : Nat) (m : Msg) : Prop :=
  m.Sound ∧ m.alive = (s.get (HIF_PALIVE_INLAST.at p) + 1) % 256 ∧ m.typ ≠ 8 ∧ reservedType m.typ = false ∧
    (s.mb p).inRoom m = true ∧ (s.mb p).wait = [] ∧ (∀ n ∈ (s.mb p).inq, reservedType n.typ = false)

/-! ## The debug port -/

/-- The state after the debug port has received a request it judges: the session's idle time begins again (R563). -/
def Machine.State.heard (s : State) : State := { s with dbg := { s.dbg with lastAt := s.tick } }

/-- The debug port answers, in a run mode without LOCKDOWN, with a session of a scope open (R557, R560, R561). -/
def Machine.State.session (s : State) (c : Nat) : Prop :=
  s.dbgUp = true ∧ s.pwr.boot = false ∧ s.pwr.lockdown = false ∧ s.dbg.scope = some c

end Sys2Proof
end

