-- ==== Sys2Proof/WellFormed.lean ====
section
/-!
DEFINITION. The commands whose operands the outside world can send: lengths and ranges the spec gives
and an operand's type does not hold.
-/

namespace Sys2Proof

/-- Whether a command's operands lie in the ranges the spec gives them. -/
def Instr.wf : Instr → Bool
  | .registerWrite _ _ addr _ => decide (addr < 2 ^ 32)
  | .pktEnableWrite _ => true
  | .airEnableWrite _ => true
  | .ascEnableWrite _ => true
  | .keyEnableWrite _ => true
  | .xoStartDone => true
  | .xoClockFault _ => true
  | .systemPllLoss => true
  | .relockAttempt => true
  | .relockRecalibrationEnd _ => true
  | .relockHoldEnd _ => true
  | .fallbackExit => true
  | .forceFallback => true
  | .ticklRead _ _ => true
  | .timebaseSetWrite _ => true
  | .timebaseAdjustWrite _ => true
  | .phaseStepWrite _ => true
  | .tickBoundaryApply => true
  | .phaseStep => true
  | .timerCompareCommit _ _ _ => true
  | .timerExpiry _ _ => true
  | .tickOutPulse => true
  | .tickOutPulseEnd => true
  | .frequencyCommand _ _ => true
  | .synthEnableWrite _ _ => true
  | .synthLock _ => true
  | .synthLockLoss _ => true
  | .synthReacquireEnd _ => true
  | .synthLockFail _ => true
  | .syntCalStepStart d => decide (d ≤ 200)
  | .syntCalStepEnd => true
  | .carrierPhaseStep _ => true
  | .phaseTrackWrite _ => true
  | .agcAttack _ => true
  | .agcDecay _ => true
  | .agcModeWrite _ _ => true
  | .chainEnableWrite _ _ => true
  | .chainRemovalRequest _ => true
  | .chainReturnRequest _ => true
  | .branchRejoin _ _ => true
  | .beaconBoundary => true
  | .bankEnableWrite _ => true
  | .chbClearCounters => true
  | .planLoad => true
  | .planLoadDone => true
  | .planCancel => true
  | .planNow => true
  | .planNowActivation => true
  | .preambleDetection _ _ _ _ _ => true
  | .syncSearchTimeout _ _ => true
  | .syncWordFound _ _ _ _ _ _ _ _ _ => true
  | .cancellerRecordingEnd _ => true
  | .sicRecoveryDone _ _ _ _ _ _ _ => true
  | .energySample e n0 => (e ++ n0).all fun x => decide (x.1 < 128)
  | .decoderQuantumEnd _ _ _ => true
  | .decoderServiceWrite _ => true
  | .phrDecoded _ _ => true
  | .mhrDecoded _ o => decide (o.length ≤ 2047)
  | .micVerdict _ hdr body => decide (hdr.length + body.length ≤ 2047)
  | .frameEnd _ psdu _ => decide (psdu.length ≤ 2047)
  | .rxRecordWritten _ => true
  | .ackCommitPoint _ => true
  | .pktClearCounters => true
  | .profileWrite _ _ _ => true
  | .tapCommit _ => true
  | .femPatternWrite _ => true
  | .airtimeDrawn _ => true
  | .latestStartExpiry _ => true
  | .regulatoryWaitEnd _ => true
  | .lbtDecision _ _ => true
  | .backoffEnd _ => true
  | .transmissionRelease _ => true
  | .transmissionWithdrawal => true
  | .syntPretune _ => true
  | .fixedStartLbtCheck _ => true
  | .txLockWaitLimit => true
  | .rampUpStart => true
  | .symbolsEnd => true
  | .rampDownEnd => true
  | .transmitIntervalEnd => true
  | .blankingEnd => true
  | .maskPeriodEnd _ => true
  | .ackTimeout _ => true
  | .deferRetry _ => true
  | .beaconPeriodWrite _ _ _ => true
  | .airClearCounters => true
  | .regulatoryLoadWrite => true
  | .regulatoryLoadDone => true
  | .regulatoryCancel => true
  | .regulatoryNow => true
  | .regulatoryNowActivation => true
  | .groupAckBuild _ => true
  | .beaconBuild _ => true
  | .ascClearCounters => true
  | .shortAddressRangeWrite _ _ => true
  | .wheelOffer _ li => decide (li < 8192)
  | .receiveWindowVerdict _ li => decide (li < 8192)
  | .transmitWindowVerdict _ li => decide (li < 8192)
  | .resyncFrameTimer _ li => decide (li < 8192)
  | .partitionCreateWrite => true
  | .partitionCreateDone => true
  | .partitionPurgeWrite _ => true
  | .partitionResetRequest _ _ => true
  | .partitionCtlReset _ _ => true
  | .partitionResetDone _ => true
  | .imageEraseDone _ => true
  | .autoReset _ => true
  | .eventPendClear _ _ _ _ => true
  | .airtimeRefill => true
  | .saddleParamWrite _ _ _ => true
  | .packetMemoryRequest _ _ => true
  | .rxRingWrite _ _ => true
  | .rxRingFree _ _ => true
  | .add _ _ _ _ => true
  | .sub _ _ _ _ => true
  | .andR _ _ _ _ => true
  | .orR _ _ _ _ => true
  | .xorR _ _ _ _ => true
  | .shl _ _ _ _ => true
  | .shr _ _ _ _ => true
  | .sar _ _ _ _ => true
  | .rot _ _ _ _ => true
  | .mul _ _ _ _ => true
  | .mulh _ _ _ _ _ => true
  | .div _ _ _ _ _ => true
  | .rem _ _ _ _ _ => true
  | .cmp _ _ _ => true
  | .tst _ _ _ => true
  | .mov _ _ _ => true
  | .clz _ _ _ => true
  | .popc _ _ _ => true
  | .brev _ _ _ => true
  | .addImmediate _ _ _ _ => true
  | .subImmediate _ _ _ _ => true
  | .andImmediate _ _ _ _ => true
  | .orImmediate _ _ _ _ => true
  | .xorImmediate _ _ _ _ => true
  | .shlImmediate _ _ _ i => decide (i.toNat < 32)
  | .shrImmediate _ _ _ i => decide (i.toNat < 32)
  | .sarImmediate _ _ _ i => decide (i.toNat < 32)
  | .rotImmediate _ _ _ i => decide (i.toNat < 32)
  | .cmpImmediate _ _ _ => true
  | .tstImmediate _ _ _ => true
  | .movi _ _ _ => true
  | .movhi _ _ i => decide (i.toNat < 65536)
  | .ext _ _ _ i => decide (i.toNat < 2048 ∧ i.toNat % 32 + i.toNat / 32 % 32 < 32)
  | .ins _ _ _ i => decide (i.toNat < 1024 ∧ i.toNat % 32 + i.toNat / 32 % 32 < 32)
  | .ldb _ _ _ _ => true
  | .ldh _ _ _ _ => true
  | .ldw _ _ _ _ => true
  | .stb _ _ _ _ => true
  | .sth _ _ _ _ => true
  | .stw _ _ _ _ => true
  | .br _ _ _ => true
  | .callRelative _ _ => true
  | .jmp _ _ => true
  | .callRegister _ _ => true
  | .ret _ => true
  | .nop _ => true
  | .waite _ _ => true
  | .waitt _ _ => true
  | .waittCycles _ n => decide (n.toNat ≠ 0)
  | .sig _ _ => true
  | .yield _ => true
  | .trap _ _ => true
  | .bkpt _ _ => true
  | .mfs _ _ n => decide (n.toNat < 8)
  | .mts _ _ n => decide (n.toNat = 3 ∨ n.toNat = 4 ∨ n.toNat = 7)
  | .submitTransmit _ _ _ => true
  | .submitTxCancel _ _ _ => true
  | .submitAssocAdd _ _ _ => true
  | .submitAssocDrop _ _ _ => true
  | .submitAssocInfo _ _ _ => true
  | .submitKeyLoad _ _ _ => true
  | .submitKeyRotate _ _ _ => true
  | .submitCipherOp _ _ _ => true
  | .submitCrcOp _ _ _ => true
  | .submitDirectDecode _ _ _ => true
  | .collect _ _ _ _ => true
  | .mpush _ _ _ _ => true
  | .mpop _ _ _ => true
  | .tune _ _ _ n => decide (n.toNat < 3)
  | .rxarm _ _ _ m => decide (m.toNat < 5 ∨ m.toNat = 8 ∨ m.toNat = 9)
  | .txarm _ _ => true
  | .fire _ _ _ => true
  | .lbtq _ _ _ => true
  | .contextResume _ => true
  | .trapReturn _ _ => true
  | .serviceComplete _ _ => true
  | .sliceEnd _ => true
  | .engineWatchdogExpiry _ _ => true
  | .watchdogKick _ _ => true
  | .engineServiceWrite _ => true
  | .sequencerLoad _ => true
  | .sequencerLoadDone _ => true
  | .sequencerSwapRequest _ => true
  | .sequencerSwap _ => true
  | .sequencerBasicWrite _ _ => true
  | .sequencerRestart _ => true
  | .sequencerWatchdogExpiry _ => true
  | .imageVerifyDone _ _ => true
  | .imageStart _ => true
  | .supervisorSwitch => true
  | .supervisorConfirm => true
  | .supervisorConfirmTimeout => true
  | .coreServiceWrite _ => true
  | .trngHealthFail _ => true
  | .trngRestart => true
  | .drbgReseed => true
  | .keyFlush => true
  | .keyTableQuotaWrite _ _ => true
  | .keyLimitWrite _ _ => true
  | .crcHold _ _ => true
  | .crcReturn _ _ => true
  | .crcStart _ _ => true
  | .crcFinish _ _ => true
  | .crcFeed1 _ _ _ => true
  | .crcFeed2 _ _ _ => true
  | .crcFeed4 _ _ _ => true
  | .crcStateRestore _ _ _ _ => true
  | .crcConfigWrite _ _ _ => true
  | .hello _ => true
  | .status _ => true
  | .resync _ => true
  | .cfgGet _ => true
  | .cfgSet _ => true
  | .txSubmit _ => true
  | .txCancel _ => true
  | .assocList _ => true
  | .assocAdd _ => true
  | .assocDrop _ => true
  | .assocInfo _ => true
  | .keyLoad _ => true
  | .keyRotate _ => true
  | .imageLoad _ => true
  | .imageActivate _ => true
  | .evtSummary _ => true
  | .evtAck _ => true
  | .crcOp _ => true
  | .cipherOp _ => true
  | .regRead _ => true
  | .regWrite _ => true
  | .modeRequest _ => true
  | .partitionCreate _ => true
  | .partitionPurge _ => true
  | .regulatoryLoad _ => true
  | .tenantRequest _ => true
  | .spiStatus => true
  | .spiWrite _ _ => true
  | .spiRead _ => true
  | .spiAckRead _ _ => true
  | .spiBusReset => true
  | .spiReservedCommand _ => true
  | .hifClearCounters => true
  | .uartMessageFrame _ _ _ => true
  | .uartStatus => true
  | .uartResend => true
  | .uartAck _ => true
  | .uartInvalidFrame _ _ => true
  | .uartBreak => true
  | .uartLineIdle => true
  | .uartAckTimeout => true
  | .uartFrameSent => true
  | .uartCharacterReceived d _ _ => decide (d < 256)
  | .uartTransmitDataWrite _ _ => true
  | .uartReceiveDataRead _ _ => true
  | .uartModeWrite _ => true
  | .uartModeChange => true
  | .uartDividerWrite _ _ => true
  | .uartFormatWrite _ => true
  | .uartDeTailEnd => true
  | .modeRequestWrite _ => true
  | .modeEntryProceed => true
  | .modeEntryComplete _ => true
  | .wakeEvent _ => true
  | .wakeComplete _ _ => true
  | .idleEntry => true
  | .idleExit => true
  | .calibrateEnd _ _ _ => true
  | .comparatorChange _ => true
  | .autoColRequest => true
  | .colSniff => true
  | .colSniffWindowEnd _ => true
  | .colSearchEnd => true
  | .colFrame _ _ _ _ _ _ psdu => decide (psdu.length ≤ 2047)
  | .colAgeWake => true
  | .colBeacon => true
  | .colTransmitRelease _ _ => true
  | .ceTimer => true
  | .domainWakeOnDemand _ => true
  | .domainReady _ _ => true
  | .domainIdlePowerDown _ => true
  | .powerDownDrainEnd _ _ => true
  | .supplyShed _ _ _ => true
  | .supplyShedRecovery => true
  | .vcoreTargetReached => true
  | .biasChangeDone => true
  | .padRelease _ => true
  | .temperatureSample _ => true
  | .calStepStart => true
  | .calStepEnd _ => true
  | .calForcedRun => true
  | .calItemRun _ => true
  | .calSave => true
  | .xoFeedbackWrite _ => true
  | .calRecordWriteDone _ => true
  | .calRecordRetry => true
  | .nvmWriteDone => true
  | .nvmRefreshStep addr _ => decide (addr < 0x100000)
  | .checkpointPass => true
  | .logIndexWrite _ => true
  | .deviceReset _ => true
  | .svWatchdogExpiry => true
  | .bootEnd _ _ _ => true
  | .commission => true
  | .commissionDone => true
  | .decommission _ => true
  | .exportPkg _ => true
  | .exportChunkReady => true
  | .importPkg => true
  | .packageNext => true
  | .packageAbort _ => true
  | .importDone => true
  | .tamperFire _ _ _ => true
  | .tamperLoopCheck _ => true
  | .tamperPolicyWrite _ _ => true
  | .dbgIdent o => decide (o.length ≤ 1024)
  | .dbgChallenge o => decide (o.length ≤ 1024)
  | .dbgOpen o => decide (o.length ≤ 1024)
  | .dbgClose o => decide (o.length ≤ 1024)
  | .dbgHalt o => decide (o.length ≤ 1024)
  | .dbgRun o => decide (o.length ≤ 1024)
  | .dbgStep o => decide (o.length ≤ 1024)
  | .dbgCstat o => decide (o.length ≤ 1024)
  | .dbgRead o => decide (o.length ≤ 1024)
  | .dbgWrite o => decide (o.length ≤ 1024)
  | .dbgCread o => decide (o.length ≤ 1024)
  | .dbgCwrite o => decide (o.length ≤ 1024)
  | .dbgBreak o => decide (o.length ≤ 1024)
  | .dbgWatch o => decide (o.length ≤ 1024)
  | .dbgReset o => decide (o.length ≤ 1024)
  | .debugLineReset => true
  | .debugResponseAbandon => true
  | .sessionIdleTimeout => true
  | .challengeLapse => true
  | .tokenLockoutEnd => true
  | .breakpointHit _ => true
  | .deferredHalt _ => true
  | .engineTest _ => true
  | .coreTest _ => true
  | .decoderTest _ => true
  | .sramSegmentTest _ => true
  | .chainLoopbackTest _ _ => true
  | .chainLoopbackStep _ _ => true
  | .nvmVerify _ => true
  | .testAbort => true
  | .testComplete _ _ _ => true
  | .nextGenerationWrite _ _ => true
  | .gpPinWrite _ _ => true
  | .powerPathSwitch _ _ => true
  | .transmitTierChange _ => true
  | .vddpaCurrentLimit => true
  | .vddioRise => true
  | .resetRelease => true
  | .vddioFall => true
  | .branchDropOut _ _ => true
  | .colSyncFound => true
  | .uartCharacterSent => true
  | .debugBadRequest _ _ => true
  | .illegalInstruction _ => true

/-- A well-formed command. -/
abbrev Instr.WellFormed (i : Instr) : Prop := i.wf = true

end Sys2Proof
end

