-- ==== Sys2Proof/Certificates/Slice0/Obligations.lean ====
section
/-!
DEFINITION. The statements about the model, for the provers. A docstring names the rules of spec/ a statement
rests on, or says that it is the model's own.
-/

open Sys2Proof Sys2Proof.Machine Sys2Proof.Machine.Reg

/-- A step executes the command at the front of the queue (spec/opcode_table.json, R5). -/
def Obligations.StepRunsTheFrontCommand : Prop :=
  ∀ (i : Instr) (s : State), step { s with pending := i :: s.pending } = exec i s

/-- No command changes the queue of waiting commands (spec/opcode_table.json). -/
def Obligations.CommandsLeaveTheQueueAlone : Prop :=
  ∀ (i : Instr) (s t : State), exec i s = .next t → t.pending = s.pending

/-- Every step keeps memory and the register store in canonical form (R8, R4). -/
def Obligations.EveryStepKeepsMemoryCanonical : Prop :=
  ∀ s t : State, s.Canonical → step s = .next t → t.Canonical

/-- The state after reset has canonical memory and an empty queue (R538, notes/assumptions). -/
def Obligations.ResetIsCanonical : Prop :=
  State.reset.Canonical ∧ State.reset.mem = [] ∧ State.reset.pending = [] ∧ State.reset.clk.xo = .start ∧
    State.reset.pwr.boot = true ∧ State.reset.tbs.now = 0 ∧ State.reset.get TBS_STAT_DISCONT = 1 ∧ State.reset.mode = 0

/-- A loss of the system PLL, real or forced, enters FALLBACK; only a real one is counted (R49, R50, R53, R54). -/
def Obligations.LossOfThePllEntersFallback : Prop :=
  ∀ (s : State) (real : Bool), s.pllRuns = true →
    ∃ t, exec (if real then .systemPllLoss else .forceFallback) s = .next t ∧
      t.get CLK_STAT_FALLBACK = 1 ∧ t.get CLK_STAT_PLLLOCK = 0 ∧ t.get CLK_STAT_SPILIM = 1 ∧
      t.get CLK_STAT_LOSSCNT = (if real then min (s.get CLK_STAT_LOSSCNT + 1) 0xFFFF else s.get CLK_STAT_LOSSCNT) ∧
      t.clk = { s.clk with relock := .waiting, since := s.tick } ∧ t.tbs = s.tbs ∧ SameMem s t ∧
      (∃ d, t.nvq = s.nvq ++ [.scree s.tbs.now (s.flag TBS_STAT_DISCONT) 0x0101 2 0 1 d]) ∧
      ∀ p, s.pexists p = true → Pends t p .mode

/-- A relock attempt runs its steps, counts no loss and, held, returns SYSCLK at a tick boundary (R53). -/
def Obligations.RelockAttemptsAreNoNewLoss : Prop :=
  ∀ s : State,
    (s.clk.relock = .waiting → s.clk.since + 10000 ≤ s.tick →
      exec .relockAttempt s = .next { s with clk := { s.clk with relock := .recal } }) ∧
    (s.clk.relock = .waiting → s.tick < s.clk.since + 10000 → exec .relockAttempt s = .next s) ∧
    (s.clk.relock = .recal → ∀ ok,
      exec (.relockRecalibrationEnd ok) s = .next { s with clk := { s.clk with relock := if ok then .hold else .waiting, since := s.tick } }) ∧
    (s.clk.relock = .hold → ∀ ok,
      exec (.relockHoldEnd ok) s = .next { s with clk := { s.clk with relock := if ok then .switchDue else .waiting, since := s.tick } }) ∧
    (s.clk.relock = .switchDue → ∃ t, exec .fallbackExit s = .next t ∧ t.clk.relock = .idle ∧ t.get CLK_STAT_FALLBACK = 0 ∧
      t.get CLK_STAT_PLLLOCK = 1 ∧ t.get CLK_STAT_SPILIM = 0 ∧ t.get CLK_STAT_LOSSCNT = s.get CLK_STAT_LOSSCNT ∧
      ∀ p, s.pexists p = true → Pends t p .mode)

/-- Writes of the timebase registers wait for the tick boundary, and a read of TICKL latches the high word (R38, R43, R44, R45, R47). -/
def Obligations.TimebaseWritesWaitForTheBoundary : Prop :=
  ∀ (s : State) (w : Word),
    (s.get TBS_STAT_DISCONT = 1 → ∃ t, exec (.timebaseSetWrite w) s = .next t ∧
      t.tbs = { s.tbs with setPend := some (w.toNat % 2 ^ 30 * 2 ^ 32 + s.get TBS_SETL_TICK_LO * 64 + s.get TBS_SETL_FRAC) } ∧
      t.get TBS_STAT_SETREJ = 0 ∧ t.get TBS_STAT_ADJPEND = 1 ∧
      OnlyRegs [TBS_STAT_SETREJ, TBS_STAT_ADJPEND] s { t with tbs := s.tbs }) ∧
    (s.get TBS_STAT_DISCONT = 0 → ∃ t, exec (.timebaseSetWrite w) s = .next t ∧ t.get TBS_STAT_SETREJ = 1 ∧ OnlyRegs [TBS_STAT_SETREJ] s t) ∧
    (∃ t, exec (.timebaseAdjustWrite w) s = .next t ∧ t.tbs = { s.tbs with adjPend := true } ∧ t.get TBS_ADJ_FRACS = w.toNat ∧
      t.get TBS_STAT_ADJPEND = 1 ∧ OnlyRegs [TBS_ADJ_FRACS, TBS_STAT_ADJPEND] s { t with tbs := s.tbs }) ∧
    (s.get CLK_STAT_FALLBACK = 1 → ∃ t, exec (.phaseStepWrite w) s = .next t ∧ t.get TBS_STAT_PSREJ = 1 ∧ OnlyRegs [TBS_STAT_PSREJ] s t) ∧
    (s.get CLK_STAT_FALLBACK = 0 → ∃ t, exec (.phaseStepWrite w) s = .next t ∧ t.tbs = { s.tbs with psFirst := true } ∧
      t.get TBS_PSTEP_COUNT = w.toNat % 2 ^ 16 ∧
      t.get TBS_PSTEP_INTERVAL = (if w.toNat / 2 ^ 16 = 0 then s.get TBS_PSTEP_INTERVAL else w.toNat / 2 ^ 16) ∧ t.get TBS_STAT_PSREJ = 0 ∧
      OnlyRegs [TBS_PSTEP_COUNT, TBS_PSTEP_INTERVAL, TBS_STAT_PSREJ, TBS_STAT_PSBUSY] s { t with tbs := s.tbs }) ∧
    (∀ (p : Fin 32) (n : Fin 4), ∃ t, exec (.timerCompareCommit p n w) s = .next t ∧
      t.timerCmp p n = w.toNat % 2 ^ 30 * 2 ^ 32 + s.get ((TBS_TMRnL_TICK_LO n).at p) * 64 + s.get ((TBS_TMRnL_FRAC n).at p) ∧
      (∀ k, k ≠ 4 * p.val + n.val → Tab.get 0 t.tbs.cmp k = Tab.get 0 s.tbs.cmp k) ∧
      t.tbs = { s.tbs with cmp := t.tbs.cmp } ∧ OnlyRegs [(TBS_TMRnH_TICK_HI n).at p] s { t with tbs := s.tbs }) ∧
    (∀ (tag : Fin 64) (b : Bool), ∃ t, exec (.ticklRead tag b) s = .next t ∧ t.readTickh tag b = s.tbs.now / 2 ^ 32 ∧
      (∀ (tag' : Fin 64) (b' : Bool), (tag', b') ≠ (tag, b) → t.readTickh tag' b' = s.readTickh tag' b') ∧
      { t with tbs := s.tbs } = s ∧ t.tbs.now = s.tbs.now)

/-- The count reaches its boundary without loss, a phase step moves it by a 256th, the second pulse rises and falls (R33, R37, R45, R46, R48). -/
def Obligations.TheTimebaseCountsAndStepsKeepIt : Prop :=
  ∀ s : State,
    (s.tbs.setPend = none → s.tbs.adjPend = false → s.clk.relock ≠ .switchDue → s.tbs.psFirst = false → s.clk.trim = none →
      s.get SYNT_PHASE_STEPS = 0 → ∃ t, exec .tickBoundaryApply s = .next t ∧
        t.tbs.now = (s.tbs.now + 63) / 64 * 64 % 2 ^ 62 ∧ t.get TBS_STAT_ADJPEND = 0 ∧
        t.tbs = { s.tbs with now := t.tbs.now, refill := t.tbs.refill } ∧ OnlyRegs [TBS_STAT_ADJPEND] s { t with tbs := s.tbs }) ∧
    (s.stepsRun = true → s.tbs.psFirst = false → s.tbs.psNext ≤ s.tick → s.tbs.now < 2 ^ 62 → 0 < sext 16 (s.get TBS_PSTEP_COUNT) →
      ∃ t, exec .phaseStep s = .next t ∧ t.get TBS_PSTEP_COUNT = wrap 16 (sext 16 (s.get TBS_PSTEP_COUNT) - 1) ∧
        t.get TBS_PSACC_ACC = wrap 32 (sext 32 (s.get TBS_PSACC_ACC) + 1) ∧
        (s.tbs.psFrac = 255 → t.tbs.now = (s.tbs.now + 1) % 2 ^ 62 ∧ t.tbs.psFrac = 0) ∧
        (-256 < s.tbs.psFrac → s.tbs.psFrac < 255 → t.tbs.now = s.tbs.now ∧ t.tbs.psFrac = s.tbs.psFrac + 1) ∧
        OnlyRegs [TBS_PSTEP_COUNT, TBS_PSACC_ACC, TBS_STAT_PSBUSY] s { t with tbs := s.tbs }) ∧
    (s.get TBS_TOCTL_EN = 1 → s.tbs.now % 64000000 = 0 → exec .tickOutPulse s =
      .next { s with tbs := { s.tbs with tickOut := true, tickEnd := s.tick + s.get TBS_TOCTL_WIDTH } }) ∧
    (s.tbs.tickOut = true → s.tbs.tickEnd ≤ s.tick → exec .tickOutPulseEnd s = .next { s with tbs := { s.tbs with tickOut := false } }) ∧
    (∀ (p : Fin 32) (n : Fin 4), s.timerDue p n = true → s.pwr.sleep = none → s.pwr.entry = none → ∃ t,
      exec (.timerExpiry p n) s = .next t ∧ t.get ((TBS_TMRnC_EXP n).at p) = 1 ∧
      (s.get ((TBS_TMRnP_PERIOD n).at p) = 0 → t.get ((TBS_TMRnC_ARM n).at p) = 0) ∧
      (s.get ((TBS_TMRnP_PERIOD n).at p) ≠ 0 → s.tbs.now < t.timerCmp p n ∧
        t.timerCmp p n ≤ s.tbs.now + s.get ((TBS_TMRnP_PERIOD n).at p) * 64 ∧
        (t.timerCmp p n - s.timerCmp p n) % (s.get ((TBS_TMRnP_PERIOD n).at p) * 64) = 0) ∧
      (s.pexists p = true → Pends t p (Ev.timer n)) ∧ SameMem s t ∧ t.tbs.now = s.tbs.now)

/-- A frequency command is refused outside the valid words, held while the PA is driven, and otherwise takes the target (R56, R57, R58, R63, R89). -/
def Obligations.FrequencyCommandsStartOrAreRefused : Prop :=
  ∀ (s : State) (x : Fin 3) (w : Word),
    (freqOk (w.toNat % 2 ^ 29) = false ∨ (x = 1 ∧ s.combined = true) →
      ∃ t, exec (.frequencyCommand x w) s = .next t ∧ t.get (SYNx_STAT_FREQREJ x) = 1 ∧ OnlyRegs [SYNx_STAT_FREQREJ x] s t) ∧
    (freqOk (w.toNat % 2 ^ 29) = true → x = 2 → s.paDriven = true →
      ∃ t, exec (.frequencyCommand x w) s = .next t ∧ (t.synth 2).heldWord = some (w.toNat % 2 ^ 29) ∧ t.get (SYNx_STAT_PENDING 2) = 1 ∧
        t.get (SYNx_FREQ_FREQ 2) = s.get (SYNx_FREQ_FREQ 2) ∧ t.get (SYNx_STAT_LOCK 2) = s.get (SYNx_STAT_LOCK 2) ∧ SameMem s t) ∧
    (freqOk (w.toNat % 2 ^ 29) = true → ¬(x = 2 ∧ s.paDriven = true) → ¬(x = 1 ∧ s.combined = true) →
      ∃ t, exec (.frequencyCommand x w) s = .next t ∧ t.get (SYNx_STAT_FREQREJ x) = 0 ∧ t.get (SYNx_FREQ_FREQ x) = w.toNat % 2 ^ 29 ∧
        SameMem s t ∧ t.tbs = s.tbs ∧
        (s.flag (SYNx_CTL_EN x) = true → (s.synth x).ph ≠ .calStep →
          (if s.get (SYNx_FREQ_FREQ x) = w.toNat % 2 ^ 29 ∧ s.flag (SYNx_STAT_LOCK x) = true then t.get (SYNx_STAT_LOCK x) = s.get (SYNx_STAT_LOCK x)
           else t.get (SYNx_STAT_LOCK x) = 0 ∧ t.get (SYNx_STAT_SETTLING x) = 1 ∧ (t.synth x).ph = .settling)))

/-- Enabling starts the stored target, disabling declares no loss, LOCK rises for a seeking loop only (R58, R62, R63). -/
def Obligations.SynthesiserEnableAndLock : Prop :=
  ∀ (s : State) (x : Fin 3),
    (s.get (SYNx_CTL_EN x) = 0 → ∃ t, exec (.synthEnableWrite x true) s = .next t ∧ t.get (SYNx_CTL_EN x) = 1 ∧
      t.get (SYNx_STAT_SETTLING x) = 1 ∧ t.get (SYNx_STAT_LOCK x) = 0 ∧ t.get (SYNx_FREQ_FREQ x) = s.get (SYNx_FREQ_FREQ x) % 2 ^ 29 ∧ SameMem s t) ∧
    (¬(x = 2 ∧ s.paDriven = true) → ∃ t, exec (.synthEnableWrite x false) s = .next t ∧ t.get (SYNx_CTL_EN x) = 0 ∧
      t.get (SYNx_STAT_LOCK x) = 0 ∧ t.get (SYNx_STAT_SETTLING x) = 0 ∧ t.get (SYNx_STAT_LOSSCNT x) = s.get (SYNx_STAT_LOSSCNT x) ∧
      t.get (SYNx_FREQ_FREQ x) = s.get (SYNx_FREQ_FREQ x) ∧ SameMem s t) ∧
    (x = 2 → s.paDriven = true → ∃ t, exec (.synthEnableWrite x false) s = .next t ∧ (t.synth 2).heldOff = true ∧
      { t with syn := s.syn } = s) ∧
    ((s.synth x).ph.seeking = true → s.flag (SYNx_CTL_EN x) = true → ∃ t, exec (.synthLock x) s = .next t ∧
      t.get (SYNx_STAT_LOCK x) = 1 ∧ t.get (SYNx_STAT_SETTLING x) = 0 ∧ (t.synth x).ph = .locked ∧ SameMem s t ∧ t.tbs = s.tbs)

/-- A loss of lock is counted and stamped; the loop reacquires, takes the table code again, and fails after 500 µs (R62, R71, R72, R73, R61). -/
def Obligations.LossOfLockRelocksThenFails : Prop :=
  ∀ (s : State) (x : Fin 3),
    (s.flag (SYNx_STAT_LOCK x) = true → ∃ t, exec (.synthLockLoss x) s = .next t ∧ t.get (SYNx_STAT_LOCK x) = 0 ∧
      t.get (SYNx_STAT_LOSSCNT x) = min (s.get (SYNx_STAT_LOSSCNT x) + 1) 255 ∧ t.get (SYNx_LOSST_TICK x) = s.tick % 2 ^ 32 ∧
      (t.synth x).ph = .reacquire ∧ t.tbs = s.tbs ∧
      (x = 2 → s.txAir = none → t.txs = s.txs ∧ t.rx = s.rx ∧ (∀ p, t.get (PEC_PEND_PEND.at p) = s.get (PEC_PEND_PEND.at p)) ∧ SameMem s t)) ∧
    ((s.synth x).ph = .reacquire → ∃ t, exec (.synthReacquireEnd x) s = .next t ∧ (t.synth x).ph = .recoarse ∧
      t.get (SYNx_COARSE_CODE x) = (if s.flag (SYNx_COARSE_OVR x) then s.get (SYNx_COARSE_OVRCODE x)
        else Tab.get 0 (s.synth x).coarse (coarseRegion (s.get (SYNx_FREQ_FREQ x)))) % 2 ^ 7 ∧
      OnlyRegs [SYNx_COARSE_CODE x] s { t with syn := s.syn }) ∧
    ((s.synth x).ph.seeking = true → s.flag (SYNx_CTL_EN x) = true → ∃ t, exec (.synthLockFail x) s = .next t ∧
      t.get (SYNx_STAT_FAIL x) = 1 ∧ t.get (SYNx_STAT_SETTLING x) = 0 ∧ (t.synth x).ph = .failed ∧ SameMem s t ∧
      ((s.synth x).failed = false → t.nvq = s.nvq ++
        [.scree s.tbs.now (s.flag TBS_STAT_DISCONT) 0x0102 (4 + x) 0 1 (octets 1 x ++ octets 4 (s.get (SYNx_FREQ_FREQ x)))]))

/-- SYNT's calibration step, phase steps and phase track leave its target (R66, R67, R69, R70). -/
def Obligations.SyntStepsKeepTheTarget : Prop :=
  ∀ s : State,
    (∀ d, s.calStepOk d = true → ∃ t, exec (.syntCalStepStart d) s = .next t ∧ (t.synth 2).ph = .calStep ∧ t.get (SYNx_STAT_LOCK 2) = 0 ∧
      t.get (SYNx_STAT_CALBUSY 2) = 1 ∧ OnlyRegs [SYNx_STAT_LOCK 2, SYNx_STAT_SETTLING 2, SYNx_STAT_CALBUSY 2] s { t with syn := s.syn }) ∧
    ((s.synth 2).ph = .calStep → ∃ t, exec .syntCalStepEnd s = .next t ∧ (t.synth 2).ph = .settling ∧ t.get (SYNx_STAT_CALBUSY 2) = 0 ∧
      t.get (SYNx_STAT_SETTLING 2) = 1 ∧ (t.synth 2).target = s.get (SYNx_FREQ_FREQ 2) ∧ SameMem s t ∧ t.tbs = s.tbs) ∧
    (∀ n : BitVec 12, s.paDriven = false → n ≠ 0 → ∃ t, exec (.carrierPhaseStep n) s = .next t ∧ t.get SYNT_PHASE_STEPS = 0 ∧
      (t.synth 2).phase = ((s.synth 2).phase + n.toInt) % 4096 ∧ OnlyRegs [SYNT_PHASE_STEPS] s { t with syn := s.syn }) ∧
    (∀ n : BitVec 12, s.paDriven = true → ∃ t, exec (.carrierPhaseStep n) s = .next t ∧ t.get SYNT_PHASE_STEPS = n.toNat ∧
      OnlyRegs [SYNT_PHASE_STEPS] s t) ∧
    (∀ on : Bool, ∃ t, exec (.phaseTrackWrite on) s = .next t ∧ (t.synth 2).track = on ∧ t.get (SYNx_CTL_PHTRACK 2) = on.toNat ∧
      OnlyRegs [SYNx_CTL_PHTRACK 2] s { t with syn := s.syn })

/-- The AGC moves the gain index by one within 0 to 11, and manual mode applies MANGAIN (R83, R84, R86, R6). -/
def Obligations.GainControlMovesOneStep : Prop :=
  ∀ (s : State) (x : Fin 2),
    (s.agcActs x = true → s.get (RXx_STAT_GAIN x) < 11 → ∃ t, exec (.agcAttack x) s = .next t ∧
      t.get (RXx_STAT_GAIN x) = s.get (RXx_STAT_GAIN x) + 1 ∧ OnlyRegs [RXx_STAT_GAIN x] s t) ∧
    (s.agcActs x = true → 0 < s.get (RXx_STAT_GAIN x) → s.get (RXx_STAT_GAIN x) ≤ 11 → ∃ t, exec (.agcDecay x) s = .next t ∧
      t.get (RXx_STAT_GAIN x) = s.get (RXx_STAT_GAIN x) - 1 ∧ OnlyRegs [RXx_STAT_GAIN x] s t) ∧
    (s.agcActs x = false → exec (.agcAttack x) s = .next s ∧ exec (.agcDecay x) s = .next s) ∧
    (∀ w : Word, ∃ t, exec (.agcModeWrite x w) s = .next t ∧
      t.get (RXx_CTL_AGCMODE x) = (if bits w.toNat 8 2 = 3 then s.get (RXx_CTL_AGCMODE x) else bits w.toNat 8 2) ∧
      t.get (RXx_CTL_MANGAIN x) = (if 11 < bits w.toNat 16 4 then s.get (RXx_CTL_MANGAIN x) else bits w.toNat 16 4) ∧
      t.get (RXx_STAT_GAIN x) = (if t.get (RXx_CTL_AGCMODE x) = 2 then t.get (RXx_CTL_MANGAIN x) % 16 else s.get (RXx_STAT_GAIN x)) ∧
      OnlyRegs [RXx_CTL_AGCMODE x, RXx_CTL_MANGAIN x, RXx_STAT_GAIN x] s t)

/-- A chain is enabled, taken out of service and returned; a branch drops out and rejoins without losing a frame (R92, R96, R97, R98, R101, R107). -/
def Obligations.ChainsLeaveAndReturn : Prop :=
  ∀ (s : State) (x : Fin 2),
    (s.svc (1 - x.val) ≠ 0 → ∃ t, exec (.chainRemovalRequest x) s = .next t ∧ t.get (RXx_STAT_SVCREJ x) = 1 ∧ OnlyRegs [RXx_STAT_SVCREJ x] s t) ∧
    (s.svc (1 - x.val) = 0 → s.svc x = 0 → s.combined = false → ∃ t, exec (.chainRemovalRequest x) s = .next t ∧ t.svc x = 1 ∧
      t.get (RXx_SVC_REQ x) = 1 ∧ (t.chn x).waited = 0 ∧
      OnlyRegs [RXx_STAT_SVCREJ x, RXx_SVC_REQ x, RXx_STAT_SVC x] s { t with chain := s.chain }) ∧
    (s.svc (1 - x.val) = 0 → s.svc x = 0 → s.combined = true → ∃ t, exec (.chainRemovalRequest x) s = .next t ∧ t.svc x = 2 ∧
      t.get (RXx_STAT_CAUSE x) = 0 ∧ t.rx = s.rx ∧ SameMem s t) ∧
    (s.svc x = 1 → ∃ t, exec (.chainReturnRequest x) s = .next t ∧ t.svc x = 0 ∧
      OnlyRegs [RXx_STAT_SVCREJ x, RXx_SVC_REQ x, RXx_STAT_SVC x] s t) ∧
    (s.svc x = 2 → s.combined = false → ∃ t, exec (.chainReturnRequest x) s = .next t ∧ t.svc x = 3 ∧ t.get (RXx_SVC_REQ x) = 0 ∧ SameMem s t) ∧
    (∀ en : Bool, ∃ t, exec (.chainEnableWrite x en) s = .next t ∧ t.get (RXx_CTL_EN x) = en.toNat ∧ SameMem s t ∧ t.tbs = s.tbs) ∧
    (∀ (k : Fin 128) (b : Bool), s.combined = true → ∃ t, exec (.branchDropOut k b) s = .next t ∧
      (if b then (t.slot k).dropB else (t.slot k).dropA) = true ∧ { t with slots := s.slots } = s) ∧
    (∀ (k : Fin 128) (b : Bool), s.combined = true → s.chainOff b.toNat = false → (s.chn b.toNat).unrel = false →
      ∃ t, exec (.branchRejoin k b) s = .next t ∧ (if b then (t.slot k).dropB else (t.slot k).dropA) = false ∧
        (∀ j, (t.frame j).isSome = (s.frame j).isSome) ∧ { t with slots := s.slots, rx := s.rx } = s)

/-- A channel plan is locked at its LOAD, judged at the end, and becomes pending or is refused with its REASON (R112, R113, R115). -/
def Obligations.PlansLoadAndWait : Prop :=
  ∀ s : State,
    (s.chb.load = none → ∃ t, exec .planLoad s = .next t ∧ t.get CHB_PLANSTAT_BUSY = 1 ∧
      (∃ l, t.chb = { s.chb with load := some l } ∧ l.addr = s.get CHB_PLANADDR_ADDR * 4 ∧ l.ok = s.planReadable l.addr ∧
        (l.ok = true → l.plan = s.readPlan l.addr)) ∧ OnlyRegs [CHB_PLANSTAT_BUSY] s { t with chb := s.chb }) ∧
    (s.chb.load ≠ none → ∃ t, exec .planLoad s = .next t ∧ t.get CHB_PLANSTAT_ERR = 1 ∧ t.get CHB_PLANSTAT_REASON = 0xC ∧
      OnlyRegs [CHB_PLANSTAT_ERR, CHB_PLANSTAT_REASON, CHB_PLANSTAT_ERRSLOT] s t) ∧
    (∀ l, s.chb.load = some l → l.ok = true → l.plan.check.2 = 0 → l.now = false → ∃ t, exec .planLoadDone s = .next t ∧
      t.chb = { s.chb with load := none, pend := some l.plan } ∧ t.get CHB_PLANSTAT_BUSY = 0 ∧ t.get CHB_PLANSTAT_PEND = 1 ∧
      t.get CHB_PLANSTAT_ERR = 0 ∧ t.get CHB_PLANSTAT_HELD = 0 ∧ { t with regs := s.regs, chb := s.chb } = s) ∧
    (∀ l, s.chb.load = some l → l.ok = false → l.now = false → ∃ t, exec .planLoadDone s = .next t ∧
      t.chb = { s.chb with load := none } ∧ t.get CHB_PLANSTAT_BUSY = 0 ∧ t.get CHB_PLANSTAT_ERR = 1 ∧ t.get CHB_PLANSTAT_REASON = 0xB ∧
      t.get CHB_PLANSTAT_PEND = s.get CHB_PLANSTAT_PEND ∧ { t with regs := s.regs, chb := s.chb } = s) ∧
    (∀ l, s.chb.load = some l → l.ok = true → l.plan.check.2 ≠ 0 → l.now = false → ∃ t, exec .planLoadDone s = .next t ∧
      t.chb = { s.chb with load := none } ∧ t.get CHB_PLANSTAT_BUSY = 0 ∧ t.get CHB_PLANSTAT_ERR = 1 ∧
      t.get CHB_PLANSTAT_REASON = l.plan.check.2 % 16 ∧ t.get CHB_PLANSTAT_PEND = s.get CHB_PLANSTAT_PEND ∧
      { t with regs := s.regs, chb := s.chb } = s) ∧
    (∃ t, exec .planCancel s = .next t ∧ t.chb = { s.chb with pend := none, nowDue := false } ∧ t.get CHB_PLANSTAT_PEND = 0 ∧
      t.get CHB_PLANSTAT_HELD = 0 ∧ OnlyRegs [CHB_PLANSTAT_PEND, CHB_PLANSTAT_HELD, CHB_PLANSTAT_PLANID] s { t with chb := s.chb }) ∧
    (s.chb.pend ≠ none → allSlots.any s.slotEn = false → ∃ t, exec .planNow s = .next t ∧ t.chb = { s.chb with nowDue := true } ∧
      t.get CHB_PLANSTAT_NOWREJ = 0 ∧ OnlyRegs [CHB_PLANSTAT_NOWREJ] s { t with chb := s.chb }) ∧
    (s.chb.pend = none ∨ allSlots.any s.slotEn = true → ∃ t, exec .planNow s = .next t ∧ t.get CHB_PLANSTAT_NOWREJ = 1 ∧
      OnlyRegs [CHB_PLANSTAT_NOWREJ] s t) ∧
    (∀ pl, s.chb.nowDue = true → s.chb.pend = some pl → bit (pl.word 0) 8 = s.combined → ∃ t, exec .planNowActivation s = .next t ∧
      t.chb.active = some pl ∧ t.chb.pend = none ∧ t.get CHB_PLANSTAT_PEND = 0 ∧ SameMem s t) ∧
    (∀ pl, s.chb.nowDue = true → s.chb.pend = some pl → bit (pl.word 0) 8 ≠ s.combined → ∃ t, exec .planNowActivation s = .next t ∧
      t.chb = { s.chb with nowDue := false } ∧ t.get CHB_PLANSTAT_HELD = 1 ∧ OnlyRegs [CHB_PLANSTAT_HELD] s { t with chb := s.chb })

/-- Detections are counted and search, a sync word claims its slot, an overlap drops a frame, cancellers are released (R119, R122, R124, R125, R131, R132, R133, R107). -/
def Obligations.SlotsSearchAndClaim : Prop :=
  ∀ (s : State) (k : Fin 128) (h : Fin 3),
    (∀ lam foff dP, s.detecting k = true → h.val < bits (s.desc k 0) 16 2 → s.nearer k h foff = false → s.frame k = none →
      ∃ t, exec (.preambleDetection k h lam foff dP) s = .next t ∧
        t.get (CHB_DETCNT_DETS.at k) = min (s.get (CHB_DETCNT_DETS.at k) + 1) 0xFFFF ∧
        ((t.slot k).searches.any fun q => decide (q.hyp = h.val)) = true ∧ OnlyRegs [CHB_DETCNT_DETS.at k] s { t with slots := s.slots }) ∧
    (((s.slot k).searches.any fun q => decide (q.hyp = h.val)) = true → ∃ t, exec (.syncSearchTimeout k h) s = .next t ∧
      ((t.slot k).searches.any fun q => decide (q.hyp = h.val)) = false ∧ t.rx = s.rx ∧
      OnlyRegs [CHB_SICSTAT_INUSE] s { t with slots := s.slots }) ∧
    (∀ stamp rssi a b snr foff sfdc, s.detecting k = true → ((s.slot k).searches.any fun q => decide (q.hyp = h.val)) = true →
      (s.combined = true ∨ (s.chn (s.slotChain k)).lockAt ≤ stamp.toNat) →
      ∃ t, exec (.syncWordFound k h stamp rssi a b snr foff sfdc) s = .next t ∧
        t.get (CHB_DETCNT_SYNCS.at k) = min (s.get (CHB_DETCNT_SYNCS.at k) + 1) 0xFFFF ∧ (t.slot k).searches = [] ∧
        (∃ f, t.frame k = some f ∧ f.stamp = stamp.toNat ∧ f.hyp = h ∧ f.stage = .phr) ∧ SameMem s t) ∧
    ((s.slot k).sic ≠ none → ∃ t, exec (.cancellerRecordingEnd k) s = .next t ∧ (t.slot k).sic = none ∧ t.frame (128 + k) = none ∧
      t.get CHB_SICSTAT_INUSE = (s.get CHB_SICSTAT_INUSE - 1) % 32 ∧ SameMem s t) ∧
    (∀ c stamp rssi a b snr foff, (s.slot k).sic = some c → c.strongOk = true →
      ∃ t, exec (.sicRecoveryDone k stamp rssi a b snr foff) s = .next t ∧ (t.slot k).sic = none ∧
        t.get CHB_SICSTAT_INUSE = (s.get CHB_SICSTAT_INUSE - 1) % 32 ∧
        (c.weaker = true → ∃ f, t.frame (128 + k) = some f ∧ f.stamp = stamp.toNat ∧ f.sic = true) ∧ SameMem s t) ∧
    (∃ t, exec (.bankEnableWrite false) s = .next t ∧ t.get CHB_CTL_EN = 0 ∧ t.get CHB_STAT_RUN = 0 ∧ t.frame k = none ∧
      (t.slot k).searches = [] ∧ (t.slot k).sic = none ∧ (t.slot k).ring = [] ∧ t.chb = s.chb ∧ SameMem s t) ∧
    (∃ t, exec (.bankEnableWrite true) s = .next t ∧ t.get CHB_CTL_EN = 1 ∧ t.get CHB_STAT_RUN = s.chb.active.isSome.toNat ∧
      OnlyRegs [CHB_CTL_EN, CHB_STAT_RUN] s t) ∧
    (∃ t, exec .chbClearCounters s = .next t ∧ (∀ j < 128, t.get (CHB_DETCNT_SYNCS.at j) = 0 ∧ t.get (CHB_DETCNT_DETS.at j) = 0 ∧
      t.get (CHB_LOSTA_OVERLAP.at j) = 0 ∧ t.get (CHB_LOSTA_BLANK.at j) = 0 ∧ t.get (CHB_LOSTB_OTHER.at j) = 0) ∧
      t.get CHB_SICSTAT_BUSYCNT = 0 ∧ { t with regs := s.regs } = s)

/-- An energy period records one sample in every enabled slot; a decoder out of service takes no context (R138, R143, R171, R172, R175). -/
def Obligations.EnergyAndDecoders : Prop :=
  ∀ s : State,
    (∀ e n0, s.get CHB_CTL_EN = 1 → ∃ t, exec (.energySample e n0) s = .next t ∧ { t with slots := s.slots } = s ∧
      ∀ k < 128, (s.slotEn k = false → t.slot k = s.slot k) ∧
        (s.slotEn k = true → (∃ v, (t.slot k).ring = (v :: (s.slot k).ring).take 256) ∧ (t.slot k).searches = (s.slot k).searches ∧
          ((t.slot k).valid = 0 ∨ (t.slot k).valid = min ((s.slot k).valid + 1) 256))) ∧
    (∀ (d : Fin 4) ready lat, ((s.get TRL_SVC_OUT).testBit d = true ∨ s.get TRL_CTL_EN = 0) →
      ∃ t, exec (.decoderQuantumEnd d ready lat) s = .next t ∧ Tab.get none t.trl.dec d = none ∧ (t.get TRL_STAT_BUSY).testBit d = false ∧
        OnlyRegs [TRL_LATMAX_CYC, TRL_STAT_INSVC, TRL_STAT_BUSY] s { t with trl := s.trl }) ∧
    (∀ (d : Fin 4) ready lat c, (s.get TRL_SVC_OUT).testBit d = false → s.get TRL_CTL_EN = 1 →
      s.trl.wait = [c] → ready = [c] → Tab.get none s.trl.dec d = none →
      ∃ t, exec (.decoderQuantumEnd d ready lat) s = .next t ∧ Tab.get none t.trl.dec d = some c ∧ t.trl.wait = [] ∧
        OnlyRegs [TRL_LATMAX_CYC, TRL_STAT_INSVC, TRL_STAT_BUSY] s { t with trl := s.trl }) ∧
    (∃ t, exec (.decoderServiceWrite 15) s = .next t ∧ t.get TRL_STAT_SVCREJ = 1 ∧ OnlyRegs [TRL_STAT_SVCREJ] s t) ∧
    (∀ out : BitVec 4, out ≠ 15 → ∃ t, exec (.decoderServiceWrite out) s = .next t ∧ t.get TRL_SVC_OUT = out.toNat ∧
      t.get TRL_STAT_SVCREJ = 0 ∧ t.trl = s.trl ∧ SameMem s t)

/-- The packet handler checks a PHR in order, reserves blocks, and hands on a header (R178, R179, R181, R260, R22, R619). -/
def Obligations.PhrAndHeaderChecks : Prop :=
  ∀ s : State,
    (∀ (fid : Fin 256) (phr : BitVec 24) (f : RxFrame), s.frame fid = some f → f.stage = .phr → s.get PKT_CTL_EN = 1 → f.fmt = 2 →
      phrCrc phr.toNat ≠ bits phr.toNat 16 8 → ∃ t, exec (.phrDecoded fid phr) s = .next t ∧ t.frame fid = none ∧
        t.get PKT_PHRERR_CRCERR = min (s.get PKT_PHRERR_CRCERR + 1) 0xFFFF ∧ SameMem s t ∧ t.tbs = s.tbs) ∧
    (∀ (fid : Fin 256) (phr : BitVec 24) (f : RxFrame), s.frame fid = some f → f.stage = .phr → s.get PKT_CTL_EN = 1 → f.fmt = 2 →
      phrCrc phr.toNat = bits phr.toNat 16 8 → (5 ≤ bits phr.toNat 11 3 ∨ bits phr.toNat 0 11 < 5 + fcsLen 2 (bits phr.toNat 15 1)) →
      ∃ t, exec (.phrDecoded fid phr) s = .next t ∧ t.frame fid = none ∧
        t.get PKT_PHRERR_LENERR = min (s.get PKT_PHRERR_LENERR + 1) 0xFFFF ∧ SameMem s t ∧ t.tbs = s.tbs) ∧
    (∀ (fid : Fin 256) (phr : BitVec 24) (f : RxFrame), s.frame fid = some f → f.stage = .phr → s.get PKT_CTL_EN = 1 →
      (f.fmt = 2 → phrCrc phr.toNat = bits phr.toNat 16 8 ∧ bits phr.toNat 11 3 ≤ 4 ∧ 5 + fcsLen 2 (bits phr.toNat 15 1) ≤ bits phr.toNat 0 11) →
      (f.fmt = 1 → 8 ≤ bits phr.toNat 0 8) → (f.fmt = 3 → bit phr.toNat 15 = false ∧ bits phr.toNat 0 11 ≠ 0) →
      s.get PKT_RXREG_INUSE + ceilDiv (phrLen f.fmt phr.toNat) 128 ≤ 1024 → s.combined = true →
      ∃ t g, exec (.phrDecoded fid phr) s = .next t ∧ t.frame fid = some g ∧ g.stage = (if f.fmt = 3 then .body else .header) ∧
        g.len = phrLen f.fmt phr.toNat ∧ g.blocks = ceilDiv g.len 128 ∧ g.stamp = f.stamp ∧
        t.get PKT_RXREG_INUSE = s.get PKT_RXREG_INUSE + g.blocks ∧
        OnlyRegs [PKT_RXREG_INUSE, PKT_RXREG_PEAK] s { t with rx := s.rx }) ∧
    (∀ (fid : Fin 256) (o : List Byte) (f : RxFrame), s.frame fid = some f → f.stage = .header →
      ∃ t g, exec (.mhrDecoded fid o) s = .next t ∧ t.frame fid = some g ∧ g.stage = .body ∧ g.stamp = f.stamp ∧ SameMem s t) ∧
    (∀ (fid : Fin 256) (o : List Byte) (f : RxFrame), s.frame fid = some f → f.stage = .header → f.fmt = 2 →
      (mhrNative o f.len f.fcst).2 = true → ∃ t g, exec (.mhrDecoded fid o) s = .next t ∧ t.frame fid = some g ∧ g.badHdr = true ∧
        { t with rx := s.rx } = s) ∧
    (∀ (fid : Fin 256) (o : List Byte) (f : RxFrame), s.frame fid = some f → f.stage = .header → f.fmt = 2 →
      (mhrNative o f.len f.fcst).2 = false → s.nidOwner (mhrNative o f.len f.fcst).1.nid = none →
      ∃ t g, exec (.mhrDecoded fid o) s = .next t ∧ t.frame fid = some g ∧ g.stop = some .nonid ∧ { t with rx := s.rx } = s) ∧
    (∃ t, exec (.pktEnableWrite true) s = .next t ∧ t.get PKT_CTL_EN = 1 ∧ OnlyRegs [PKT_CTL_EN] s t) ∧
    (∃ t, exec (.pktEnableWrite false) s = .next t ∧ t.get PKT_CTL_EN = 0 ∧ (∀ k < 256, t.frame k = none) ∧ SameMem s t) ∧
    (∃ t, exec .pktClearCounters s = .next t ∧ t.get PKT_RXREG_PEAK = 0 ∧ t.get PKT_PHRERR_LENERR = 0 ∧ t.get PKT_PHRERR_CRCERR = 0 ∧
      t.get PKT_FCSERR_HDRERR = 0 ∧ t.get PKT_FCSERR_FCS = 0 ∧ t.get PKT_DROP_MS = 0 ∧ t.get PKT_DROP_RXBUF = 0 ∧ t.get PKT_RXOK_COUNT = 0 ∧
      OnlyRegs [PKT_RXREG_PEAK, PKT_PHRERR_LENERR, PKT_PHRERR_CRCERR, PKT_FCSERR_HDRERR, PKT_FCSERR_FCS, PKT_DROP_MS, PKT_DROP_RXBUF,
        PKT_RXOK_COUNT] s t)

/-- The end of a frame discards it on its FCS or header, or moves it to quarantine; its record frees its blocks (R182, R181, R180, R21, R618, R380). -/
def Obligations.FrameEndsDecideDiscardOrRelease : Prop :=
  ∀ s : State,
    (∀ (fid : Fin 256) (psdu : List Byte) (lqi : Byte) (f : RxFrame), s.frame fid = some f → f.stage = .body → psdu.length = f.len →
      fcsOk f.fmt f.fcst f.len psdu = false → ∃ t, exec (.frameEnd fid psdu lqi) s = .next t ∧ t.frame fid = none ∧
        t.get PKT_FCSERR_FCS = min (s.get PKT_FCSERR_FCS + 1) 0xFFFF ∧ t.rxNext = s.rxNext ∧ SameMem s t) ∧
    (∀ (fid : Fin 256) (psdu : List Byte) (lqi : Byte) (f : RxFrame), s.frame fid = some f → f.stage = .body → psdu.length = f.len →
      fcsOk f.fmt f.fcst f.len psdu = true → f.badHdr = true → ∃ t, exec (.frameEnd fid psdu lqi) s = .next t ∧ t.frame fid = none ∧
        t.get PKT_FCSERR_HDRERR = min (s.get PKT_FCSERR_HDRERR + 1) 0xFFFF ∧ t.rxNext = s.rxNext ∧ SameMem s t) ∧
    (∀ (fid : Fin 256) (psdu : List Byte) (lqi : Byte) (f : RxFrame), s.frame fid = some f → f.stage = .body → psdu.length = f.len →
      fcsOk f.fmt f.fcst f.len psdu = true → f.badHdr = false → ∃ t, exec (.frameEnd fid psdu lqi) s = .next t ∧ t.frame fid = none ∧
        t.get PKT_RXOK_COUNT = min (s.get PKT_RXOK_COUNT + 1) 0xFFFFFFFF ∧ t.rxNext = s.rxNext + 1) ∧
    (∀ (fid : Nat) (hdr body : List Byte) (f : RxFrame) (p li : Nat), s.frame fid = some f → f.part = some p → f.entry = some li →
      f.secured = true → f.stop = none → f.badHdr = false → f.verdict = none → f.stage = .body →
      (s.rxKey p li f = some (.cur li) → s.useHolds p li = false) →
      ∃ t g, exec (.micVerdict fid hdr body) s = .next t ∧ t.frame fid = some g ∧ g.verdict ≠ none ∧ g.stage = .body ∧ t.tbs = s.tbs ∧
        (s.frameKey p li f = none → g.verdict = some false ∧ { t with rx := s.rx } = s)) ∧
    (∀ (q : Nat) (f : RxFrame) (p : Nat), s.frame q = some f → f.part = some p → f.stage = .done →
      ∃ t, exec (.rxRecordWritten q) s = .next t ∧ t.frame q = none ∧ t.get PKT_RXREG_INUSE = (s.get PKT_RXREG_INUSE - f.blocks) % 2 ^ 11 ∧
        (s.pexists p = true → f.imgB = false → Pends t p .rxFrame) ∧ t.tbs = s.tbs ∧ t.txs = s.txs) ∧
    (∀ (id : Nat) (x : Tx) (fid : Nat), s.txFind id = some x → x.kind = .ack fid → x.stage = .fixed → x.ok = false → x.t0 ≤ s.tbs.now + 6400 →
      ∃ t, exec (.ackCommitPoint id) s = .next t ∧ (∀ y ∈ t.txs, y.id ≠ id) ∧ SameMem s t) ∧
    (∀ (id : Nat) (x : Tx) (fid : Nat), s.txFind id = some x → x.kind = .ack fid → x.ok = true → exec (.ackCommitPoint id) s = .next s)

/-- The native code sends as many bits as its table says, the PHR's check closes, and whitening twice gives the bits back (R148, R149, R156, R157, R158, R159). -/
def Obligations.NativeCodingHasItsLengthsAndUndoesItself : Prop :=
  (∀ (code : Nat) (wht : Bool) (body : List Byte), code ≤ 4 → (psduBits code wht body).length =
    (if code = 0 then 8 * body.length else if code = 1 then 2 * (8 * body.length + 6) else if code = 2 then 3 * (8 * body.length + 6) / 2
      else if code = 3 then 4 * ((8 * body.length + 6) / 3) + (if (8 * body.length + 6) % 3 = 1 then 2 else if (8 * body.length + 6) % 3 = 2 then 3 else 0)
      else 128 * ((8 * body.length + 6 + 63) / 64))) ∧
  (∀ (len code fcst : Nat) (wht : Bool), len < 2048 → code < 8 → fcst < 2 →
    (List.range 24).foldl (fun r i => crcBit 8 7 r ((phrWord len code fcst wht).testBit i)) 0 = 0) ∧
  (∀ l : List Bool, whiten (whiten l) = l) ∧
  (∀ (l : List Bool) (i : Nat), i < 128 → l.length = 128 → (interleave l).getD (16 * (i % 8) + i / 8) false = l.getD i false)

/-- A profile write or a tap commit that fails a check changes nothing but its refusal (R185, R192, R199, R6). -/
def Obligations.TransmitSettingsAreCheckedWhole : Prop :=
  ∀ (s : State) (w : Word),
    (∀ (n : Fin 16) (k : Fin 3), (if k = 2 then w.toNat ≠ 0 else s.get (TXM_PROFnC_PARTMASK n) ≠ 0) →
      s.profReason (if k = 0 then w.toNat else s.profA n) (if k = 1 then w.toNat else s.profB n) ≠ 0 →
      ∃ t, exec (.profileWrite n k w) s = .next t ∧ t.get TXM_STAT_PROFREJ = 1 ∧
        t.get TXM_STAT_REASON = s.profReason (if k = 0 then w.toNat else s.profA n) (if k = 1 then w.toNat else s.profB n) % 16 ∧
        OnlyRegs [TXM_STAT_PROFREJ, TXM_STAT_REASON] s t) ∧
    (∀ n : Fin 16, (w.toNat = 0 ∨ s.profReason (s.profA n) (s.profB n) = 0) → ∃ t, exec (.profileWrite n 2 w) s = .next t ∧
      t.get TXM_STAT_PROFREJ = 0 ∧ t.get (TXM_PROFnC_PARTMASK n) = w.toNat ∧ OnlyRegs [TXM_STAT_PROFREJ, TXM_PROFnC_PARTMASK n] s t) ∧
    (∀ n : Fin 16, s.get (TXM_PROFnC_PARTMASK n) = 0 → bits w.toNat 29 3 ≤ 4 → bits w.toNat 26 3 ≤ 5 →
      ∃ t, exec (.profileWrite n 0 w) s = .next t ∧
        t.get (TXM_PROFnA_MOD n) = bits w.toNat 29 3 ∧ t.get (TXM_PROFnA_SHAPE n) = bits w.toNat 26 3 ∧
        t.get (TXM_PROFnA_FEMSEL n) = bits w.toNat 25 1 ∧ t.get (TXM_PROFnA_MASKSEL n) = bits w.toNat 24 1 ∧ { t with regs := s.regs } = s) ∧
    (w.toNat % 4 = 1 → s.tapsFit 0 (peakGain (bit w.toNat 8) (s.tapsWritten 0)) = true → ∃ t, exec (.tapCommit w) s = .next t ∧
      t.txm = { s.txm with taps0 := s.tapsWritten 0, imp0 := bit w.toNat 8 } ∧ t.get TXM_STAT_TAPREJ = 0 ∧
      t.get TXM_TAPG_G0 = peakGain (bit w.toNat 8) (s.tapsWritten 0) % 2 ^ 16 ∧ { t with regs := s.regs, txm := s.txm } = s) ∧
    (w.toNat % 4 = 1 → s.tapsFit 0 (peakGain (bit w.toNat 8) (s.tapsWritten 0)) = false → ∃ t, exec (.tapCommit w) s = .next t ∧
      t.get TXM_STAT_TAPREJ = 1 ∧ t.get TXM_STAT_REASON = 4 ∧
      OnlyRegs [TXM_TAPCTL_INMODE0, TXM_TAPCTL_INMODE1, TXM_STAT_TAPREJ, TXM_STAT_REASON] s t) ∧
    (∃ t, exec (.femPatternWrite w) s = .next t ∧ t.get TXM_FEMPAT_OFFPAT = bits w.toNat 12 4 ∧ t.get TXM_FEMPAT_TXPATB = bits w.toNat 8 4 ∧
      t.get TXM_FEMPAT_TXPATA = bits w.toNat 4 4 ∧ t.get TXM_FEMPAT_RXPAT = bits w.toNat 0 4 ∧
      OnlyRegs [TXM_FEMPAT_OFFPAT, TXM_FEMPAT_TXPATB, TXM_FEMPAT_TXPATA, TXM_FEMPAT_RXPAT] s t)

/-- Ramp-up, symbols, ramp-down, tail, the interval's end and the blanking after it follow in order (R64, R93, R196, R197, R201, R202). -/
def Obligations.TheTransmitIntervalRunsItsSteps : Prop :=
  ∀ s : State,
    (∀ x, s.txAir = some x → s.get TXM_STAT_PHASE = 1 → x.start + x.snap.lead * 64 ≤ s.tbs.now → s.gateFor x.freq = true →
      ∃ t, exec .rampUpStart s = .next t ∧ t.get TXM_STAT_PHASE = 2 ∧ t.get (SYNx_STAT_DEVCLIP 2) = 0 ∧
        OnlyRegs [TXM_STAT_PHASE, SYNx_STAT_DEVCLIP 2] s { t with txm := s.txm }) ∧
    (∀ x, s.txAir = some x → s.gateFor x.freq = false → exec .rampUpStart s = .next s) ∧
    (∀ x, s.txAir = some x → s.get TXM_STAT_PHASE = 2 → x.symEnd ≤ s.tbs.now →
      ∃ t, exec .symbolsEnd s = .next t ∧ t.get TXM_STAT_PHASE = 4 ∧ OnlyRegs [TXM_STAT_PHASE, SYNx_STAT_DEVCLIP 2] s t) ∧
    (∀ x, s.txAir = some x → s.get TXM_STAT_PHASE = 4 → x.symEnd + x.snap.ramp * 64 ≤ s.tbs.now →
      ∃ t, exec .rampDownEnd s = .next t ∧ t.get TXM_STAT_PHASE = 5 ∧ t.paDriven = false ∧ (t.synth 2).heldWord = none ∧
        SameMem s t ∧ t.tbs = s.tbs) ∧
    (∀ x, s.txAir = some x → s.get TXM_STAT_PHASE = 5 → x.ended + x.snap.tail * 64 ≤ s.tbs.now → s.pwr.sleep = none →
      ∃ t, exec .transmitIntervalEnd s = .next t ∧ t.get TXM_STAT_ACTIVE = 0 ∧ t.get TXM_STAT_PHASE = 0 ∧ t.txm.ivEnd = s.tbs.now ∧
        t.txm.blank = s.txm.blank ∧ t.tbs = s.tbs) ∧
    (s.txm.blank = true → s.get TXM_STAT_ACTIVE = 0 → s.txm.ivEnd + 768 ≤ s.tbs.now → ∃ t, exec .blankingEnd s = .next t ∧
      t.txm = { s.txm with blank := false, clearAt := s.tbs.now } ∧ t.get (RXx_STAT_PROT 0) = 0 ∧ SameMem s t ∧ t.tbs = s.tbs) ∧
    (∀ pw, s.txm.mon = false → exec (.maskPeriodEnd pw) s = .next s) ∧
    (∀ pw x, s.txAir = some x → s.txm.mon = true → s.get RXB_MONCTL_EN = 1 → 2 ≤ s.get TXM_STAT_PHASE → s.txm.perEnd ≤ s.tbs.now →
      bits x.snap.maskCtl 8 2 = 0 → s.air.prof = none → ∃ t, exec (.maskPeriodEnd pw) s = .next t ∧ t.txm.maskBad = s.txm.maskBad ∧
        { t with txm := s.txm } = s)

/-- A regulatory profile is loaded, refused, cancelled, and becomes active (R209, R210, R212, R218). -/
def Obligations.RegulatoryProfilesLoadAndActivate : Prop :=
  ∀ s : State,
    (s.air.load = none → ∃ t, exec .regulatoryLoadWrite s = .next t ∧ t.get AIR_REGSTAT_BUSY = 1 ∧
      (∃ l, t.air = { s.air with load := some l } ∧ l.now = false ∧
        (l.verdict = 0 → l.octs = s.winOcts 0 (s.get AIR_REGADDR_ADDR * 4) (regLen (s.winOcts 0 (s.get AIR_REGADDR_ADDR * 4) 16)))) ∧
      OnlyRegs [AIR_REGSTAT_BUSY] s { t with air := s.air }) ∧
    (s.air.load ≠ none → ∃ t, exec .regulatoryLoadWrite s = .next t ∧ t.get AIR_REGSTAT_ERR = 1 ∧ t.get AIR_REGSTAT_REASON = 7 ∧
      OnlyRegs ([AIR_REGSTAT_ERR, AIR_REGSTAT_REASON] ++ evFlds) s t) ∧
    (s.svHalted = true → exec .regulatoryLoadDone s = .next s) ∧
    (∀ l, s.svHalted = false → s.air.load = some l → s.regVerdict l = 0 → l.now = false →
      ∃ t, exec .regulatoryLoadDone s = .next t ∧ t.air = { s.air with load := none, pend := some (regParse l.octs) } ∧
        t.get AIR_REGSTAT_BUSY = 0 ∧ t.get AIR_REGSTAT_PEND = 1 ∧ t.get AIR_REGSTAT_ERR = 0 ∧ t.get AIR_STAT_REGPEND = 1 ∧
        t.get AIR_REGSTAT_PROFID = (regParse l.octs).profid % 2 ^ 16 ∧ SameMem s t) ∧
    (∀ l, s.svHalted = false → s.air.load = some l → s.regVerdict l ≠ 0 →
      ∃ t, exec .regulatoryLoadDone s = .next t ∧ t.air = { s.air with load := none } ∧ t.get AIR_REGSTAT_BUSY = 0 ∧
        t.get AIR_REGSTAT_ERR = 1 ∧ t.get AIR_REGSTAT_REASON = s.regVerdict l % 16 ∧ t.get AIR_REGSTAT_PEND = s.get AIR_REGSTAT_PEND ∧
        SameMem s t) ∧
    (∃ t, exec .regulatoryCancel s = .next t ∧ t.air = { s.air with pend := none, nowDue := false } ∧ t.get AIR_REGSTAT_PEND = 0 ∧
      t.get AIR_STAT_REGPEND = 0 ∧ t.get AIR_REGSTAT_PROFID = 0 ∧
      OnlyRegs [AIR_REGSTAT_PEND, AIR_REGSTAT_PROFID, AIR_STAT_REGPEND] s { t with air := s.air }) ∧
    (s.air.prof = none → s.air.pend ≠ none → ∃ t, exec .regulatoryNow s = .next t ∧ t.air = { s.air with nowDue := true } ∧
      t.get AIR_REGSTAT_NOWREJ = 0 ∧ OnlyRegs [AIR_REGSTAT_NOWREJ] s { t with air := s.air }) ∧
    (s.air.prof ≠ none ∨ s.air.pend = none → ∃ t, exec .regulatoryNow s = .next t ∧ t.get AIR_REGSTAT_NOWREJ = 1 ∧
      OnlyRegs [AIR_REGSTAT_NOWREJ] s t) ∧
    (s.air.nowDue = false → exec .regulatoryNowActivation s = .next s) ∧
    (∀ r, s.air.nowDue = true → s.air.pend = some r → ∃ t, exec .regulatoryNowActivation s = .next t ∧ t.air.prof = some r ∧
      t.air.pend = none ∧ t.air.nowDue = false ∧ t.get AIR_STAT_REGACT = 1 ∧ t.get AIR_STAT_PROFID = r.profid % 2 ^ 16 ∧
      t.get AIR_REGSTAT_PEND = 0 ∧ t.nvq = s.nvq ++ [NvReq.config] ∧ { t with regs := s.regs, air := s.air, nvq := s.nvq } = s)

/-- A frame draws its airtime, waits, listens, backs off, is released, retried or given up (R214, R219, R220, R222, R226, R236, R283, R284, R427). -/
def Obligations.FramesDrawListenAndWait : Prop :=
  ∀ (s : State) (id : Nat) (x : Tx), s.txFind id = some x →
    (x.stage = .bucket → s.txWaits x = false → x.airtime (s.txSnap x.prof) ≤ s.get ((SAD_ACAPp_CAP x.p).at 200) →
      (s.part x.p).level < ((x.airtime (s.txSnap x.prof) : Nat) : Rat) → exec (.airtimeDrawn id) s = .next s) ∧
    (x.stage = .bucket → s.txWaits x = false → x.airtime (s.txSnap x.prof) ≤ s.get ((SAD_ACAPp_CAP x.p).at 200) →
      ¬ (s.part x.p).level < ((x.airtime (s.txSnap x.prof) : Nat) : Rat) → s.airOn = false → ∃ t, exec (.airtimeDrawn id) s = .next t ∧
        (t.part x.p).level = (s.part x.p).level - ((x.airtime (s.txSnap x.prof) : Nat) : Rat) ∧
        (∃ y, t.txFind id = some y ∧ y.stage = .held ∧ y.drawn = x.airtime (s.txSnap x.prof)) ∧
        { t with parts := s.parts, txs := s.txs } = s) ∧
    (x.stage = .held → x.until_ ≤ s.tick → s.airOn = true → s.grant x.freq x.air s.tick x.latest = .grant →
      ∃ t, exec (.regulatoryWaitEnd id) s = .next t ∧
        t.txFind id = some { x with stage := if (s.lbtParams x.freq).isSome then .listen else .clear, clearAt := s.tick, until_ := s.tick } ∧
        { t with txs := s.txs } = s) ∧
    (x.stage = .backoff → x.until_ ≤ s.tick → s.airOn = true → s.grant x.freq x.air s.tick x.latest = .grant →
      ∃ t, exec (.backoffEnd id) s = .next t ∧
        t.txFind id = some { x with stage := if (s.lbtParams x.freq).isSome then .listen else .clear, clearAt := s.tick, until_ := s.tick } ∧
        { t with txs := s.txs } = s) ∧
    (x.stage = .backoff → s.tick < x.until_ → exec (.backoffEnd id) s = .next s) ∧
    (∀ e thr n w k, x.stage = .listen → s.air.lbtRet = none → s.lbtParams x.freq = some (thr, n) →
      profWidth (s.profA x.prof) (s.profB x.prof) = some w → s.monSlot x.freq w = some k → n ≤ (s.slot k).valid →
      (s.slot k).busy thr n = false → ∃ t, exec (.lbtDecision id e) s = .next t ∧
        t.txFind id = some { x with stage := .clear, clearAt := s.tick } ∧ { t with txs := s.txs } = s) ∧
    (∀ e thr n w k, x.stage = .listen → s.air.lbtRet = none → s.lbtParams x.freq = some (thr, n) →
      profWidth (s.profA x.prof) (s.profB x.prof) = some w → s.monSlot x.freq w = some k → (s.slot k).valid < n →
      exec (.lbtDecision id e) s = .next s) ∧
    (x.fixed = false → x.stage = .clear → s.airOn = true → s.cal.step = none → s.lapsed x = true →
      ∃ t, exec (.transmissionRelease id) s = .next t ∧ t.txFind id = some { x with stage := .listen } ∧ { t with txs := s.txs } = s) ∧
    (x.fixed = false → s.tick ≤ x.latest → exec (.latestStartExpiry id) s = .next s) ∧
    (x.fixed = false → x.kind = .resync → x.stage = .bucket → s.air.lbtRet = none → x.latest < s.tick →
      ∃ t, exec (.latestStartExpiry id) s = .next t ∧ t.txFind id = none ∧ (t.part x.p).level = (s.part x.p).level + (x.drawn : Rat) ∧
        { t with parts := s.parts, txs := s.txs } = s) ∧
    (x.stage = .retry → x.until_ ≤ s.tick → ∃ t, exec (.deferRetry id) s = .next t ∧
      t.txFind id = some { x with stage := .bucket, latest := if x.named then x.latest else s.tick + 1000 * s.get (AIR_TXPOL_MAXWAIT.at x.p) } ∧
      { t with txs := s.txs } = s) ∧
    (x.stage = .acked → x.ended + 1000 * x.ackWait ≤ s.tick → ∃ t, exec (.ackTimeout id) s = .next t ∧ t.txFind id = none ∧
      OnlyRegs evFlds s { t with txs := s.txs }) ∧
    (x.stage = .acked → s.tick < x.ended + 1000 * x.ackWait → exec (.ackTimeout id) s = .next s)

/-- A fixed start is released 100 ticks before T0 when granted, pretuned and checked, and a frame that no longer fits is withdrawn (R65, R223, R225, R226, R340, R341). -/
def Obligations.FixedStartsKeepTheirTimes : Prop :=
  ∀ (s : State) (id : Nat) (x : Tx), s.txFind id = some x →
    (x.fixed = true → x.kind = .beacon → x.stage = .fixed → x.t0 ≤ s.tbs.now + 6400 → s.pwr.sleep = none → s.looseAtRsa = [] →
      s.grant x.freq x.air (x.t0 / 64) (x.t0 / 64) = .grant → ∃ t, exec (.transmissionRelease id) s = .next t ∧
        t.txFind id = some { x with stage := .atRsa, until_ := s.tick } ∧ ((t.prog 33).evp).testBit 0 = true ∧
        { t with txs := s.txs, progs := s.progs } = s) ∧
    (x.fixed = true → s.tbs.now + 6400 < x.t0 → exec (.transmissionRelease id) s = .next s) ∧
    (x.fixed = true → (x.stage = .fixed ∨ x.stage = .atRsa ∨ x.stage = .bound) → s.fixedDue.contains x = true →
      x.t0 ≤ s.tbs.now + 22400 → s.gateFor x.freq = false → s.inCol = false → s.paDriven = false → freqOk x.freq = true →
      ∃ t, exec (.syntPretune id) s = .next t ∧ t.get (SYNx_FREQ_FREQ 2) = x.freq % 2 ^ 32 ∧ t.txs = s.txs ∧ SameMem s t) ∧
    (s.gateFor x.freq = true → exec (.syntPretune id) s = .next s) ∧
    (s.fixedDue.contains x = true → x.decided = false → x.t0 ≤ s.tbs.now + 1280 → s.pwr.sleep = none →
      (s.fixedLbt x = false ∨ s.fixedClear x = true) → ∃ t, exec (.fixedStartLbtCheck id) s = .next t ∧
        t.txFind id = some { x with decided := true } ∧ { t with txs := s.txs } = s) ∧
    (s.tbs.now + 1280 < x.t0 → exec (.fixedStartLbtCheck id) s = .next s) ∧
    (∀ y, s.looseAtRsa = [y] → s.meetsNext y = true → exec .transmissionWithdrawal s = .next s) ∧
    (∀ y, s.looseAtRsa = [y] → y.stage = .atRsa → s.meetsNext y = false → s.txFind y.id = some y → ∃ t, exec .transmissionWithdrawal s = .next t ∧
      t.txFind y.id = some { y with stage := if (s.lbtParams y.freq).isSome then .listen else .clear } ∧
      { t with txs := s.txs, progs := s.progs } = s) ∧
    (s.looseAtRsa = [] → exec .transmissionWithdrawal s = .next s) ∧
    (∀ y, s.txBound = some y → y.fixed = false → y.until_ + s.get AIR_TXLOCKWAIT_WAIT ≤ s.tick → ∃ t, exec .txLockWaitLimit s = .next t ∧
      ((t.prog 33).evp).testBit 2 = true ∧ { t with progs := s.progs } = s) ∧
    (∀ y, s.txBound = some y → s.tick < y.until_ + s.get AIR_TXLOCKWAIT_WAIT → exec .txLockWaitLimit s = .next s)

/-- A beacon boundary activates the pending profile and sets the next boundary; beacons and group acknowledgements are built before their instants (R205, R206, R207, R230, R232, R237, R619). -/
def Obligations.BeaconBoundariesApplyWhatWaits : Prop :=
  ∀ s : State,
    (s.tick < s.air.nextB → exec .beaconBoundary s = .next s) ∧
    (s.air.nextB ≤ s.tick → s.pwr.sleep = none → ∃ t, exec .beaconBoundary s = .next t ∧
      t.air.prof = (match s.air.pend with | some r => some r | none => s.air.prof) ∧ t.air.pend = none ∧
      t.air.bper = s.get AIR_BPER_PER ∧ t.air.bofs = s.get AIR_BOFS_OFS ∧ t.air.nextB = t.boundaryAfter s.tick ∧
      t.get AIR_NEXTB_TICK = t.air.nextB % 2 ^ 32 ∧ t.tbs = s.tbs) ∧
    (s.air.nextB ≤ s.tick → s.pwr.sleep = some .sleep → ∃ t, exec .beaconBoundary s = .next t ∧ t.air.prof = s.air.prof ∧
      t.air.nextB = t.boundaryAfter s.tick ∧ OnlyRegs [AIR_NEXTB_TICK] s { t with air := s.air }) ∧
    (∀ (w : Word) (p : Fin 32), AIR_BPER_PER.allows w.toNat = true →
      ((allParts.all fun p => bperOk w.toNat (s.get (AIR_BCNP_BDIV.at p))) && bperOk w.toNat (s.get COL_TX_BDIV)) = true →
      ∃ t, exec (.beaconPeriodWrite 0 p w) s = .next t ∧ t.get AIR_BPER_PER = w.toNat % 2 ^ AIR_BPER_PER.w ∧ t.get AIR_STAT_BPREJ = 0 ∧
        OnlyRegs [AIR_BPER_PER, AIR_STAT_BPREJ] s t) ∧
    (∀ (w : Word) (p : Fin 32), AIR_BPER_PER.allows w.toNat = true →
      ((allParts.all fun p => bperOk w.toNat (s.get (AIR_BCNP_BDIV.at p))) && bperOk w.toNat (s.get COL_TX_BDIV)) = false →
      ∃ t, exec (.beaconPeriodWrite 0 p w) s = .next t ∧ t.get AIR_STAT_BPREJ = 1 ∧ OnlyRegs [AIR_STAT_BPREJ] s t) ∧
    (∀ (w : Word) (p : Fin 32), ∃ t, exec (.beaconPeriodWrite 1 p w) s = .next t ∧
      OnlyRegs [AIR_STAT_BPREJ, AIR_BCNP_EN.at p, AIR_BCNP_NIDX.at p, AIR_BCNP_VERHI.at p, AIR_BCNP_VERLO.at p, AIR_BCNP_BPROF.at p,
        AIR_BCNP_BDIV.at p, AIR_BCNP_XLEN.at p] s t) ∧
    (∀ (w : Word) (p : Fin 32), ∃ t, exec (.beaconPeriodWrite 2 p w) s = .next t ∧
      OnlyRegs [AIR_STAT_BPREJ, COL_TX_BDIV, COL_TX_TXPROF] s t) ∧
    (∀ p : Fin 32, s.tick + 1000 < s.groupAt p → exec (.groupAckBuild p) s = .next s) ∧
    (∀ p : Fin 32, s.pwr.sleep = none → s.groupAt p ≤ s.tick + 1000 → Tab.get 0 s.air.gbuilt p ≠ s.groupAt p → s.air.gents = [] →
      ∃ t, exec (.groupAckBuild p) s = .next t ∧ t.air = { s.air with gbuilt := Tab.set 0 s.air.gbuilt p (s.groupAt p) } ∧
        t.txs = s.txs ∧ SameMem s t) ∧
    (∀ (p : Fin 32) b body, (s.air.bcnDue.find? fun e => e.1 = p.val) = some (p.val, b, body) → s.pwr.sleep = none →
      (s.beaconFrame p b body).ts / 64 ≤ s.tick + 1000 → s.airOn = false →
      ∃ t, exec (.beaconBuild p) s = .next t ∧ t.air = { s.air with bcnDue := s.air.bcnDue.filter fun e => e.1 ≠ p.val } ∧
        { t with air := s.air } = s) ∧
    (∀ (p : Fin 32) b body u, (s.air.bcnDue.find? fun e => e.1 = p.val) = some (p.val, b, body) → s.pwr.sleep = none →
      (s.beaconFrame p b body).ts / 64 ≤ s.tick + 1000 → syncOk 2 (s.get ((AIR_TXSYNCn_SYNC (s.beaconFrame p b body).sync).at p)) = true →
      (s.get (TXM_PROFnC_PARTMASK (s.beaconFrame p b body).prof)).testBit p = true →
      ({ s with air := { s.air with bcnDue := s.air.bcnDue.filter fun e => e.1 ≠ p.val } } : State).reserve (s.beaconFrame p b body)
        ((s.beaconFrame p b body).airtime (s.txSnap (s.beaconFrame p b body).prof)) = some u →
      ∃ t, exec (.beaconBuild p) s = .next t ∧ t.txs = u.txs ∧ (t.part p).seqB = ((s.part p).seqB + 1) % 256 ∧ t.air = u.air ∧
        { t with air := s.air, txs := s.txs, parts := s.parts } = s) ∧
    (∀ p : Fin 32, (s.air.bcnDue.find? fun e => e.1 = p.val) = none → exec (.beaconBuild p) s = .next s) ∧
    (∀ (p : Fin 32) x l u, s.pwr.sleep = none → s.groupAt p ≤ s.tick + 1000 → Tab.get 0 s.air.gbuilt p ≠ s.groupAt p →
      ({ s with air := { s.air with gbuilt := Tab.set 0 s.air.gbuilt p (s.groupAt p) } } : State).groupTx p (s.groupAt p) = some (x, l) →
      syncOk 2 (s.get ((AIR_TXSYNCn_SYNC x.sync).at p)) = true →
      ({ s with air := { s.air with gbuilt := Tab.set 0 s.air.gbuilt p (s.groupAt p) } } : State).reserve x
        (x.airtime (s.txSnap x.prof) - (l.map GEnt.air).sum) = some u →
      ∃ t, exec (.groupAckBuild p) s = .next t ∧ t.txs = u.txs ∧ (t.part p).seqG = ((s.part p).seqG + 1) % 256 ∧ SameMem s t) ∧
    (∃ t, exec .airClearCounters s = .next t ∧ t.get AIR_BLKCNT_LOST = 0 ∧ t.get AIR_BLKCNT_INTV = 0 ∧ t.get AIR_BLKTIME_MS = 0 ∧
      t.get AIR_NONID_COUNT = 0 ∧ t.get AIR_ACKSTAT_NOTSENT = 0 ∧ t.get AIR_ACKSTAT_SENT = 0 ∧
      (∀ p < 32, t.get (AIR_PAIRT_MS.at p) = 0 ∧ t.get (AIR_PACK_NOTSENT.at p) = 0) ∧ { t with regs := s.regs, air := s.air } = s) ∧
    (∃ t, exec (.airEnableWrite true) s = .next t ∧ t.get AIR_CTL_EN = 1 ∧ OnlyRegs [AIR_CTL_EN] s t) ∧
    (∃ t, exec (.airEnableWrite false) s = .next t ∧ t.get AIR_CTL_EN = 0 ∧ t.air = s.air ∧
      (s.fixedDue = [] → OnlyRegs [AIR_CTL_EN] s t))

/-- The wheel offers windows, judges them, counts misses and resynchronises; the address range and counters follow their writes (R246, R252, R253, R254, R255, R256, R258, R619). -/
def Obligations.WakeWindowsAreOfferedAndJudged : Prop :=
  ∀ (s : State) (p : Fin 32) (li : Nat),
    (s.wheelRuns = true → (s.ascEnt (s.entOf p li)).armed = true → (s.ascEnt (s.entOf p li)).offered = false →
      s.clsTx p (s.entClass (s.entOf p li)) = true → s.windowFrame p li = none →
      (s.ascEnt (s.entOf p li)).w - (s.ascEnt (s.entOf p li)).h - ((s.get ASC_WHL_LEAD * 1000 : Nat) : Int) ≤ (s.tick : Int) →
      ∃ t, exec (.wheelOffer p li) s = .next t ∧ (t.ascEnt (s.entOf p li)).offered = true ∧
        OnlyRegs [ASC_WHL_MAXLAT] s { t with asc := s.asc }) ∧
    (s.wheelRuns = false → exec (.wheelOffer p li) s = .next s ∧ exec (.receiveWindowVerdict p li) s = .next s ∧
      exec (.transmitWindowVerdict p li) s = .next s ∧ exec (.resyncFrameTimer p li) s = .next s) ∧
    (s.verdictDue (s.entOf p li) = true → s.clsTx p (s.entClass (s.entOf p li)) = false → s.entFrs (s.entOf p li) = false →
      ∃ t, exec (.receiveWindowVerdict p li) s = .next t ∧
        t.entFlag (s.entOf p li) 3 4 = (if (s.ascEnt (s.entOf p li)).hit then 0 else min (s.entFlag (s.entOf p li) 3 4 + 1) 15) ∧
        t.ent (s.entOf p li) 60 4 = (s.ent (s.entOf p li) 60 4 + s.clsPeriod (s.entOwner (s.entOf p li)) (s.entClass (s.entOf p li))) % 2 ^ 32 ∧
        t.get (ASC_PCNT_MISSED.at p) = (if (s.ascEnt (s.entOf p li)).hit then s.get (ASC_PCNT_MISSED.at p)
          else min (s.get (ASC_PCNT_MISSED.at p) + 1) (2 ^ ASC_PCNT_MISSED.w - 1)) ∧
        (∀ a, a < ntFirst + 64 * s.entOf p li ∨ ntFirst + 64 * s.entOf p li + 64 ≤ a → t.byte a = s.byte a)) ∧
    (s.verdictDue (s.entOf p li) = true → s.clsTx p (s.entClass (s.entOf p li)) = true →
      (s.entFrs (s.entOf p li) && (s.ascEnt (s.entOf p li)).hit) = false →
      ∃ t, exec (.transmitWindowVerdict p li) s = .next t ∧
        t.ent (s.entOf p li) 60 4 = (s.ent (s.entOf p li) 60 4 + s.clsPeriod (s.entOwner (s.entOf p li)) (s.entClass (s.entOf p li))) % 2 ^ 32 ∧
        t.txs = s.txs ∧ t.parts = s.parts ∧
        (∀ a, a < ntFirst + 64 * s.entOf p li ∨ ntFirst + 64 * s.entOf p li + 64 ≤ a → t.byte a = s.byte a)) ∧
    (s.wheelRuns = true → s.entSt (s.entOf p li) = 2 → s.entFrs (s.entOf p li) = false → s.get (ASC_LOSTCFG_RPER.at p) ≠ 0 →
      (s.ascEnt (s.entOf p li)).resync ≤ s.tick → s.txQueued p < (s.part p).desc.txQ → s.txSecCheck p li = none →
      syncOk 2 (s.get ((AIR_TXSYNCn_SYNC (s.resyncFrame p li).sync).at p)) = true →
      (s.get (TXM_PROFnC_PARTMASK (s.resyncFrame p li).prof)).testBit p = true →
      ∃ t, exec (.resyncFrameTimer p li) s = .next t ∧ t.txs = s.txs ++ [{ s.resyncFrame p li with id := s.air.next }] ∧
        (t.part p).seq = ((s.part p).seq + 1) % 256 ∧
        (t.ascEnt (s.entOf p li)).resync = (s.ascEnt (s.entOf p li)).resync + 1000000 * s.get (ASC_LOSTCFG_RPER.at p) ∧ t.regs = s.regs) ∧
    (∀ w : Word, 1 ≤ bits w.toNat (ASC_SARNGp_FIRST p).lo 16 → bits w.toNat (ASC_SARNGp_FIRST p).lo 16 ≤ bits w.toNat (ASC_SARNGp_LAST p).lo 16 →
      bits w.toNat (ASC_SARNGp_LAST p).lo 16 ≤ 0xFFFD → ∃ t, exec (.shortAddressRangeWrite p w) s = .next t ∧
        t.get (ASC_SARNGp_FIRST p) = bits w.toNat (ASC_SARNGp_FIRST p).lo 16 ∧
        t.get (ASC_SARNGp_LAST p) = bits w.toNat (ASC_SARNGp_LAST p).lo 16 ∧
        t.get (ASC_PSTAT_CURSOR.at p) = bits w.toNat (ASC_SARNGp_LAST p).lo 16 ∧
        OnlyRegs [ASC_SARNGp_FIRST p, ASC_SARNGp_LAST p, ASC_PSTAT_CURSOR.at p] s t) ∧
    (∀ w : Word, bits w.toNat (ASC_SARNGp_LAST p).lo 16 < bits w.toNat (ASC_SARNGp_FIRST p).lo 16 →
      exec (.shortAddressRangeWrite p w) s = .next s) ∧
    (∃ t, exec .ascClearCounters s = .next t ∧ t.get ASC_WHL_MAXLAT = 0 ∧
      (∀ q < 32, t.get (ASC_PCNT_MISSED.at q) = 0 ∧ t.get (ASC_PCNT_OUTWIN.at q) = 0 ∧ t.get (ASC_PCNT2_LOST.at q) = 0 ∧
        t.get (ASC_PCNT2_VERERR.at q) = 0) ∧ { t with regs := s.regs } = s) ∧
    (∃ t, exec (.ascEnableWrite false) s = .next t ∧ t.get ASC_CTL_EN = 0 ∧ t.get ASC_STAT_WHLHOLD = 1 ∧
      OnlyRegs [ASC_CTL_EN, ASC_STAT_WHLHOLD] s t) ∧
    (s.get TBS_STAT_DISCONT = 0 → ∃ t, exec (.ascEnableWrite true) s = .next t ∧ t.get ASC_CTL_EN = 1 ∧ t.get ASC_STAT_WHLHOLD = 0 ∧
      t.txs = s.txs ∧ t.rx = s.rx)

/-- Partitions are created, reset softly or hard, purged and erased, and a faulted one is reset by itself at most three times in an hour (R265, R266, R267, R272, R273, R274, R275). -/
def Obligations.PartitionsAreCreatedResetAndPurged : Prop :=
  ∀ (s : State) (p : Fin 32),
    (s.get PRT_CRSTAT_BUSY ≠ 0 → ∃ t, exec .partitionCreateWrite s = .next t ∧ t.get PRT_CRSTAT_BUSYREJ = 1 ∧ OnlyRegs [PRT_CRSTAT_BUSYREJ] s t) ∧
    (s.get PRT_CRSTAT_BUSY = 0 → ∃ t, exec .partitionCreateWrite s = .next t ∧ t.get PRT_CRSTAT_BUSY = 1 ∧ t.get PRT_CRSTAT_BUSYREJ = 0 ∧
      t.creation.isSome = true ∧
      OnlyRegs [PRT_CRSTAT_BUSY, PRT_CRSTAT_BUSYREJ, PRT_CRSTAT_PNUM] s { t with creation := s.creation }) ∧
    (∀ c, s.svHalted = false → s.creation = some c → c.purge = none → c.byReg = true → c.code ≠ .done →
      ∃ t, exec .partitionCreateDone s = .next t ∧ t.creation = none ∧ t.get PRT_CRSTAT_BUSY = 0 ∧ t.get PRT_CRSTAT_CODE = c.code.num % 256 ∧
        OnlyRegs [PRT_CRSTAT_BUSY, PRT_CRSTAT_CODE] s { t with creation := s.creation }) ∧
    (∀ c, s.svHalted = false → s.creation = some c → c.purge = none → c.byReg = true → c.code = .done → c.desc.pnum ≠ 0 → c.desc.pnum < 32 →
      ∃ t, exec .partitionCreateDone s = .next t ∧ t.creation = none ∧ t.get PRT_CRSTAT_BUSY = 0 ∧ t.get PRT_CRSTAT_CODE = 0 ∧
        t.pstate c.desc.pnum = PState.stopped.num ∧ (t.part c.desc.pnum).desc = c.desc ∧ t.txs = s.txs ∧ t.rx = s.rx) ∧
    (p ≠ 0 → s.pexists p = true → s.get PRT_CRSTAT_BUSY = 0 → ∃ t, exec (.partitionPurgeWrite p) s = .next t ∧
      t.pstate p = PState.purging.num ∧ (t.part p).rst = some .purge ∧ t.get PRT_CRSTAT_BUSY = 1) ∧
    (s.get PRT_CRSTAT_BUSY ≠ 0 → ∃ t, exec (.partitionPurgeWrite p) s = .next t ∧ t.get PRT_CRSTAT_BUSYREJ = 1 ∧
      OnlyRegs [PRT_CRCTL_PNUM, PRT_CRSTAT_BUSYREJ] s t) ∧
    (∀ w : Word, s.pexists p = true → s.pstate p ≠ PState.purging.num → (s.part p).rst = none → bits w.toNat 0 2 = 1 →
      ∃ t, exec (.partitionResetRequest p w) s = .next t ∧ t.pstate p = PState.resetting.num ∧ (t.part p).rst = some .soft) ∧
    (∀ w : Word, s.pexists p = true → s.pstate p ≠ PState.purging.num → (s.part p).rst = none → bits w.toNat 0 2 = 2 →
      ∃ t, exec (.partitionResetRequest p w) s = .next t ∧ t.pstate p = PState.resetting.num ∧ (t.part p).rst = some .hard) ∧
    (∀ w : Word, bits w.toNat 0 2 = 0 ∨ bits w.toNat 0 2 = 3 → exec (.partitionResetRequest p w) s = .next s) ∧
    (∀ w : Word, bits w.toNat 4 2 = 0 ∨ bits w.toNat 4 2 = 3 → ∃ t, exec (.partitionCtlReset p w) s = .next t ∧
      t.get (PRT_PCTLp_AUTORST p) = (if bits w.toNat 0 2 = 3 then s.get (PRT_PCTLp_AUTORST p) else bits w.toNat 0 2) ∧
      OnlyRegs [PRT_PCTLp_AUTORST p] s t) ∧
    (∀ w : Word, s.pexists p = true → s.pstate p ≠ PState.purging.num → (s.part p).rst = none → bits w.toNat 4 2 = 1 →
      ∃ t, exec (.partitionCtlReset p w) s = .next t ∧ t.pstate p = PState.resetting.num ∧ (t.part p).rst = some .soft) ∧
    (s.svHalted = false → (s.part p).rst = some .soft ∨ (s.part p).rst = some .hard → ∃ t, exec (.partitionResetDone p) s = .next t ∧
      (t.part p).rst = none ∧ t.get (PRT_PSTATp_LASTRST p) = (if (s.part p).rst = some .soft then 1 else 2) ∧
      t.get (PRT_PSTATp_FCAUSE p) = 0 ∧ t.get (PRT_FAULT_FCAUSE.at p) = 0 ∧
      t.pstate p = (if ((s.part p).slot (s.actSlot p)).st = .active then PState.running.num else PState.stopped.num)) ∧
    (s.svHalted = false → (s.part p).rst = some .purge → ∃ t, exec (.partitionResetDone p) s = .next t ∧
      t.pstate p = 0 ∧ (t.part p).erase = true ∧ (t.part p).rst = none) ∧
    (s.svHalted = false → (s.part p).rst = none → exec (.partitionResetDone p) s = .next s) ∧
    (s.svHalted = false → (s.part p).erase = true → s.pexists p = false → ∃ t, exec (.imageEraseDone p) s = .next t ∧ t.part p = {} ∧
      (∀ a, ((s.part p).slot0.base ≤ a ∧ a < (s.part p).slot0.base + (s.part p).slot0.size) ∨
        ((s.part p).slot1.base ≤ a ∧ a < (s.part p).slot1.base + (s.part p).slot1.size) → t.byte a = 0) ∧
      { t with mem := s.mem, parts := s.parts } = s) ∧
    (∀ f, s.svHalted = false → s.pstate p = PState.faulted.num → (s.part p).faultAt = some f → f + 10000 ≤ s.tick →
      s.get (PRT_PCTLp_AUTORST p) = 1 → (s.part p).rst = none →
      ((s.part p).autoTicks.filter fun u => decide (s.tick < u + 3600000000)).length < 3 → ∃ t, exec (.autoReset p) s = .next t ∧
        t.pstate p = PState.resetting.num ∧ (t.part p).rst = some .soft) ∧
    (∀ f, s.svHalted = false → s.pstate p = PState.faulted.num → (s.part p).faultAt = some f → f + 10000 ≤ s.tick →
      s.get (PRT_PCTLp_AUTORST p) = 1 →
      3 ≤ ((s.part p).autoTicks.filter fun u => decide (s.tick < u + 3600000000)).length → ∃ t, exec (.autoReset p) s = .next t ∧
        t.get (PRT_PSTATp_AUTOCNT p) = min (s.get (PRT_PSTATp_AUTOCNT p) + 1) 255 ∧
        OnlyRegs [PRT_PSTATp_AUTOCNT p] s { t with parts := s.parts })

/-- Event latches clear by ones, Saddle refuses what would break its sums, no bucket passes its CAP, packet memory and the receive ring keep their bounds (R277, R281, R282, R287, R618, R6). -/
def Obligations.EventsSharesAndPacketMemory : Prop :=
  ∀ (s : State) (p : Fin 32) (w : Word),
    (∀ imgB, ∃ t, exec (.eventPendClear p imgB false w) s = .next t ∧
      (∀ k < 32, (t.get (PEC_PEND_PEND.at (latchBank p imgB))).testBit k =
        ((s.get (PEC_PEND_PEND.at (latchBank p imgB))).testBit k && !w.toNat.testBit k)) ∧
      OnlyRegs [PEC_PEND_PEND.at (latchBank p imgB)] s t) ∧
    (∀ imgB, ∃ t, exec (.eventPendClear p imgB true w) s = .next t ∧
      (∀ k < 32, (t.get (PEC_OVF_OVF.at (latchBank p imgB))).testBit k =
        ((s.get (PEC_OVF_OVF.at (latchBank p imgB))).testBit k && !w.toNat.testBit k)) ∧
      OnlyRegs [PEC_OVF_OVF.at (latchBank p imgB)] s t) ∧
    (s.get SAD_AIRTOT_TOT < s.sadSum SAD_AFLRp_FLOOR s.live p (s.asked w.toNat (SAD_AFLRp_FLOOR p)) →
      ∃ t, exec (.saddleParamWrite 1 p w) s = .next t ∧ t.get SAD_STAT_REJ = 1 ∧ t.get SAD_STAT_RES = 0 ∧
        OnlyRegs [SAD_STAT_REJ, SAD_STAT_RES] s t) ∧
    (s.sadSum SAD_AFLRp_FLOOR s.live p (s.asked w.toNat (SAD_AFLRp_FLOOR p)) ≤ s.get SAD_AIRTOT_TOT →
      ∃ t, exec (.saddleParamWrite 1 p w) s = .next t ∧ t.get SAD_STAT_REJ = 0 ∧
        t.get (SAD_AFLRp_FLOOR p) = s.asked w.toNat (SAD_AFLRp_FLOOR p) ∧ t.get (SAD_AFLRp_WEIGHT p) = s.asked w.toNat (SAD_AFLRp_WEIGHT p) ∧
        OnlyRegs [SAD_STAT_REJ, SAD_AFLRp_FLOOR p, SAD_AFLRp_WEIGHT p] s t) ∧
    (∃ t, exec (.saddleParamWrite 2 p w) s = .next t ∧ t.get SAD_STAT_REJ = 0 ∧ t.get (SAD_ACAPp_CAP p) = s.asked w.toNat (SAD_ACAPp_CAP p) ∧
      OnlyRegs [SAD_STAT_REJ, SAD_ACAPp_CAP p] s t) ∧
    (s.engPlan s.engIn p (s.asked w.toNat (SAD_ENGp_WSLICE p)) (s.asked w.toNat (SAD_ENGp_FLOOR p)) = none →
      ∃ t, exec (.saddleParamWrite 3 p w) s = .next t ∧ t.get SAD_STAT_REJ = 1 ∧ t.get SAD_STAT_RES = 1 ∧
        OnlyRegs [SAD_STAT_REJ, SAD_STAT_RES] s t) ∧
    (100 < s.sadSum SAD_SECp_FLOOR s.live p (s.asked w.toNat (SAD_SECp_FLOOR p)) →
      ∃ t, exec (.saddleParamWrite 4 p w) s = .next t ∧ t.get SAD_STAT_REJ = 1 ∧ t.get SAD_STAT_RES = 2 ∧
        OnlyRegs [SAD_STAT_REJ, SAD_STAT_RES] s t) ∧
    (100 < s.sadSum SAD_HIFp_FLOOR (s.live.filter fun q => s.portOf q = s.portOf p) p (s.asked w.toNat (SAD_HIFp_FLOOR p)) →
      ∃ t, exec (.saddleParamWrite 5 p w) s = .next t ∧ t.get SAD_STAT_REJ = 1 ∧ t.get SAD_STAT_RES = 3 ∧
        OnlyRegs [SAD_STAT_REJ, SAD_STAT_RES] s t) ∧
    (∃ t, exec (.saddleParamWrite 6 p w) s = .next t ∧ t.get (SAD_MEMp_WEIGHT p) = s.asked w.toNat (SAD_MEMp_WEIGHT p) ∧
      OnlyRegs [SAD_STAT_REJ, SAD_MEMp_WEIGHT p] s t) ∧
    (s.tbs.refill < 1000 → exec .airtimeRefill s = .next s) ∧
    (1000 ≤ s.tbs.refill → ∃ t, exec .airtimeRefill s = .next t ∧ t.tbs = { s.tbs with refill := s.tbs.refill - 1000 } ∧
      (∀ q ∈ s.live, (t.part q).level ≤ ((t.inForce (SAD_ACAPp_CAP q) : Nat) : Rat) ∧ (t.part q).usedSec = 0 ∧ (t.part q).usedHif = 0) ∧
      { t with regs := s.regs, parts := s.parts, tbs := s.tbs } = s) ∧
    (bit w.toNat 31 = false → (s.part p).gran.length + bits w.toNat 0 8 ≤ s.pktCap p → bits w.toNat 0 8 ≤ s.poolFree →
      ∃ t, exec (.packetMemoryRequest p w) s = .next t ∧ (t.part p).gran = (s.part p).gran ++ (s.freeGran 32).take (bits w.toNat 0 8) ∧
        t.get (PRT_PKT_REQREJ.at p) = 0 ∧ OnlyRegs [PRT_PKT_HELD.at p, PRT_PKT_REQREJ.at p] s { t with mem := s.mem, parts := s.parts }) ∧
    (bit w.toNat 31 = false → s.pktCap p < (s.part p).gran.length + bits w.toNat 0 8 ∨ s.poolFree < bits w.toNat 0 8 →
      ∃ t, exec (.packetMemoryRequest p w) s = .next t ∧ t.get (PRT_PKT_REQREJ.at p) = 1 ∧ OnlyRegs [PRT_PKT_REQREJ.at p] s t) ∧
    (bit w.toNat 31 = true → ∃ t, exec (.packetMemoryRequest p w) s = .next t ∧
      (t.part p).gran = (s.part p).gran.take (max (max ((s.part p).gran.length - bits w.toNat 0 8) (s.part p).desc.pktFlr) (s.pktKept p)) ∧
      OnlyRegs [PRT_PKT_HELD.at p, PRT_PKT_REQREJ.at p] s { t with mem := s.mem, parts := s.parts }) ∧
    (s.asked w.toNat (PRT_RXRING_SIZE.at p) ≠ 0 →
      4096 * (s.part p).gran.length < 128 * (bits w.toNat 0 12 + s.asked w.toNat (PRT_RXRING_SIZE.at p)) →
      ∃ t, exec (.rxRingWrite p w) s = .next t ∧ t.get (PRT_RXPTR_RINGREJ.at p) = 1 ∧ OnlyRegs [PRT_RXPTR_RINGREJ.at p] s t) ∧
    (128 * (bits w.toNat 0 12 + s.asked w.toNat (PRT_RXRING_SIZE.at p)) ≤ 4096 * (s.part p).gran.length →
      ∃ t, exec (.rxRingWrite p w) s = .next t ∧ t.get (PRT_RXPTR_RINGREJ.at p) = 0 ∧ t.get (PRT_RXRING_BASE.at p) = bits w.toNat 0 12 ∧
        t.get (PRT_RXPTR_WR.at p) = 0 ∧ t.get (PRT_RXPTR_RD.at p) = 0 ∧
        OnlyRegs [PRT_RXRING_SIZE.at p, PRT_RXRING_BASE.at p, PRT_RXPTR_WR.at p, PRT_RXPTR_RD.at p, PRT_RXPTR_RINGREJ.at p] s t) ∧
    (∃ t, exec (.rxRingFree p w) s = .next t ∧ OnlyRegs [PRT_RXPTR_RD.at p] s t ∧
      t.get (PRT_RXPTR_RD.at p) = (if bits w.toNat 0 12 < s.get (PRT_RXRING_SIZE.at p) ∧
        (bits w.toNat 0 12 + s.get (PRT_RXRING_SIZE.at p) - s.get (PRT_RXPTR_RD.at p)) % s.get (PRT_RXRING_SIZE.at p) ≤
          (s.get (PRT_RXPTR_WR.at p) + s.get (PRT_RXRING_SIZE.at p) - s.get (PRT_RXPTR_RD.at p)) % s.get (PRT_RXRING_SIZE.at p)
        then bits w.toNat 0 12 else s.get (PRT_RXPTR_RD.at p)))

/-- ADD, SUB, AND, OR, XOR, CMP and TST compute their result and flags and change nothing else (R292, R298, R300, R331). -/
def Obligations.RegisterArithmeticAndFlags : Prop :=
  ∀ (s : State) (c : Ctx), Ready s c →
    (∀ d a b, ∃ t, exec (.add c d a b) s = .next t ∧ Ran s c t ((s.prog (ctxNum c)).result d (((s.prog (ctxNum c)).reg a) + ((s.prog (ctxNum c)).reg b)) (decide (2 ^ 32 ≤ ((s.prog (ctxNum c)).reg a).toNat + ((s.prog (ctxNum c)).reg b).toNat)) (decide ((((s.prog (ctxNum c)).reg a) + ((s.prog (ctxNum c)).reg b)).toInt ≠ ((s.prog (ctxNum c)).reg a).toInt + ((s.prog (ctxNum c)).reg b).toInt)))
      ((s.prog (ctxNum c)).pc + 4) 1) ∧
    (∀ d a b, ∃ t, exec (.sub c d a b) s = .next t ∧ Ran s c t ((s.prog (ctxNum c)).result d (((s.prog (ctxNum c)).reg a) - ((s.prog (ctxNum c)).reg b)) (decide (((s.prog (ctxNum c)).reg b).toNat ≤ ((s.prog (ctxNum c)).reg a).toNat)) (decide ((((s.prog (ctxNum c)).reg a) - ((s.prog (ctxNum c)).reg b)).toInt ≠ ((s.prog (ctxNum c)).reg a).toInt - ((s.prog (ctxNum c)).reg b).toInt)))
      ((s.prog (ctxNum c)).pc + 4) 1) ∧
    (∀ d a b, ∃ t, exec (.andR c d a b) s = .next t ∧ Ran s c t ((s.prog (ctxNum c)).result d (((s.prog (ctxNum c)).reg a) &&& ((s.prog (ctxNum c)).reg b)) (s.prog (ctxNum c)).c (s.prog (ctxNum c)).v)
      ((s.prog (ctxNum c)).pc + 4) 1) ∧
    (∀ d a b, ∃ t, exec (.orR c d a b) s = .next t ∧ Ran s c t ((s.prog (ctxNum c)).result d (((s.prog (ctxNum c)).reg a) ||| ((s.prog (ctxNum c)).reg b)) (s.prog (ctxNum c)).c (s.prog (ctxNum c)).v)
      ((s.prog (ctxNum c)).pc + 4) 1) ∧
    (∀ d a b, ∃ t, exec (.xorR c d a b) s = .next t ∧ Ran s c t ((s.prog (ctxNum c)).result d (((s.prog (ctxNum c)).reg a) ^^^ ((s.prog (ctxNum c)).reg b)) (s.prog (ctxNum c)).c (s.prog (ctxNum c)).v)
      ((s.prog (ctxNum c)).pc + 4) 1) ∧
    (∀ a b, ∃ t, exec (.cmp c a b) s = .next t ∧ Ran s c t ((s.prog (ctxNum c)).compared (((s.prog (ctxNum c)).reg a) - ((s.prog (ctxNum c)).reg b)) (decide (((s.prog (ctxNum c)).reg b).toNat ≤ ((s.prog (ctxNum c)).reg a).toNat)) (decide ((((s.prog (ctxNum c)).reg a) - ((s.prog (ctxNum c)).reg b)).toInt ≠ ((s.prog (ctxNum c)).reg a).toInt - ((s.prog (ctxNum c)).reg b).toInt)))
      ((s.prog (ctxNum c)).pc + 4) 1) ∧
    (∀ a b, ∃ t, exec (.tst c a b) s = .next t ∧ Ran s c t ((s.prog (ctxNum c)).compared (((s.prog (ctxNum c)).reg a) &&& ((s.prog (ctxNum c)).reg b)) (s.prog (ctxNum c)).c (s.prog (ctxNum c)).v)
      ((s.prog (ctxNum c)).pc + 4) 1)

/-- Shifts and rotations by a register or an immediate: the result and the bit shifted out, for every amount (R301). -/
def Obligations.ShiftsKeepTheLastBitOut : Prop :=
  ∀ (s : State) (c : Ctx), Ready s c →
    (∀ d a b, ∃ t, exec (.shl c d a b) s = .next t ∧ Ran s c t ((s.prog (ctxNum c)).result d (((s.prog (ctxNum c)).reg a) <<< (((s.prog (ctxNum c)).reg b).toNat % 256)) (if ((s.prog (ctxNum c)).reg b).toNat % 256 = 0 then (s.prog (ctxNum c)).c else decide (((s.prog (ctxNum c)).reg b).toNat % 256 ≤ 32) && ((s.prog (ctxNum c)).reg a).getLsbD (32 - ((s.prog (ctxNum c)).reg b).toNat % 256)) (s.prog (ctxNum c)).v)
      ((s.prog (ctxNum c)).pc + 4) 1) ∧
    (∀ d a b, ∃ t, exec (.shr c d a b) s = .next t ∧ Ran s c t ((s.prog (ctxNum c)).result d (((s.prog (ctxNum c)).reg a) >>> (((s.prog (ctxNum c)).reg b).toNat % 256)) (if ((s.prog (ctxNum c)).reg b).toNat % 256 = 0 then (s.prog (ctxNum c)).c else ((s.prog (ctxNum c)).reg a).getLsbD (((s.prog (ctxNum c)).reg b).toNat % 256 - 1)) (s.prog (ctxNum c)).v)
      ((s.prog (ctxNum c)).pc + 4) 1) ∧
    (∀ d a b, ∃ t, exec (.sar c d a b) s = .next t ∧ Ran s c t ((s.prog (ctxNum c)).result d (((s.prog (ctxNum c)).reg a).sshiftRight (((s.prog (ctxNum c)).reg b).toNat % 256)) (if ((s.prog (ctxNum c)).reg b).toNat % 256 = 0 then (s.prog (ctxNum c)).c else if ((s.prog (ctxNum c)).reg b).toNat % 256 ≤ 32 then ((s.prog (ctxNum c)).reg a).getLsbD (((s.prog (ctxNum c)).reg b).toNat % 256 - 1) else ((s.prog (ctxNum c)).reg a).msb) (s.prog (ctxNum c)).v)
      ((s.prog (ctxNum c)).pc + 4) 1) ∧
    (∀ d a b, c ≠ .ce → ∃ t, exec (.rot c d a b) s = .next t ∧ Ran s c t ((s.prog (ctxNum c)).result d (((s.prog (ctxNum c)).reg a).rotateRight (((s.prog (ctxNum c)).reg b).toNat % 32)) (if ((s.prog (ctxNum c)).reg b).toNat % 32 = 0 then (s.prog (ctxNum c)).c else (((s.prog (ctxNum c)).reg a).rotateRight (((s.prog (ctxNum c)).reg b).toNat % 32)).msb) (s.prog (ctxNum c)).v)
      ((s.prog (ctxNum c)).pc + 4) 1) ∧
    (∀ d a (i : BitVec 18), i.toNat < 32 → ∃ t, exec (.shlImmediate c d a i) s = .next t ∧ Ran s c t ((s.prog (ctxNum c)).result d (((s.prog (ctxNum c)).reg a) <<< i.toNat)
      (if i.toNat = 0 then (s.prog (ctxNum c)).c else ((s.prog (ctxNum c)).reg a).getLsbD (32 - i.toNat)) (s.prog (ctxNum c)).v) ((s.prog (ctxNum c)).pc + 4) 1) ∧
    (∀ d a (i : BitVec 18), i.toNat < 32 → ∃ t, exec (.shrImmediate c d a i) s = .next t ∧ Ran s c t ((s.prog (ctxNum c)).result d (((s.prog (ctxNum c)).reg a) >>> i.toNat)
      (if i.toNat = 0 then (s.prog (ctxNum c)).c else ((s.prog (ctxNum c)).reg a).getLsbD (i.toNat - 1)) (s.prog (ctxNum c)).v) ((s.prog (ctxNum c)).pc + 4) 1) ∧
    (∀ d a (i : BitVec 18), i.toNat < 32 → ∃ t, exec (.sarImmediate c d a i) s = .next t ∧ Ran s c t ((s.prog (ctxNum c)).result d (((s.prog (ctxNum c)).reg a).sshiftRight i.toNat)
      (if i.toNat = 0 then (s.prog (ctxNum c)).c else ((s.prog (ctxNum c)).reg a).getLsbD (i.toNat - 1)) (s.prog (ctxNum c)).v) ((s.prog (ctxNum c)).pc + 4) 1) ∧
    (∀ d a (i : BitVec 18), i.toNat < 32 → c ≠ .ce → ∃ t, exec (.rotImmediate c d a i) s = .next t ∧ Ran s c t ((s.prog (ctxNum c)).result d (((s.prog (ctxNum c)).reg a).rotateRight i.toNat)
      (if i.toNat = 0 then (s.prog (ctxNum c)).c else (((s.prog (ctxNum c)).reg a).rotateRight i.toNat).msb) (s.prog (ctxNum c)).v) ((s.prog (ctxNum c)).pc + 4) 1)

/-- MUL, MULH, DIV, REM, MOV, CLZ, POPC and BREV give their results, cycles and flags (R302). -/
def Obligations.ProductsQuotientsAndBitCounts : Prop :=
  ∀ (s : State) (c : Ctx), Ready s c →
    (∀ d a b, c ≠ .ce → ∃ t, exec (.mul c d a b) s = .next t ∧ Ran s c t ((s.prog (ctxNum c)).result d (((s.prog (ctxNum c)).reg a) * ((s.prog (ctxNum c)).reg b)) (s.prog (ctxNum c)).c (s.prog (ctxNum c)).v)
      ((s.prog (ctxNum c)).pc + 4) (if ctxFull c then 2 else 1)) ∧
    (∀ d a b u, ctxFull c = true → ∃ t, exec (.mulh c d a b u) s = .next t ∧ Ran s c t ((s.prog (ctxNum c)).result d (if u then BitVec.ofNat 32 (((s.prog (ctxNum c)).reg a).toNat * ((s.prog (ctxNum c)).reg b).toNat / 2 ^ 32) else BitVec.ofInt 32 (((s.prog (ctxNum c)).reg a).toInt * ((s.prog (ctxNum c)).reg b).toInt / 2 ^ 32)) (s.prog (ctxNum c)).c (s.prog (ctxNum c)).v)
      ((s.prog (ctxNum c)).pc + 4) 2) ∧
    (∀ d a b u, ctxFull c = true → ∃ t, exec (.div c d a b u) s = .next t ∧ Ran s c t ((s.prog (ctxNum c)).result d (if ((s.prog (ctxNum c)).reg b) = 0 then 0xFFFFFFFF else if u then ((s.prog (ctxNum c)).reg a) / ((s.prog (ctxNum c)).reg b) else ((s.prog (ctxNum c)).reg a).sdiv ((s.prog (ctxNum c)).reg b)) (s.prog (ctxNum c)).c (decide (((s.prog (ctxNum c)).reg b) = 0 ∨ u = false ∧ ((s.prog (ctxNum c)).reg a) = 0x80000000 ∧ ((s.prog (ctxNum c)).reg b) = 0xFFFFFFFF)))
      ((s.prog (ctxNum c)).pc + 4) 18) ∧
    (∀ d a b u, ctxFull c = true → ∃ t, exec (.rem c d a b u) s = .next t ∧ Ran s c t ((s.prog (ctxNum c)).result d (if ((s.prog (ctxNum c)).reg b) = 0 then ((s.prog (ctxNum c)).reg a) else if u then ((s.prog (ctxNum c)).reg a) % ((s.prog (ctxNum c)).reg b) else ((s.prog (ctxNum c)).reg a).srem ((s.prog (ctxNum c)).reg b)) (s.prog (ctxNum c)).c (decide (((s.prog (ctxNum c)).reg b) = 0 ∨ u = false ∧ ((s.prog (ctxNum c)).reg a) = 0x80000000 ∧ ((s.prog (ctxNum c)).reg b) = 0xFFFFFFFF)))
      ((s.prog (ctxNum c)).pc + 4) 18) ∧
    (∀ d a, ∃ t, exec (.mov c d a) s = .next t ∧ Ran s c t ((s.prog (ctxNum c)).setReg d ((s.prog (ctxNum c)).reg a)) ((s.prog (ctxNum c)).pc + 4) 1) ∧
    (∀ d a, c ≠ .ce → ∃ t r, exec (.clz c d a) s = .next t ∧ r ≤ 32 ∧ (∀ i < r, ((s.prog (ctxNum c)).reg a).getMsbD i = false) ∧ (r < 32 → ((s.prog (ctxNum c)).reg a).getMsbD r = true) ∧
      Ran s c t ((s.prog (ctxNum c)).result d (BitVec.ofNat 32 r) (s.prog (ctxNum c)).c (s.prog (ctxNum c)).v) ((s.prog (ctxNum c)).pc + 4) 1) ∧
    (∀ d a, c ≠ .ce → ∃ t, exec (.popc c d a) s = .next t ∧ Ran s c t
      ((s.prog (ctxNum c)).result d (BitVec.ofNat 32 ((List.range 32).countP fun i => ((s.prog (ctxNum c)).reg a).getLsbD i)) (s.prog (ctxNum c)).c (s.prog (ctxNum c)).v) ((s.prog (ctxNum c)).pc + 4) 1) ∧
    (∀ d a, c ≠ .ce → ∃ t r, exec (.brev c d a) s = .next t ∧ (∀ i < 32, r.getLsbD i = ((s.prog (ctxNum c)).reg a).getLsbD (31 - i)) ∧
      Ran s c t ((s.prog (ctxNum c)).result d r (s.prog (ctxNum c)).c (s.prog (ctxNum c)).v) ((s.prog (ctxNum c)).pc + 4) 1)

/-- The immediate forms, MOVI, MOVHI, EXT and INS compute their result and flags and change nothing else (R295, R298, R299, R300, R303). -/
def Obligations.ImmediatesAndBitFields : Prop :=
  ∀ (s : State) (c : Ctx), Ready s c →
    (∀ d a i, ∃ t, exec (.addImmediate c d a i) s = .next t ∧ Ran s c t ((s.prog (ctxNum c)).result d (((s.prog (ctxNum c)).reg a) + (sx18 i)) (decide (2 ^ 32 ≤ ((s.prog (ctxNum c)).reg a).toNat + (sx18 i).toNat)) (decide ((((s.prog (ctxNum c)).reg a) + (sx18 i)).toInt ≠ ((s.prog (ctxNum c)).reg a).toInt + (sx18 i).toInt)))
      ((s.prog (ctxNum c)).pc + 4) 1) ∧
    (∀ d a i, ∃ t, exec (.subImmediate c d a i) s = .next t ∧ Ran s c t ((s.prog (ctxNum c)).result d (((s.prog (ctxNum c)).reg a) - (sx18 i)) (decide ((sx18 i).toNat ≤ ((s.prog (ctxNum c)).reg a).toNat)) (decide ((((s.prog (ctxNum c)).reg a) - (sx18 i)).toInt ≠ ((s.prog (ctxNum c)).reg a).toInt - (sx18 i).toInt)))
      ((s.prog (ctxNum c)).pc + 4) 1) ∧
    (∀ d a i, ∃ t, exec (.andImmediate c d a i) s = .next t ∧ Ran s c t ((s.prog (ctxNum c)).result d (((s.prog (ctxNum c)).reg a) &&& (zx18 i)) (s.prog (ctxNum c)).c (s.prog (ctxNum c)).v)
      ((s.prog (ctxNum c)).pc + 4) 1) ∧
    (∀ d a i, ∃ t, exec (.orImmediate c d a i) s = .next t ∧ Ran s c t ((s.prog (ctxNum c)).result d (((s.prog (ctxNum c)).reg a) ||| (zx18 i)) (s.prog (ctxNum c)).c (s.prog (ctxNum c)).v)
      ((s.prog (ctxNum c)).pc + 4) 1) ∧
    (∀ d a i, ∃ t, exec (.xorImmediate c d a i) s = .next t ∧ Ran s c t ((s.prog (ctxNum c)).result d (((s.prog (ctxNum c)).reg a) ^^^ (zx18 i)) (s.prog (ctxNum c)).c (s.prog (ctxNum c)).v)
      ((s.prog (ctxNum c)).pc + 4) 1) ∧
    (∀ a i, ∃ t, exec (.cmpImmediate c a i) s = .next t ∧ Ran s c t ((s.prog (ctxNum c)).compared (((s.prog (ctxNum c)).reg a) - (sx18 i)) (decide ((sx18 i).toNat ≤ ((s.prog (ctxNum c)).reg a).toNat)) (decide ((((s.prog (ctxNum c)).reg a) - (sx18 i)).toInt ≠ ((s.prog (ctxNum c)).reg a).toInt - (sx18 i).toInt)))
      ((s.prog (ctxNum c)).pc + 4) 1) ∧
    (∀ a i, ∃ t, exec (.tstImmediate c a i) s = .next t ∧ Ran s c t ((s.prog (ctxNum c)).compared (((s.prog (ctxNum c)).reg a) &&& (zx18 i)) (s.prog (ctxNum c)).c (s.prog (ctxNum c)).v)
      ((s.prog (ctxNum c)).pc + 4) 1) ∧
    (∀ d i, ∃ t, exec (.movi c d i) s = .next t ∧ Ran s c t ((s.prog (ctxNum c)).setReg d (sx18 i)) ((s.prog (ctxNum c)).pc + 4) 1) ∧
    (∀ d i, i.toNat < 65536 → ∃ t r, exec (.movhi c d i) s = .next t ∧ r.toNat / 65536 = i.toNat ∧ r.toNat % 65536 = ((s.prog (ctxNum c)).reg d).toNat % 65536 ∧
      Ran s c t ((s.prog (ctxNum c)).setReg d r) ((s.prog (ctxNum c)).pc + 4) 1) ∧
    (∀ d a i, i.toNat < 2048 → fldPos i + fldW i ≤ 32 → ∃ t r, exec (.ext c d a i) s = .next t ∧
      (∀ k < 32, r.getLsbD k = if k < fldW i then ((s.prog (ctxNum c)).reg a).getLsbD (fldPos i + k) else fldSx i && ((s.prog (ctxNum c)).reg a).getLsbD (fldPos i + fldW i - 1)) ∧
      Ran s c t ((s.prog (ctxNum c)).result d r (s.prog (ctxNum c)).c (s.prog (ctxNum c)).v) ((s.prog (ctxNum c)).pc + 4) 1) ∧
    (∀ d a i, i.toNat < 1024 → fldPos i + fldW i ≤ 32 → ∃ t r, exec (.ins c d a i) s = .next t ∧
      (∀ k < 32, r.getLsbD k = if fldPos i ≤ k ∧ k < fldPos i + fldW i then ((s.prog (ctxNum c)).reg a).getLsbD (k - fldPos i) else ((s.prog (ctxNum c)).reg d).getLsbD k) ∧
      Ran s c t ((s.prog (ctxNum c)).result d r (s.prog (ctxNum c)).c (s.prog (ctxNum c)).v) ((s.prog (ctxNum c)).pc + 4) 1)

/-- Each condition code holds as its flags say, branches and jumps follow, and a bad jump target faults with nothing written (R307). -/
def Obligations.BranchesFollowTheirConditions : Prop :=
  ∀ (s : State) (c : Ctx), Ready s c →
    (∀ (k : Fin 16) off, (s.prog (ctxNum c)).cond k = true → ∃ t, exec (.br c k off) s = .next t ∧
      Ran s c t (s.prog (ctxNum c)) ((s.prog (ctxNum c)).pc + 4 * off.signExtend 32) (if ctxTimed c then 1 else 2)) ∧
    (∀ (k : Fin 16) off, (s.prog (ctxNum c)).cond k = false → ∃ t, exec (.br c k off) s = .next t ∧
      Ran s c t (s.prog (ctxNum c)) ((s.prog (ctxNum c)).pc + 4) 1) ∧
    (∀ g : Prog, (g.cond 0 = true ↔ g.z = true) ∧ (g.cond 1 = true ↔ g.z = false) ∧ (g.cond 2 = true ↔ g.c = true) ∧
      (g.cond 3 = true ↔ g.c = false) ∧ (g.cond 4 = true ↔ g.n = true) ∧ (g.cond 5 = true ↔ g.n = false) ∧
      (g.cond 6 = true ↔ g.v = true) ∧ (g.cond 7 = true ↔ g.v = false) ∧ (g.cond 8 = true ↔ g.c = true ∧ g.z = false) ∧
      (g.cond 9 = true ↔ g.c = false ∨ g.z = true) ∧ (g.cond 10 = true ↔ g.n = g.v) ∧ (g.cond 11 = true ↔ g.n ≠ g.v) ∧
      (g.cond 12 = true ↔ g.z = false ∧ g.n = g.v) ∧ (g.cond 13 = true ↔ g.z = true ∨ g.n ≠ g.v) ∧ g.cond 14 = true ∧
      (g.cond 15 = true ↔ g.t = true)) ∧
    (∀ off, ∃ t, exec (.callRelative c off) s = .next t ∧
      Ran s c t ((s.prog (ctxNum c)).setReg 15 ((s.prog (ctxNum c)).pc + 4)) ((s.prog (ctxNum c)).pc + 4 * off.signExtend 32)
        (if ctxTimed c then 1 else 2)) ∧
    (∀ a, ((s.prog (ctxNum c)).reg a).toNat % 4 = 0 → ∃ t, exec (.jmp c a) s = .next t ∧
      Ran s c t (s.prog (ctxNum c)) ((s.prog (ctxNum c)).reg a) (if ctxTimed c then 1 else 2)) ∧
    (∀ a, ((s.prog (ctxNum c)).reg a).toNat % 4 = 0 → ∃ t, exec (.callRegister c a) s = .next t ∧
      Ran s c t ((s.prog (ctxNum c)).setReg 15 ((s.prog (ctxNum c)).pc + 4)) ((s.prog (ctxNum c)).reg a) (if ctxTimed c then 1 else 2)) ∧
    (((s.prog (ctxNum c)).reg 15).toNat % 4 = 0 → ∃ t, exec (.ret c) s = .next t ∧
      Ran s c t (s.prog (ctxNum c)) ((s.prog (ctxNum c)).reg 15) (if ctxTimed c then 1 else 2)) ∧
    (∀ a, ((s.prog (ctxNum c)).reg a).toNat % 4 ≠ 0 →
      exec (.jmp c a) s = .next ((s.takeTurn c).ctxFault c .align ((s.prog (ctxNum c)).reg a).toNat) ∧
      exec (.callRegister c a) s = .next ((s.takeTurn c).ctxFault c .align ((s.prog (ctxNum c)).reg a).toNat))

/-- Loads read and stores write the octets at their address, least significant first, and a refused access faults (R4, R270, R271, R304, R305, R319, R331). -/
def Obligations.LoadsAndStoresReachTheirPlace : Prop :=
  ∀ (s : State) (c : Ctx) (d a : Fin 16) (i : BitVec 18), Ready s c → s.dbg.wat = [] →
    (∀ m, s.place c .load ((s.prog (ctxNum c)).ea a i) 1 = .inr (.mem m) → memOpen m = false → memDark m = false →
      ∃ t n, exec (.ldb c d a i) s = .next t ∧
        Ran s c { t with fresh := s.fresh } ((s.prog (ctxNum c)).setReg d (BitVec.ofNat 32 (s.num m 1))) ((s.prog (ctxNum c)).pc + 4) n) ∧
    (∀ m, s.place c .load ((s.prog (ctxNum c)).ea a i) 2 = .inr (.mem m) → memOpen m = false → memDark m = false →
      ∃ t n, exec (.ldh c d a i) s = .next t ∧
        Ran s c { t with fresh := s.fresh } ((s.prog (ctxNum c)).setReg d (BitVec.ofNat 32 (s.num m 2))) ((s.prog (ctxNum c)).pc + 4) n) ∧
    (∀ m, s.place c .load ((s.prog (ctxNum c)).ea a i) 4 = .inr (.mem m) → memOpen m = false → memDark m = false →
      ∃ t n, exec (.ldw c d a i) s = .next t ∧
        Ran s c { t with fresh := s.fresh } ((s.prog (ctxNum c)).setReg d (BitVec.ofNat 32 (s.num m 4))) ((s.prog (ctxNum c)).pc + 4) n) ∧
    (∀ m, s.place c .store ((s.prog (ctxNum c)).ea a i) 1 = .inr (.mem m) → memDark m = false →
      (∀ p b, c = .part p b → s.locked p ((s.prog (ctxNum c)).ea a i) 1 = false) →
      ∃ t n, exec (.stb c d a i) s = .next t ∧ t.num m 1 = ((s.prog (ctxNum c)).reg d).toNat % 2 ^ 8 ∧ (∀ x, x ≠ m → t.byte x = s.byte x) ∧
        Ran s c { t with fresh := s.fresh, mem := s.mem } (s.prog (ctxNum c)) ((s.prog (ctxNum c)).pc + 4) n) ∧
    (∀ m, s.place c .store ((s.prog (ctxNum c)).ea a i) 2 = .inr (.mem m) → memDark m = false →
      (∀ p b, c = .part p b → s.locked p ((s.prog (ctxNum c)).ea a i) 2 = false) →
      ∃ t n, exec (.sth c d a i) s = .next t ∧ t.num m 2 = ((s.prog (ctxNum c)).reg d).toNat % 2 ^ 16 ∧
        (∀ x, x < m ∨ m + 2 ≤ x → t.byte x = s.byte x) ∧
        Ran s c { t with fresh := s.fresh, mem := s.mem } (s.prog (ctxNum c)) ((s.prog (ctxNum c)).pc + 4) n) ∧
    (∀ m, s.place c .store ((s.prog (ctxNum c)).ea a i) 4 = .inr (.mem m) → memDark m = false →
      (∀ p b, c = .part p b → s.locked p ((s.prog (ctxNum c)).ea a i) 4 = false) →
      ∃ t n, exec (.stw c d a i) s = .next t ∧ t.num m 4 = ((s.prog (ctxNum c)).reg d).toNat ∧
        (∀ x, x < m ∨ m + 4 ≤ x → t.byte x = s.byte x) ∧
        Ran s c { t with fresh := s.fresh, mem := s.mem } (s.prog (ctxNum c)) ((s.prog (ctxNum c)).pc + 4) n) ∧
    (∀ e, s.place c .load ((s.prog (ctxNum c)).ea a i) 4 = .inl e →
      exec (.ldw c d a i) s = .next ((s.takeTurn c).ctxFault c e ((s.prog (ctxNum c)).ea a i))) ∧
    (∀ e, s.place c .store ((s.prog (ctxNum c)).ea a i) 4 = .inl e →
      exec (.stw c d a i) s = .next ((s.takeTurn c).ctxFault c e ((s.prog (ctxNum c)).ea a i))) ∧
    (∀ (p : Fin 32), c = .part p false → 0x10000000 ≤ (s.prog (ctxNum c)).ea a i → (s.prog (ctxNum c)).ea a i < 0x1003C000 →
      (s.prog (ctxNum c)).ea a i % 4 ≠ 0 → (s.part p).rst = none → (s.part p).dual = none → ∃ t, exec (.ldw c d a i) s = .next t ∧
        t.get (PRT_FAULT_FCAUSE.at p) = 3 ∧ t.get (PRT_FADDR_ADDR.at p) = (s.prog (ctxNum c)).ea a i ∧ t.pstate p = PState.faulted.num ∧
        (t.prog p).run = .idle ∧ SameMem s t) ∧
    (∀ (p : Fin 32) x n, 0x10000000 ≤ x → x + n ≤ 0x10000000 + 4096 * (s.part p).desc.dataG → x + n ≤ 0x1003C000 → n ≠ 0 → x % n = 0 →
      s.place (.part p false) .load x n = .inr (.mem ((s.part p).dataBase + (x - 0x10000000))))

/-- NOP, waits, YIELD, SIG, TRAP, BKPT, MFS and MTS do what their rows say (R38, R293, R309, R310, R311, R312, R313, R314, R315). -/
def Obligations.WaitsSignalsAndSpecialRegisters : Prop :=
  ∀ (s : State) (c : Ctx), Ready s c →
    (∃ t, exec (.nop c) s = .next t ∧ Ran s c t (s.prog (ctxNum c)) ((s.prog (ctxNum c)).pc + 4) 1) ∧
    (∀ d, s.evs c ≠ 0 → ∃ t, exec (.waite c d) s = .next t ∧
      Ran s c t ((s.prog (ctxNum c)).setReg d (s.evs c)) ((s.prog (ctxNum c)).pc + 4) 1) ∧
    (∀ d : Fin 16, s.evs c = 0 → ∃ t, exec (.waite c d) s = .next t ∧ (t.prog (ctxNum c)).run = .waitE d.val ∧
      (t.prog (ctxNum c)).pc = (s.prog (ctxNum c)).pc ∧ (t.prog (ctxNum c)).g = (s.prog (ctxNum c)).g ∧
      { t with progs := s.progs, eng := s.eng } = s) ∧
    (∀ a, waitAhead s.tbs.now ((s.prog (ctxNum c)).reg a) ≤ 0 → ∃ t, exec (.waitt c a) s = .next t ∧
      Ran s c t { s.prog (ctxNum c) with t := decide (waitAhead s.tbs.now ((s.prog (ctxNum c)).reg a) < 0) } ((s.prog (ctxNum c)).pc + 4) 1) ∧
    (∀ a, 0 < waitAhead s.tbs.now ((s.prog (ctxNum c)).reg a) → ∃ t, exec (.waitt c a) s = .next t ∧
      (t.prog (ctxNum c)).run = .waitT (s.tbs.now + (waitAhead s.tbs.now ((s.prog (ctxNum c)).reg a)).toNat) ∧
      (t.prog (ctxNum c)).t = false ∧ (t.prog (ctxNum c)).pc = (s.prog (ctxNum c)).pc ∧ { t with progs := s.progs, eng := s.eng } = s) ∧
    (∀ n : BitVec 12, n ≠ 0 → ∃ t, exec (.waittCycles c n) s = .next t ∧
      Ran s c t (s.prog (ctxNum c)) ((s.prog (ctxNum c)).pc + 4) n.toNat) ∧
    (∀ p b, c = .part p b → s.evs c ≠ 0 → ∃ t, exec (.yield c) s = .next t ∧
      Ran s c t (s.prog (ctxNum c)) ((s.prog (ctxNum c)).pc + 4) 1) ∧
    (∀ p b, c = .part p b → s.evs c = 0 → ∃ t, exec (.yield c) s = .next t ∧
      Ran s c t { s.prog (ctxNum c) with run := .yielded } ((s.prog (ctxNum c)).pc + 4) 1) ∧
    (∀ n : BitVec 12, c = .sv → n.toNat < 64 → ∃ t, exec (.sig c n) s = .next t ∧ t.get ENG_SVMARK_MARK = n.toNat ∧
      Kept [ENG_SVMARK_MARK, ENG_SVMARK_COUNT] s t ∧ Ran s c { t with regs := s.regs } (s.prog (ctxNum c)) ((s.prog (ctxNum c)).pc + 4) 1) ∧
    (∀ n : BitVec 12, c = .rsa → n.toNat < 8 → ∃ t, exec (.sig c n) s = .next t ∧
      (t.seqr 0).outs = (s.seqr 0).outs ^^^ 2 ^ n.toNat ∧
      Ran s c { t with seqs := s.seqs } (s.prog (ctxNum c)) ((s.prog (ctxNum c)).pc + 4) 1) ∧
    (∀ n : BitVec 12, c = .ce → 2 ≤ n.toNat → n.toNat < 16 → ∃ t, exec (.sig c n) s = .next t ∧
      (t.get COL_SIGLOG_LOG).testBit (n.toNat - 2) = true ∧ Kept [COL_SIGLOG_LOG] s t ∧
      Ran s c { t with regs := s.regs } (s.prog (ctxNum c)) ((s.prog (ctxNum c)).pc + 4) 1) ∧
    (∀ p b (n : BitVec 12), c = .part p b → n ≠ 2 → ∃ t, exec (.trap c n) s = .next t ∧ (t.prog (ctxNum c)).run = .trap n.toNat ∧
      (t.prog (ctxNum c)).pc = (s.prog (ctxNum c)).pc ∧ (t.prog (ctxNum c)).g = (s.prog (ctxNum c)).g ∧
      { t with progs := s.progs, eng := s.eng } = s) ∧
    (∀ n, s.dbg.scope = none → ∃ t, exec (.bkpt c n) s = .next t ∧ Ran s c t (s.prog (ctxNum c)) ((s.prog (ctxNum c)).pc + 4) 1) ∧
    (∀ d, ∃ t, exec (.mfs c d 0) s = .next t ∧ t.readTickh (Who.ofCtx c).tag (Who.ofCtx c).imgB = s.tbs.now / 2 ^ 32 ∧
      Ran s c { t with tbs := s.tbs } ((s.prog (ctxNum c)).setReg d (BitVec.ofNat 32 s.tbs.now)) ((s.prog (ctxNum c)).pc + 4) 1) ∧
    (∀ d, ∃ t, exec (.mfs c d 2) s = .next t ∧
      Ran s c t ((s.prog (ctxNum c)).setReg d (BitVec.ofNat 32 (ctxTag c))) ((s.prog (ctxNum c)).pc + 4) 1) ∧
    (∀ d, ∃ t, exec (.mfs c d 7) s = .next t ∧
      Ran s c t ((s.prog (ctxNum c)).setReg d (s.prog (ctxNum c)).cyc) ((s.prog (ctxNum c)).pc + 4) 1) ∧
    (∀ a, ∃ t, exec (.mts c a 7) s = .next t ∧ (t.prog (ctxNum c)).cyc = (s.prog (ctxNum c)).reg a ∧
      (t.prog (ctxNum c)).g = (s.prog (ctxNum c)).g ∧ (t.prog (ctxNum c)).pc = (s.prog (ctxNum c)).pc + 4 ∧
      { t with progs := s.progs, eng := s.eng } = s) ∧
    (∀ a, c = .sv → ∃ t, exec (.mts c a 4) s = .next t ∧
      Ran s c t { s.prog (ctxNum c) with evm := ((s.prog (ctxNum c)).reg a).toNat } ((s.prog (ctxNum c)).pc + 4) 1) ∧
    (∀ p b a, c = .part p b → (s.part p).dual = none → ∃ t, exec (.mts c a 4) s = .next t ∧
      t.get (PEC_EEN_EEN.at p) = ((s.prog (ctxNum c)).reg a).toNat ∧ Kept [PEC_EEN_EEN.at p] s t ∧
      Ran s c { t with regs := s.regs } (s.prog (ctxNum c)) ((s.prog (ctxNum c)).pc + 4) 1)

/-- Every SUBMIT with a bad buffer is refused without a ticket, and a sound one takes the next ticket (R316, R317, R318, R319). -/
def Obligations.SubmissionsTakeATicketOrAreRefused : Prop :=
  ∀ (s : State) (p : Fin 32) (b : Bool) (d a : Fin 16), Ready s (.part p b) →
    ∀ (i : Instr) (n : Nat), (i, n) ∈ [(Instr.submitTransmit (.part p b) d a, 0), (.submitTxCancel (.part p b) d a, 1),
        (.submitAssocAdd (.part p b) d a, 2), (.submitAssocDrop (.part p b) d a, 3), (.submitAssocInfo (.part p b) d a, 4),
        (.submitKeyLoad (.part p b) d a, 5), (.submitKeyRotate (.part p b) d a, 6), (.submitCipherOp (.part p b) d a, 7),
        (.submitCrcOp (.part p b) d a, 8), (.submitDirectDecode (.part p b) d a, 9)] →
      let k := ctxNum (.part p b)
      let addr := ((s.prog k).reg a).toNat
      let req := ofOctets (s.winOcts p addr 4) % 65536
      let buf := ofOctets (s.winOcts p addr 4) / 65536
      let o := s.winOcts p (addr + 4) req
      (addr % 4 ≠ 0 ∨ s.inWin p addr (max buf 4) = false → ∃ t, exec i s = .next t ∧
        Ran s (.part p b) t ((s.prog k).setReg d (BitVec.ofNat 32 (Code.refusedAccess.num * 2 ^ 24))) ((s.prog k).pc + 4) 24) ∧
      (addr % 4 = 0 → s.inWin p addr (max buf 4) = true → buf < req ∨ buf < 4 + svcReport n o → ∃ t, exec i s = .next t ∧
        Ran s (.part p b) t ((s.prog k).setReg d (BitVec.ofNat 32 (Code.refusedLength.num * 2 ^ 24))) ((s.prog k).pc + 4) 24) ∧
      (n ≠ 0 → addr % 4 = 0 → s.inWin p addr (max buf 4) = true → req ≤ buf → 4 + svcReport n o ≤ buf → 32 ≤ s.ticketsOut p false →
        ∃ t, exec i s = .next t ∧
          Ran s (.part p b) t ((s.prog k).setReg d (BitVec.ofNat 32 (Code.refusedQuota.num * 2 ^ 24))) ((s.prog k).pc + 4) 24) ∧
      (n ≠ 0 → addr % 4 = 0 → s.inWin p addr (max buf 4) = true → req ≤ buf → 4 + svcReport n o ≤ buf → s.ticketsOut p false < 32 →
        ∃ t, exec i s = .next t ∧
          (t.part p).tickets = (s.part p).tickets ++
            [{ num := (s.part p).freshTicket, imgB := b, service := n, buf := addr, len := buf, reqLen := req }] ∧
          Ran s (.part p b) { t with parts := s.parts, crcs := s.crcs }
            ((s.prog k).setReg d (BitVec.ofNat 32 (Code.accepted.num * 2 ^ 24 + (s.part p).freshTicket))) ((s.prog k).pc + 4) 24) ∧
      (∀ x, n = 0 → addr % 4 = 0 → s.inWin p addr (max buf 4) = true → req ≤ buf → 28 ≤ buf → s.ticketsOut p true < (s.part p).desc.txQ →
        s.subJudge p b false o = .inr x → ∃ t, exec i s = .next t ∧
          t.txs = s.txs ++ [{ x with tk := (s.part p).freshTicket, id := s.air.next }] ∧
          Ran s (.part p b) { t with parts := s.parts, txs := s.txs, air := s.air }
            ((s.prog k).setReg d (BitVec.ofNat 32 (Code.accepted.num * 2 ^ 24 + (s.part p).freshTicket))) ((s.prog k).pc + 4) 24)

/-- COLLECT, MPUSH and MPOP answer as their tables say, a service's return resumes its context, and a wait ends when its event has come (R321, R322, R323, R314, R367). -/
def Obligations.TicketsAndMessagesOfAProgram : Prop :=
  ∀ (s : State) (p : Fin 32) (b : Bool) (d a : Fin 16),
    (Ready s (.part p b) → s.collectTake p b ((s.prog (ctxNum (.part p b))).reg a).toNat = none →
      ∃ t, exec (.collect (.part p b) d a false) s = .next t ∧
        Ran s (.part p b) t { (s.prog (ctxNum (.part p b))).setReg d 0 with z := false, c := false } ((s.prog (ctxNum (.part p b))).pc + 4) 4) ∧
    (Ready s (.part p b) → s.collectTake p b ((s.prog (ctxNum (.part p b))).reg a).toNat = none →
      ∃ t, exec (.collect (.part p b) d a true) s = .next t ∧
        (t.prog (ctxNum (.part p b))).run = .collect d.val ((s.prog (ctxNum (.part p b))).reg a).toNat ∧
        (t.prog (ctxNum (.part p b))).pc = (s.prog (ctxNum (.part p b))).pc ∧ { t with progs := s.progs, eng := s.eng } = s) ∧
    (∀ w tk st, Ready s (.part p b) → ((s.prog (ctxNum (.part p b))).reg a).toNat = tk.num → tk.num ≠ 0 →
      ((s.part p).tickets.filter fun t => t.imgB = b).find? (fun t => t.num = tk.num) = some tk → tk.status = some st →
      ∃ t, exec (.collect (.part p b) d a w) s = .next t ∧
        (∀ u ∈ (t.part p).tickets, u.num ≠ tk.num) ∧
        Ran s (.part p b) { t with parts := s.parts }
          { (s.prog (ctxNum (.part p b))).setReg d (BitVec.ofNat 32 (st * 2 ^ 24 + tk.service * 2 ^ 16 + tk.num)) with z := true, c := false }
          ((s.prog (ctxNum (.part p b))).pc + 4) 4) ∧
    (∀ fn : BitVec 3, Ready s (.part p b) → fn.toNat < 3 → ∃ t, exec (.mpush (.part p b) d a fn) s = .next t ∧
      Ran s (.part p b) t { (s.prog (ctxNum (.part p b))).setReg d (BitVec.ofNat 32 Code.refusedState.num) with out := [], outOpen := false }
        ((s.prog (ctxNum (.part p b))).pc + 4) 2) ∧
    (Ready s (.part p b) → (s.prog (ctxNum (.part p b))).out.length + 4 ≤ 2048 → (s.mb p).wait = [] →
      (s.mb p).room ((s.prog (ctxNum (.part p b))).out.length + 4) = true → ∃ t, exec (.mpush (.part p b) d a 3) s = .next t ∧
        Ran s (.part p b) t { (s.prog (ctxNum (.part p b))).setReg d (BitVec.ofNat 32 Code.done.num) with
          out := (s.prog (ctxNum (.part p b))).out ++ octets 4 ((s.prog (ctxNum (.part p b))).reg a).toNat, outOpen := true }
          ((s.prog (ctxNum (.part p b))).pc + 4) 2) ∧
    (Ready s (.part p b) → 4 ≤ (s.prog (ctxNum (.part p b))).out.length → (s.prog (ctxNum (.part p b))).out.length + 4 ≤ 2048 →
      (s.mb p).wait = [] → (s.mb p).room ((s.prog (ctxNum (.part p b))).out.length + 4) = true →
      ∃ t, exec (.mpush (.part p b) d a 7) s = .next t ∧ (t.prog (ctxNum (.part p b))).reg d = BitVec.ofNat 32 Code.accepted.num ∧
        (t.prog (ctxNum (.part p b))).out = [] ∧ (t.prog (ctxNum (.part p b))).outOpen = false ∧
        t.get (HIF_PALIVE_OUTNEXT.at p) = (s.get (HIF_PALIVE_OUTNEXT.at p) + 1) % 256) ∧
    (∀ x, Ready s (.part p b) → (s.part p).dual = none → (s.mb p).tq = [] → ∃ t, exec (.mpop (.part p b) d x) s = .next t ∧
      Ran s (.part p b) t { (s.prog (ctxNum (.part p b))).setReg d 0 with c := false, z := false } ((s.prog (ctxNum (.part p b))).pc + 4) 3) ∧
    (∀ m l, Ready s (.part p b) → (s.part p).dual = none → (s.mb p).tq = m :: l → (s.mb p).taken + 4 < m.size →
      ∃ t, exec (.mpop (.part p b) d false) s = .next t ∧ (t.mb p).taken = (s.mb p).taken + 4 ∧ (t.mb p).tq = (s.mb p).tq ∧
        Ran s (.part p b) { t with mbox := s.mbox }
          { (s.prog (ctxNum (.part p b))).setReg d (BitVec.ofNat 32 (ofOctets ((((m.octets p).take m.size).drop (s.mb p).taken).take 4))) with
            c := true, z := false } ((s.prog (ctxNum (.part p b))).pc + 4) 3) ∧
    (∀ m l, Ready s (.part p b) → (s.part p).dual = none → (s.mb p).tq = m :: l → ∃ t, exec (.mpop (.part p b) d true) s = .next t ∧
      (t.mb p).tq = l ∧ (t.mb p).taken = 0 ∧ (t.prog (ctxNum (.part p b))).reg d = 0 ∧ (t.prog (ctxNum (.part p b))).c = true) ∧
    (s.svHalted = false → s.pstate p = PState.running.num → (s.prog (ctxNum (.part p b))).run = .trap 0 →
      ∃ t, exec (.trapReturn p b) s = .next t ∧ (t.prog (ctxNum (.part p b))).run = .ready ∧
        (t.prog (ctxNum (.part p b))).pc = (s.prog (ctxNum (.part p b))).pc + 4 ∧
        (t.prog (ctxNum (.part p b))).reg 0 = BitVec.ofNat 32 Code.done.num ∧
        (t.prog (ctxNum (.part p b))).reg 3 = BitVec.ofNat 32 (s.get SYS_GEN_GEN) ∧ SameMem s t) ∧
    (∀ n, 4 ≤ n → s.svHalted = false → s.pstate p = PState.running.num → (s.prog (ctxNum (.part p b))).run = .trap n →
      ∃ t, exec (.trapReturn p b) s = .next t ∧ (t.prog (ctxNum (.part p b))).run = .ready ∧
        (t.prog (ctxNum (.part p b))).pc = (s.prog (ctxNum (.part p b))).pc + 4 ∧
        (t.prog (ctxNum (.part p b))).reg 0 = BitVec.ofNat 32 Code.refusedState.num ∧ SameMem s t) ∧
    (∀ c v, s.ctxUp c = true → (s.prog (ctxNum c)).run = .waitT v → v ≤ s.tbs.now → ∃ t, exec (.contextResume c) s = .next t ∧
      (t.prog (ctxNum c)).run = .ready ∧ (t.prog (ctxNum c)).pc = (s.prog (ctxNum c)).pc + 4 ∧
      (t.prog (ctxNum c)).g = (s.prog (ctxNum c)).g ∧ SameMem s t) ∧
    (∀ c v, (s.prog (ctxNum c)).run = .waitT v → s.tbs.now < v → exec (.contextResume c) s = .next s)

/-- TUNE, RXARM, TXARM, FIRE and LBTQ act as their rows say (R324, R325, R326, R327, R328, R329). -/
def Obligations.RadioInstructionsOfTheSequencers : Prop :=
  ∀ (s : State) (d a : Fin 16),
    (Ready s .rsa → freqOk ((s.prog 33).reg a).toNat = false → ∃ t, exec (.tune .rsa d a 2) s = .next t ∧ t.get (SYNx_STAT_FREQREJ 2) = 1 ∧
      Kept [SYNx_STAT_FREQREJ 2] s t ∧
      Ran s .rsa { t with regs := s.regs } ((s.prog 33).setReg d (BitVec.ofNat 32 Code.refusedState.num)) ((s.prog 33).pc + 4) 1) ∧
    (Ready s .rsb → s.combined = false → freqOk ((s.prog 34).reg a).toNat = true → s.get (SYNx_CTL_EN 1) = 0 →
      ∃ t, exec (.tune .rsb d a 1) s = .next t ∧ t.get (SYNx_FREQ_FREQ 1) = ((s.prog 34).reg a).toNat % 2 ^ 29 ∧
        (t.prog 34).reg d = BitVec.ofNat 32 Code.done.num ∧ (t.prog 34).pc = (s.prog 34).pc + 4 ∧ SameMem s t) ∧
    (Ready s .rsa → exec (.tune .rsa d a 1) s = .next (s.ctxFault .rsa .access (s.prog 33).pc.toNat)) ∧
    (Ready s .rsa → ∃ t, exec (.rxarm .rsa d a 2) s = .next t ∧ t.get (RXx_STAT_PROT 0) = 1 ∧ Kept [RXx_STAT_PROT 0] s t ∧
      Ran s .rsa { t with regs := s.regs } ((s.prog 33).setReg d (BitVec.ofNat 32 Code.done.num)) ((s.prog 33).pc + 4) 1) ∧
    (Ready s .ce → ∃ t, exec (.rxarm .ce d a 1) s = .next t ∧ t.get COL_STAT_RXON = 1 ∧ Kept [COL_STAT_RXON] s t ∧
      Ran s .ce { t with regs := s.regs } ((s.prog 35).setReg d (BitVec.ofNat 32 Code.done.num)) ((s.prog 35).pc + 4) 1) ∧
    (Ready s .rsa → s.txBound = none → s.txReleased = none → ∃ t, exec (.txarm .rsa d) s = .next t ∧
      Ran s .rsa t { (s.prog 33).setReg d 0 with z := true } ((s.prog 33).pc + 4) 1) ∧
    (∀ x, Ready s .rsa → s.txBound = none → s.txReleased = some x → ∃ t, exec (.txarm .rsa d) s = .next t ∧
      t.txs = s.txs.map (fun u => if u.id = x.id then { u with stage := .bound } else u) ∧ t.get ENG_TXBIND_BOUND = 1 ∧
      t.get ENG_TXBIND_FIXED = x.fixed.toNat ∧ Kept [ENG_TXBIND_BOUND, ENG_TXBIND_FIXED] s t ∧
      Ran s .rsa { t with regs := s.regs, txs := s.txs } { (s.prog 33).setReg d (BitVec.ofNat 32 x.tzero) with z := false } ((s.prog 33).pc + 4) 1) ∧
    (∀ f, Ready s .rsa → s.txBound = none → ∃ t, exec (.fire .rsa d f) s = .next t ∧
      Ran s .rsa t ((s.prog 33).setReg d (BitVec.ofNat 32 Code.refusedState.num)) ((s.prog 33).pc + 4) 1) ∧
    (∀ x, Ready s .rsa → s.txBound = some x → s.fireGate = false → ∃ t, exec (.fire .rsa d false) s = .next t ∧
      Ran s .rsa t ((s.prog 33).setReg d (BitVec.ofNat 32 Code.deferred.num)) ((s.prog 33).pc + 4) 1) ∧
    (∀ x, Ready s .rsa → s.txBound = some x → s.fireGate = true → fireStamp .rsa x s.tbs.now = true → ∃ t, exec (.fire .rsa d false) s = .next t ∧
      t.get TXM_STAT_ACTIVE = 1 ∧ t.get TXM_STAT_PHASE = 1 ∧ t.get ENG_TXBIND_BOUND = 0 ∧
      (t.prog 33).reg d = BitVec.ofNat 32 Code.done.num ∧ (t.prog 33).pc = (s.prog 33).pc + 4) ∧
    (∀ c, Ready s c → c ≠ .ce → s.monSlot ((s.prog (ctxNum c)).reg a).toNat 1 = none → ∃ t n, exec (.lbtq c d a) s = .next t ∧
      Ran s c t ((s.prog (ctxNum c)).setReg d 0x80000002) ((s.prog (ctxNum c)).pc + 4) n) ∧
    (∀ (p : Fin 32) b sel, Ready s (.part p b) → exec (.tune (.part p b) d a sel) s =
      .next ((s.takeTurn (.part p b)).ctxFault (.part p b) .illegal (s.prog (ctxNum (.part p b))).pc.toNat))

/-- Every well-formed Ihlesque instruction is read back from its word (R295, R296, R298, R299, R303, R306, R308, R309, R316, R321, R322, R323). -/
def Obligations.DecodingUndoesEncoding : Prop :=
  ∀ (i : Instr) (c : Ctx) (w : Nat), ihCtx i = some c → i.wf = true → encodeIh i = some w → w < 2 ^ 32 ∧ decodeIh c w = some i

/-- Words written out from the encodings read as the instructions they stand for, and reserved words as none (R295, R298, R299, R304, R306, R309, R316, R324, R296). -/
def Obligations.WordsReadAsTheirInstructions : Prop :=
  ∀ c : Ctx, decodeIh c 0x0048C001 = some (.add c 1 2 3) ∧ decodeIh c 0x3103FFFF = some (.movi c 4 (-1)) ∧
    decodeIh c 0x48480008 = some (.ldw c 1 2 8) ∧ decodeIh c 0x80000003 = some (.br c 0 3) ∧
    decodeIh c 0xC0082000 = some (.waitt c 2) ∧ decodeIh c 0xC44C0000 = some (.submitTransmit c 1 3) ∧
    decodeIh c 0xD4802000 = some (.txarm c 2) ∧ decodeIh c 0xD5003000 = some (.fire c 4 false) ∧
    decodeIh c 0xFFFFFFFF = none ∧ decodeIh c 0x00000014 = none ∧ decodeIh c 0x30040000 = none

/-- An instruction outside its profile, a reserved immediate and a fetch that may not be made fault with PC recorded and nothing else of the instruction done (R270, R296, R330, R334). -/
def Obligations.IllegalWordsAndFetchesFault : Prop :=
  ∀ s : State,
    (∀ d a b, s.mayIssue .ce = true → (s.place .ce .fetch (s.prog 35).pc.toNat 4).isRight = true →
      exec (.mul .ce d a b) s = .next (s.ctxFault .ce .illegal (s.prog 35).pc.toNat)) ∧
    (∀ c d a (i : BitVec 18), s.mayIssue c = true → (s.place c .fetch (s.prog (ctxNum c)).pc.toNat 4).isRight = true → 32 ≤ i.toNat →
      exec (.shlImmediate c d a i) s = .next ((s.takeTurn c).ctxFault c .illegal (s.prog (ctxNum c)).pc.toNat)) ∧
    (∀ c e, s.mayIssue c = true → s.place c .fetch (s.prog (ctxNum c)).pc.toNat 4 = .inl e →
      exec (.nop c) s = .next ((s.takeTurn c).ctxFault c e (s.prog (ctxNum c)).pc.toNat) ∧
      exec (.illegalInstruction c) s = .next ((s.takeTurn c).ctxFault c e (s.prog (ctxNum c)).pc.toNat)) ∧
    (∀ c, s.mayIssue c = false → exec (.nop c) s = .next s ∧ exec (.illegalInstruction c) s = .next s) ∧
    (∀ (p : Fin 32) b m, s.mayIssue (.part p b) = true → s.place (.part p b) .fetch (s.prog (ctxNum (.part p b))).pc.toNat 4 = .inr (.mem m) →
      memOpen m = false → memDark m = false → wordOk (.part p b) (s.num m 4) = false → exec (.illegalInstruction (.part p b)) s =
        .next ((s.takeTurn (.part p b)).ctxFault (.part p b) .illegal (s.prog (ctxNum (.part p b))).pc.toNat)) ∧
    (∀ (p : Fin 32) b m, s.mayIssue (.part p b) = true → s.place (.part p b) .fetch (s.prog (ctxNum (.part p b))).pc.toNat 4 = .inr (.mem m) →
      memOpen m = false → memDark m = false → wordOk (.part p b) (s.num m 4) = true → exec (.illegalInstruction (.part p b)) s = .next s) ∧
    (∀ (p : Fin 32) (w : Word) e, (s.part p).rst = none → (s.part p).dual = none →
      ((s.ctxFault (.part p false) e w.toNat).get (PRT_FAULT_FCAUSE.at p) = e.num ∧
        (s.ctxFault (.part p false) e w.toNat).get (PRT_FADDR_ADDR.at p) = w.toNat ∧
        (s.ctxFault (.part p false) e w.toNat).pstate p = PState.faulted.num ∧
        ((s.ctxFault (.part p false) e w.toNat).prog p).run = .idle ∧ SameMem s (s.ctxFault (.part p false) e w.toNat) ∧
        (s.pexists p = true → Pends (s.ctxFault (.part p false) e w.toNat) p .fault)))

/-- Slices, watchdogs, engine service and the sequencers' banks follow their rules (R335, R344, R357, R358, R362, R364, R365). -/
def Obligations.EnginesAndSequencersTakeTheirTurns : Prop :=
  ∀ (s : State) (x : Fin 2) (e : Fin 4),
    (∀ k, (s.engine e).cur = some k → (s.get ENG_STAT_DRAIN).testBit e = false → (s.engIn.find? fun d => (s.engine d).back) = none →
      (s.engine e).slices + 1 < s.get (SAD_ENGp_WSLICE (ctxPart k)) → ∃ t, exec (.sliceEnd e) s = .next t ∧
        (t.engine e).cur = some k ∧ (t.engine e).slices = (s.engine e).slices + 1 ∧ { t with eng := s.eng } = s) ∧
    (∀ k j, (s.engine e).cur = some k → (s.get ENG_STAT_DRAIN).testBit e = false → (s.engIn.find? fun d => (s.engine d).back) = none →
      s.get (SAD_ENGp_WSLICE (ctxPart k)) ≤ (s.engine e).slices + 1 → s.nextTurn e k = some j → ∃ t, exec (.sliceEnd e) s = .next t ∧
        (t.engine e).cur = some j ∧ (t.engine e).slices = 0 ∧ { t with eng := s.eng } = s) ∧
    (∃ t, exec (.engineServiceWrite 15) s = .next t ∧ t.get ENG_STAT_SVCREJ = 1 ∧ OnlyRegs [ENG_STAT_SVCREJ] s t) ∧
    (∀ out : BitVec 4, s.engPlan ((List.range 4).filter fun e => !out.toNat.testBit e) 32 0 0 ≠ none → out ≠ 15 →
      ∃ t, exec (.engineServiceWrite out) s = .next t ∧ t.get ENG_SVC_OUT = out.toNat ∧ t.get ENG_STAT_SVCREJ = 0 ∧ SameMem s t) ∧
    (∀ (p : Fin 32) b, ∃ t, exec (.watchdogKick p b) s = .next t ∧ (t.prog (ctxNum (.part p b))).wdog = 0 ∧
      (∀ j, j ≠ ctxNum (.part p b) → t.prog j = s.prog j) ∧ { t with progs := s.progs } = s) ∧
    (∀ p : Fin 32, s.get (ENG_WDOGp_LIMIT p) ≠ 0 → s.get (ENG_WDOGp_LIMIT p) * 1000 ≤ (s.prog p).wdog → (s.prog p).going = true →
      (s.part p).rst = none → (s.part p).dual = none → ∃ t, exec (.engineWatchdogExpiry p false) s = .next t ∧
        t.get (PRT_FAULT_FCAUSE.at p) = 5 ∧ t.get (PRT_FADDR_ADDR.at p) = (s.prog p).pc.toNat ∧ t.pstate p = PState.faulted.num ∧ SameMem s t) ∧
    (∀ (p : Fin 32) b, s.get (ENG_WDOGp_LIMIT p) = 0 → exec (.engineWatchdogExpiry p b) s = .next s) ∧
    ((s.sysSlot (2 + x) (s.get (ENG_SEQCTLx_SRC x))).st ≠ .verified ∨ s.get (ENG_SEQSTATx_SWPEND x) ≠ 0 →
      ∃ t, exec (.sequencerLoad x) s = .next t ∧ t.get (ENG_SEQSTATx_LOADREJ x) = 1 ∧ OnlyRegs [ENG_SEQSTATx_LOADREJ x] s t) ∧
    ((s.sysSlot (2 + x) (s.get (ENG_SEQCTLx_SRC x))).st = .verified → s.get (ENG_SEQSTATx_SWPEND x) = 0 →
      s.sealOk 0 (2 + x) (s.get (ENG_SEQCTLx_SRC x)) = true → ∃ t, exec (.sequencerLoad x) s = .next t ∧
        t.get (ENG_SEQSTATx_LOADREJ x) = 0 ∧ (t.seqr x).loading = true ∧ (t.seqr x).loadSlot = s.get (ENG_SEQCTLx_SRC x) ∧
        OnlyRegs [ENG_SEQSTATx_LOADREJ x, ENG_SEQSTATx_FAULTED x] s { t with seqs := s.seqs }) ∧
    ((s.seqr x).loading = true → ∃ t, exec (.sequencerLoadDone x) s = .next t ∧ (t.seqr x).loading = false ∧
      ((t.seqr x).bank (1 - s.get (ENG_SEQSTATx_BANK x))).loaded = true ∧
      ((t.seqr x).bank (1 - s.get (ENG_SEQSTATx_BANK x))).entry = (s.sysSlot (2 + x) (s.seqr x).loadSlot).hdr.entry ∧
      { t with seqs := s.seqs } = s) ∧
    (∃ t, exec (.sequencerSwapRequest x) s = .next t ∧ (t.seqr x).swap = true ∧ t.get (ENG_SEQSTATx_SWPEND x) = 1 ∧
      OnlyRegs [ENG_SEQSTATx_SWPEND x] s { t with seqs := s.seqs }) ∧
    (∀ d, s.get (ENG_SEQSTATx_SWPEND x) ≠ 0 → (s.prog (seqCtx x)).run = .waitE d → (s.seqr x).loading = false → s.get TXM_STAT_ACTIVE = 0 →
      s.get ENG_TXBIND_BOUND = 0 → (s.seqr x).swap = true → s.get (ENG_SEQCTLx_BASIC x) = 0 → ∃ t, exec (.sequencerSwap x) s = .next t ∧
        t.get (ENG_SEQSTATx_BANK x) = (1 - s.get (ENG_SEQSTATx_BANK x)) ∧ t.get (ENG_SEQSTATx_SWPEND x) = 0 ∧
        (t.prog (seqCtx x)).run = .ready ∧ t.get (ENG_SEQSTATx_BASICACT x) = 0 ∧
        (t.prog (seqCtx x)).pc = BitVec.ofNat 32 ((s.seqr x).bank (1 - s.get (ENG_SEQSTATx_BANK x))).entry ∧ SameMem s t) ∧
    ((s.prog (seqCtx x)).run = .ready ∨ s.get TXM_STAT_ACTIVE ≠ 0 → exec (.sequencerSwap x) s = .next s) ∧
    (∀ b, ∃ t, exec (.sequencerBasicWrite x b) s = .next t ∧ t.get (ENG_SEQCTLx_BASIC x) = b.toNat ∧
      t.get (ENG_SEQSTATx_SWPEND x) = ((s.seqr x).swap || b != s.flag (ENG_SEQSTATx_BASICACT x)).toNat ∧
      OnlyRegs [ENG_SEQCTLx_BASIC x, ENG_SEQSTATx_SWPEND x] s { t with seqs := s.seqs }) ∧
    (s.svHalted = false → (s.seqr x).stopped = true → ∃ t, exec (.sequencerRestart x) s = .next t ∧ (t.seqr x).stopped = false ∧
      t.get (ENG_SEQSTATx_FAULTED x) = 1 ∧ (t.prog (seqCtx x)).run = .ready ∧
      t.get (ENG_SEQSTATx_BASICACT x) = (!(((s.seqr x).bank (1 - s.get (ENG_SEQSTATx_BANK x))).loaded &&
        !((s.seqr x).bank (1 - s.get (ENG_SEQSTATx_BANK x))).faulted)).toNat ∧ SameMem s t) ∧
    ((s.seqr x).stopped = false → exec (.sequencerRestart x) s = .next s) ∧
    ((s.prog 34).going = true → (s.prog 34).wdog + s.get ENG_SEQWD_RSBWD * 1000 ≤ s.tick → s.get (ENG_SEQCTLx_EN 1) ≠ 0 →
      ∃ t, exec (.sequencerWatchdogExpiry 1) s = .next t ∧ t.get ENG_SFAULT_FCAUSE = 5 ∧ t.get ENG_SFAULT_ENGID = 6 ∧
        t.get ENG_SFADDR_ADDR = (s.prog 34).pc.toNat ∧ (t.prog 34).run = .idle ∧ (t.seqr 1).stopped = true ∧ SameMem s t) ∧
    ((s.prog 33).going = false → exec (.sequencerWatchdogExpiry 0) s = .next s)

/-- An image is verified at its end or rejected, starts a stopped partition, and a new supervisor must confirm itself (R318, R347, R349, R350, R360, R361, R536). -/
def Obligations.ImagesAreVerifiedAndActivated : Prop :=
  ∀ (s : State) (p : Fin 32),
    (∀ kind, s.svHalted = true → exec (.imageVerifyDone p kind) s = .next s) ∧
    (∀ (kind : Fin 5) i, s.svHalted = false → ([0, 1].find? fun i => (s.imgSlot p kind i).verify) = some i →
      s.tick < (s.imgSlot p kind i).lastAt + 40000 → exec (.imageVerifyDone p kind) s = .next s) ∧
    (∀ (kind : Fin 5) i, s.svHalted = false → ([0, 1].find? fun i => (s.imgSlot p kind i).verify) = some i →
      (s.imgSlot p kind i).lastAt + 40000 ≤ s.tick → s.imgBusy p kind i = false →
      s.imgVerdict p kind i (s.imgSlot p kind i).lastBy ≠ .refusedAccess → ∃ t, exec (.imageVerifyDone p kind) s = .next t ∧
        (t.imgSlot p kind i).verify = false ∧
        (t.imgSlot p kind i).st = (if s.imgVerdict p kind i (s.imgSlot p kind i).lastBy = .done then .verified else .rejected) ∧ SameMem s t) ∧
    (∀ i, s.svHalted = false → (s.part p).act = some (.start i) → s.pstate p = PState.stopped.num → ((s.part p).slot i).st = .verified →
      s.sealHolds ((s.part p).slot i) = true → ∃ t, exec (.imageStart p) s = .next t ∧ t.pstate p = PState.running.num ∧
        (t.prog p).run = .ready ∧ (t.prog p).pc = BitVec.ofNat 32 ((s.part p).slot i).hdr.entry ∧ (t.prog p).g = [] ∧ (t.part p).act = none) ∧
    ((s.part p).act = none → exec (.imageStart p) s = .next s) ∧
    (s.get ENG_STAT_SVPEND = 0 → exec .supervisorSwitch s = .next s) ∧
    (s.svHalted = false → s.get ENG_STAT_SVPEND ≠ 0 → s.sealOk 0 0 (1 - s.svArea) = true → ∃ t, exec .supervisorSwitch s = .next t ∧
      t.get ENG_STAT_SVPEND = 0 ∧ t.sv.confirmBy = some (s.tick + 1000000) ∧ (t.prog 32).run = .ready ∧ (t.prog 32).g = []) ∧
    (s.svHalted = false → s.sv.confirmBy ≠ none → ∃ t, exec .supervisorConfirm s = .next t ∧ t.sv.confirmBy = none ∧
      t.get ENG_STAT_SVSLOT = s.svArea ∧ (t.sysSlot 0 s.svArea).st = .active ∧ (t.sysSlot 0 (1 - s.svArea)).st = .verified) ∧
    (s.sv.confirmBy = none → exec .supervisorConfirm s = .next s ∧ exec .supervisorConfirmTimeout s = .next s) ∧
    (∀ u, s.sv.confirmBy = some u → u ≤ s.tick → ∃ t, exec .supervisorConfirmTimeout s = .next t ∧
      t.get TMP_RSTCAUSE_CAUSE = RstCause.watchdog.num ∧ t.pwr.boot = true ∧ t.sv.confirmBy = none ∧ t.tbs.now = s.tbs.now) ∧
    (∀ u, s.sv.confirmBy = some u → s.tick < u → exec .supervisorConfirmTimeout s = .next s) ∧
    (∀ (tk : BitVec 16) x, tk ≠ 0 → x.service = 4 → x.status = none → x.num = tk.toNat →
      ((s.part p).tickets.find? fun t => t.num = tk.toNat) = some x → 2 ≤ x.reqLen →
      (s.part p).desc.assocQ ≤ fld (s.winOcts p (x.buf + 4) x.reqLen) 0 2 → ∃ t, exec (.serviceComplete p tk) s = .next t ∧
        (t.part p).done = (s.part p).done ++ [x.num] ∧
        (∀ u ∈ (t.part p).tickets, u.num = x.num → u.status = some Code.refusedAccess.num) ∧ t.regs = s.regs) ∧
    (∀ tk : BitVec 16, tk ≠ 0 → (s.part p).tickets = [] → exec (.serviceComplete p tk) s = .next s)

/-- Cores leave service, the random source fails and is reseeded, key slots are zeroed, quotas and limits keep their bounds (R371, R373, R374, R385, R386, R387, R619). -/
def Obligations.KeysCoresAndTheirCounts : Prop :=
  ∀ (s : State) (p : Fin 32) (w : Word),
    (∃ t, exec (.coreServiceWrite 15) s = .next t ∧ t.get SEC_STAT_SVCREJ = 1 ∧ OnlyRegs [SEC_STAT_SVCREJ] s t) ∧
    (∀ out : BitVec 4, out ≠ 15 → ∃ t, exec (.coreServiceWrite out) s = .next t ∧ t.get SEC_SVC_OUT = out.toNat ∧
      t.get SEC_STAT_INSVC = 15 - out.toNat ∧ t.get SEC_STAT_SVCREJ = 0 ∧ SameMem s t ∧
      (s.test = none → OnlyRegs [SEC_SVC_OUT, SEC_STAT_INSVC, SEC_STAT_SVCREJ] s t)) ∧
    (∃ t, exec (.trngHealthFail 0) s = .next t ∧ t.get SEC_STAT_TRNGERR = 1 ∧ t.get SEC_STAT_SEEDED = s.get SEC_STAT_SEEDED ∧
      t.get SEC_TRNGSTAT_RCTFAIL = min (s.get SEC_TRNGSTAT_RCTFAIL + 1) (2 ^ SEC_TRNGSTAT_RCTFAIL.w - 1) ∧
      t.get SEC_TRNGSTAT_APTFAIL = s.get SEC_TRNGSTAT_APTFAIL ∧ t.key.trngAt = s.tick ∧ SameMem s t) ∧
    (s.tick < s.key.trngAt + 1000000 ∨ s.get SEC_STAT_TRNGERR = 0 → exec .trngRestart s = .next s) ∧
    (s.get SEC_STAT_TRNGERR ≠ 0 → s.key.trngAt + 1000000 ≤ s.tick → ∃ t, exec .trngRestart s = .next t ∧
      t.key = { s.key with trngAt := s.tick } ∧ { t with key := s.key } = s) ∧
    (∃ t, exec .drbgReseed s = .next t ∧ t.get SEC_STAT_TRNGERR = 0 ∧ t.get SEC_STAT_SEEDED = 1 ∧
      OnlyRegs [SEC_STAT_TRNGERR, SEC_STAT_SEEDED] s t) ∧
    (∃ t, exec (.keyEnableWrite false) s = .next t ∧ t.get KEY_CTL_EN = 0 ∧ t.key = { s.key with slots := [] } ∧
      OnlyRegs [KEY_CTL_EN] s { t with key := s.key }) ∧
    (∃ t, exec (.keyEnableWrite true) s = .next t ∧ t.get KEY_CTL_EN = 1 ∧ OnlyRegs [KEY_CTL_EN] s t) ∧
    (∃ t, exec .keyFlush s = .next t ∧ t.key = { s.key with slots := [] } ∧ { t with key := s.key } = s) ∧
    (976 < ((allParts.filter (· ≠ p.val)).map fun i => s.get (KEY_TQUOTAp_QUOTA i)).sum + bits w.toNat 0 10 ∨ bits w.toNat 0 10 < s.ksHeld p →
      exec (.keyTableQuotaWrite p w) s = .next s) ∧
    (((allParts.filter (· ≠ p.val)).map fun i => s.get (KEY_TQUOTAp_QUOTA i)).sum + bits w.toNat 0 10 ≤ 976 → s.ksHeld p ≤ bits w.toNat 0 10 →
      ∃ t, exec (.keyTableQuotaWrite p w) s = .next t ∧ t.get (KEY_TQUOTAp_QUOTA p) = bits w.toNat 0 10 ∧
        OnlyRegs [KEY_TQUOTAp_QUOTA p] s t) ∧
    (KEY_ULIM_LIMIT.allows (bits w.toNat KEY_ULIM_LIMIT.lo KEY_ULIM_LIMIT.w) = true → ∃ t, exec (.keyLimitWrite p w) s = .next t ∧
      t.keyLimit p = bits w.toNat KEY_ULIM_LIMIT.lo KEY_ULIM_LIMIT.w ∧ t.key.slots = s.key.slots ∧
      (s.countedKeys p = [] → s.txs = [] → OnlyRegs [KEY_ULIM_LIMIT.at p] s t))

/-- A check-value unit is lent, started, fed and finished by its holder only, and feeding by two or four octets is feeding by one (R400, R401, R402, R403, R404, R406, R407, R408, R409). -/
def Obligations.CheckValueUnitsAreLentAndFed : Prop :=
  ∀ (s : State) (p : Fin 32) (l : Fin 8) (w : Word),
    (∀ i ∈ [Instr.crcHold p l, .crcReturn p l, .crcStart p l, .crcFinish p l, .crcFeed1 p l w, .crcFeed2 p l w, .crcFeed4 p l w,
        .crcStateRestore p l 0 w, .crcConfigWrite p l w], (s.crcSlot p l).busy = true → ∃ t, exec i s = .next t ∧
      t.crcSlot p l = { s.crcSlot p l with wrej := true } ∧ { t with crcs := s.crcs } = s) ∧
    ((s.crcSlot p l).busy = false → (s.crcSlot p l).unit = none →
      ((List.range 8).find? fun u => !s.crcLent.contains u) = none ∨ (s.part p).desc.crcQ ≤ l ∨ (s.part p).desc.crcQ ≤ s.crcHeld p →
      ∃ t, exec (.crcHold p l) s = .next t ∧ t.crcSlot p l = { s.crcSlot p l with loanrej := true } ∧ { t with crcs := s.crcs } = s) ∧
    (∀ n, (s.crcSlot p l).busy = false → (s.crcSlot p l).unit = none → ((List.range 8).find? fun u => !s.crcLent.contains u) = some n →
      l < (s.part p).desc.crcQ → s.crcHeld p < (s.part p).desc.crcQ → ∃ t, exec (.crcHold p l) s = .next t ∧
        t.crcSlot p l = { unit := some n } ∧ { t with crcs := s.crcs } = s) ∧
    ((s.crcSlot p l).busy = false → ∃ t, exec (.crcReturn p l) s = .next t ∧ t.crcSlot p l = {} ∧
      (∀ (q : Fin 32) (m : Fin 8), (q, m) ≠ (p, l) → t.crcSlot q m = s.crcSlot q m) ∧ { t with crcs := s.crcs } = s) ∧
    ((s.crcSlot p l).busy = false → (s.crcSlot p l).unit ≠ none → ∃ t, exec (.crcStart p l) s = .next t ∧
      (t.crcSlot p l).isOpen = true ∧ (t.crcSlot p l).cur = (s.crcSlot p l).par ∧ (t.crcSlot p l).reg = (s.crcSlot p l).par.init ∧
      (t.crcSlot p l).pos = 0 ∧ (t.crcSlot p l).unit = (s.crcSlot p l).unit ∧ { t with crcs := s.crcs } = s) ∧
    (∃ t u, exec (.crcFeed2 p l w) s = .next t ∧ exec (.crcFeed1 p l w) s = .next u ∧
      exec (.crcFeed1 p l (w >>> 8)) u = .next t) ∧
    (∃ t u v, exec (.crcFeed4 p l w) s = .next t ∧ exec (.crcFeed2 p l w) s = .next u ∧ exec (.crcFeed1 p l (w >>> 16)) u = .next v ∧
      exec (.crcFeed1 p l (w >>> 24)) v = .next t) ∧
    ((s.crcSlot p l).busy = false → (s.crcSlot p l).unit ≠ none → (s.crcSlot p l).isOpen = true →
      crcHolds (s.crcSlot p l).cur.cfg = false → ∃ t, exec (.crcFeed1 p l w) s = .next t ∧
        (t.crcSlot p l).reg = crcOctet (s.crcSlot p l).cur (s.crcSlot p l).reg (BitVec.ofNat 8 w.toNat) ∧
        (t.crcSlot p l).pos = min ((s.crcSlot p l).pos + 1) 65535 ∧ { t with crcs := s.crcs } = s) ∧
    ((s.crcSlot p l).busy = false → (s.crcSlot p l).unit ≠ none → (s.crcSlot p l).isOpen = true → ∃ t, exec (.crcFinish p l) s = .next t ∧
      (t.crcSlot p l).isOpen = false ∧ (t.crcSlot p l).res = crcResult (s.crcSlot p l).cur (s.crcSlot p l).reg ∧
      (bit (s.crcSlot p l).cur.cfg 8 = false → (t.crcSlot p l).cmpres = 0) ∧
      (bit (s.crcSlot p l).cur.cfg 8 = true → bit (s.crcSlot p l).cur.cfg 9 = false → (t.crcSlot p l).cmpres =
        if crcResult (s.crcSlot p l).cur (s.crcSlot p l).reg = (s.crcSlot p l).cur.exp then 1 else 2) ∧
      (2 ≤ (t.crcSlot p l).cmpres → s.pexists p = true → Pends t p .crcMismatch) ∧ OnlyRegs evFlds s { t with crcs := s.crcs }) ∧
    ((s.crcSlot p l).busy = false → (s.crcSlot p l).unit ≠ none → bit w.toNat 10 = true → 8 < bits w.toNat 16 3 + bits w.toNat 12 3 + 1 →
      ∃ t, exec (.crcConfigWrite p l w) s = .next t ∧ (t.crcSlot p l).par = (s.crcSlot p l).par ∧ (t.crcSlot p l).cfgrej = true ∧
        { t with crcs := s.crcs } = s) ∧
    ((s.crcSlot p l).busy = false → (s.crcSlot p l).unit ≠ none → bit w.toNat 10 = false → ∃ t, exec (.crcConfigWrite p l w) s = .next t ∧
      (t.crcSlot p l).par.cfg = (w &&& 0x7FF7777F).toNat ∧ (t.crcSlot p l).cfgrej = false ∧ { t with crcs := s.crcs } = s) ∧
    ((s.crcSlot p l).busy = false → (s.crcSlot p l).unit ≠ none → ∃ t, exec (.crcStateRestore p l 0 w) s = .next t ∧
      (t.crcSlot p l).isOpen = true ∧ (t.crcSlot p l).reg = w.toNat % 2 ^ crcW (t.crcSlot p l).cur.cfg ∧ { t with crcs := s.crcs } = s)

/-- A host request runs only at the head of its mailbox, within its rights and length, and its response carries its status and payload (R18, R27, R248, R249, R414, R417, R421, R424, R426, R428, R430). -/
def Obligations.HostRequestsAreJudgedAndAnswered : Prop :=
  ∀ (s : State) (p : Fin 32) (m : Msg),
    ((s.mb p).inq = [] → ∀ i ∈ [Instr.hello p, .status p, .resync p, .cfgGet p, .cfgSet p, .regRead p, .regWrite p, .txSubmit p, .txCancel p,
      .assocList p, .assocAdd p, .assocDrop p, .assocInfo p], exec i s = .next s) ∧
    (∀ typ, Asks s p m typ → p ≠ 0 → ∀ i ∈ [(Instr.regRead p, 0x60), (.regWrite p, 0x61)], i.2 = typ →
      exec i.1 s = .next (s.answer p .refusedAccess [])) ∧
    ((s.mb p).inq.head? = some m → m.typ = 0x30 → m.auth = false → s.hostReady p m = true → s.pwr.lockdown = true → 2 ≤ m.body.length →
      exec (.assocList p) s = .next (s.answer p .refusedState [])) ∧
    (Asks s p m 0x30 → m.body.length < 2 → exec (.assocList p) s = .next (s.answer p .refusedLength [])) ∧
    (∀ c rest, (s.mb p).inq = [m] → (s.mb p).wait = [] → (s.mb p).room (12 + rest.length) = true →
      ((s.answer p c rest).mb p).inq = [] ∧ ((s.answer p c rest).mb p).busy = false ∧ SameMem s (s.answer p c rest) ∧
      ∃ r, ((s.answer p c rest).mb p).outq = (s.mb p).outq ++ [r] ∧ r.cls = 1 ∧ r.typ = m.typ ∧ r.tag = m.tag ∧
        r.alive = s.get (HIF_PALIVE_OUTNEXT.at p) ∧ r.body = BitVec.ofNat 8 c.num :: 0 :: 0 :: 0 :: rest) ∧
    (Asks s p m 0x01 → exec (.hello p) s = .next (s.answer p .done (octets 4 (s.get SYS_ID_PART * 2 ^ 16 + s.get SYS_ID_REVL * 2 ^ 12 +
      s.get SYS_ID_REVN * 2 ^ 8 + s.get SYS_ID_MAXGEN) ++ octets 1 (s.get SYS_GEN_GEN) ++ [1] ++ octets 1 p.val ++ octets 1 (s.portOf p) ++
      octets 4 (s.sysSlot 0 s.svArea).hdr.version))) ∧
    (Asks s p m 0x02 → exec (.status p) s = .next (s.answer p .done (s.statusBody p))) ∧
    (Asks s p m 0x08 → 1 ≤ m.body.length → ∃ t, exec (.resync p) s = .next t ∧
      t.get (HIF_PALIVE_INLAST.at p) = fld m.body 0 1 ∧ SameMem s t) ∧
    (Asks s p m 0x10 → 4 ≤ m.body.length → viewMay p false (fld m.body 0 4) = true →
      exec (.cfgGet p) s = .next ((s.regRead (hostWho p false) (fld m.body 0 4)).2.answer p .done
        (octets 4 (s.regRead (hostWho p false) (fld m.body 0 4)).1))) ∧
    (Asks s p m 0x10 → 4 ≤ m.body.length → viewMay p false (fld m.body 0 4) = false → exec (.cfgGet p) s = .next (s.answer p .refusedAccess [])) ∧
    (Asks s p m 0x11 → 8 ≤ m.body.length → viewMay p true (fld m.body 0 4) = true →
      exec (.cfgSet p) s = .next ((s.regWrite (hostWho p false) (fld m.body 0 4) (fld m.body 4 4)).answer p .done [])) ∧
    (Asks s p m 0x60 → p = 0 → 5 ≤ m.body.length → fld m.body 4 1 = 1 → hostMay false (fld m.body 0 4) = true →
      exec (.regRead p) s = .next ((s.regRead (Who.host false) (fld m.body 0 4)).2.answer p .done
        (octets 4 (s.regRead (Who.host false) (fld m.body 0 4)).1))) ∧
    (Asks s p m 0x60 → p = 0 → 5 ≤ m.body.length → fld m.body 4 1 = 0 ∨ 64 < fld m.body 4 1 →
      exec (.regRead p) s = .next (s.answer p .refusedLength [])) ∧
    (Asks s p m 0x61 → p = 0 → 8 ≤ m.body.length → hostMay true (fld m.body 0 4) = true →
      exec (.regWrite p) s = .next ((s.hostWrite false (fld m.body 0 4) (fld m.body 4 4)).2.answer p
        (s.hostWrite false (fld m.body 0 4) (fld m.body 4 4)).1 [])) ∧
    (∀ x, Asks s p m 0x20 → 24 ≤ m.body.length → m.body.length = 24 + fld m.body 6 2 → s.subJudge p false true m.body = .inr x →
      ∃ t, exec (.txSubmit p) s = .next t ∧ t.txs = s.txs ++ [{ x with tk := (s.part p).freshTicket, id := s.air.next }] ∧ SameMem s t) ∧
    (∀ x, Asks s p m 0x21 → 2 ≤ m.body.length → (s.txs.find? fun t => t.kind = .submit && decide (t.p = p.val ∧ t.tk = fld m.body 0 2) &&
      t.stage ≠ .onAir && t.stage ≠ .acked) = some x → s.air.lbtRet = none → ∃ t, exec (.txCancel p) s = .next t ∧ t.txFind x.id = none) ∧
    (Asks s p m 0x30 → 2 ≤ m.body.length → exec (.assocList p) s = .next (s.answer p .done (s.assocList p (fld m.body 0 2)))) ∧
    (Asks s p m 0x31 → 44 ≤ m.body.length → exec (.assocAdd p) s = .next (s.hostBusy p) ∧
      exec (.serviceComplete p 0) (s.hostBusy p) = .next (((s.hostBusy p).assocAdd p m.body).2.2.answer p ((s.hostBusy p).assocAdd p m.body).1
        (restFor ((s.hostBusy p).assocAdd p m.body).1 ((s.hostBusy p).assocAdd p m.body).2.1))) ∧
    (Asks s p m 0x32 → 2 ≤ m.body.length → fld m.body 0 2 < (s.part p).desc.assocQ → s.entSt (s.entOf p (fld m.body 0 2)) ≠ 0 →
      ∃ t : State, exec (.assocDrop p) s = .next (t.answer p .done []) ∧ t.entSt (s.entOf p (fld m.body 0 2)) = 0) ∧
    (Asks s p m 0x33 → 2 ≤ m.body.length → fld m.body 0 2 < (s.part p).desc.assocQ → s.entSt (s.entOf p (fld m.body 0 2)) ≠ 0 →
      exec (.assocInfo p) s = .next (s.answer p .done (s.ntEntry p (fld m.body 0 2))))

/-- Key, check-value, cipher, image, event, mode, partition, regulatory and tenant requests act and answer as their rows say (R209, R266, R273, R277, R347, R349, R390, R392, R393, R415, R430, R458). -/
def Obligations.HostRequestsOfKeysImagesAndModes : Prop :=
  ∀ (s : State) (p : Fin 32) (m : Msg),
    (Asks s p m 0x38 → svcShort 5 m.body = false → exec (.keyLoad p) s = .next (s.hostBusy p) ∧
      exec (.serviceComplete p 0) (s.hostBusy p) =
        .next (((s.hostBusy p).keyLoad p m.body).2.answer p ((s.hostBusy p).keyLoad p m.body).1 [])) ∧
    (Asks s p m 0x39 → svcShort 6 m.body = false → exec (.keyRotate p) s = .next (s.hostBusy p) ∧
      exec (.serviceComplete p 0) (s.hostBusy p) =
        .next (((s.hostBusy p).keyRotate p m.body).2.answer p ((s.hostBusy p).keyRotate p m.body).1 [])) ∧
    (Asks s p m 0x50 → svcShort 8 m.body = false → exec (.crcOp p) s = .next ((s.crcReqStart p m.body).hostBusy p)) ∧
    (Asks s p m 0x51 → svcShort 7 m.body = false → exec (.cipherOp p) s = .next (s.hostBusy p) ∧
      exec (.serviceComplete p 0) (s.hostBusy p) = .next (((s.hostBusy p).cipherOp p m.body).2.2.answer p ((s.hostBusy p).cipherOp p m.body).1
        (restFor ((s.hostBusy p).cipherOp p m.body).1 ((s.hostBusy p).cipherOp p m.body).2.1))) ∧
    (Asks s p m 0x51 → svcShort 7 m.body = true → exec (.cipherOp p) s = .next (s.answer p .refusedLength [])) ∧
    (Asks s p m 0x40 → chunkOk m.body = true → 4 < fld m.body 4 1 ∨ 1 < fld m.body 5 1 →
      exec (.imageLoad p) s = .next (s.answer p .refusedState [])) ∧
    (Asks s p m 0x40 → chunkOk m.body = true → fld m.body 4 1 = 1 → fld m.body 5 1 = 0 → s.imgBusy p 1 (1 - s.actImg p 1) = false →
      fld m.body 0 4 + (m.body.drop 8).length ≤ (s.imgSlot p 1 (1 - s.actImg p 1)).size → ∃ t : State, exec (.imageLoad p) s = .next (t.answer p .done []) ∧
        (t.imgSlot p 1 (1 - s.actImg p 1)).st = .staging ∧
        t.octs ((s.imgSlot p 1 (1 - s.actImg p 1)).base + fld m.body 0 4) (m.body.drop 8).length = m.body.drop 8 ∧ t.regs = s.regs) ∧
    (Asks s p m 0x40 → chunkOk m.body = true → fld m.body 4 1 = 1 → fld m.body 5 1 = 1 → ∃ t, exec (.imageLoad p) s = .next t ∧
      (t.mb p).busy = true ∧ (t.imgSlot p 1 (1 - s.actImg p 1)).verify = true) ∧
    (Asks s p m 0x41 → 5 ≤ m.body.length → fld m.body 0 1 = 0 → exec (.imageActivate p) s =
      .next ((s.imageAct p (fld m.body 1 1) (fld m.body 2 2) (bit (fld m.body 4 1) 0)).2.answer p
        (s.imageAct p (fld m.body 1 1) (fld m.body 2 2) (bit (fld m.body 4 1) 0)).1 [])) ∧
    ((s.imageAct p 0 0 false).1 = (if ((s.part p).slot (1 - s.actImg p 1)).st = .verified then Code.accepted else Code.refusedState)) ∧
    (Asks s p m 0x48 → ∃ a b, exec (.evtSummary p) s = .next (s.answer p .done (octets 4 a ++ octets 4 b ++ octets 4 (s.hostEvents p)))) ∧
    (Asks s p m 0x49 → 4 ≤ m.body.length → ∃ t : State, exec (.evtAck p) s = .next (t.answer p .done (octets 4 (t.get (PEC_HPEND_HPEND.at p)))) ∧
      (∀ k < 32, (t.get (PEC_HPEND_HPEND.at p)).testBit k = ((s.get (PEC_HPEND_HPEND.at p)).testBit k && !(fld m.body 0 4).testBit k)) ∧
      OnlyRegs [PEC_HPEND_HPEND.at p] s t) ∧
    (Asks s p m 0x62 → p = 0 → 8 ≤ m.body.length → fld m.body 1 3 ≠ 0 → exec (.modeRequest p) s = .next (s.answer p .refusedState [])) ∧
    (Asks s p m 0x62 → p = 0 → 8 ≤ m.body.length → fld m.body 1 3 = 0 → exec (.modeRequest p) s =
      .next ((s.modeRequest (fld m.body 0 1) (fld m.body 4 4) false true).2.answer p
        (s.modeRequest (fld m.body 0 1) (fld m.body 4 4) false true).1 [])) ∧
    (Asks s p m 0x63 → p = 0 → 64 ≤ m.body.length → s.creation = none → ∃ t, exec (.partitionCreate p) s = .next t ∧ (t.mb p).busy = true ∧
      t.creation = some { desc := descOf (m.body.take 64), code := s.createCode (m.body.take 64), byReg := false } ∧ SameMem s t) ∧
    (Asks s p m 0x64 → p = 0 → 1 ≤ m.body.length → s.creation = none → ∃ t, exec (.partitionPurge p) s = .next t ∧ (t.mb p).busy = true ∧
      ∃ c, t.creation = some c ∧ c.purge = some (fld m.body 0 1) ∧
        c.code = (if fld m.body 0 1 = 0 ∨ s.pexists (fld m.body 0 1) = false then Code.refusedState else Code.done)) ∧
    (Asks s p m 0x65 → p = 0 → m.body.length = 4 → s.air.load = none → s.svHalted = false → ∃ t, exec (.regulatoryLoad p) s = .next t ∧
      (t.mb p).busy = true ∧ t.get AIR_REGSTAT_BUSY = 1 ∧ t.air.load.isSome = true ∧ t.air.prof = s.air.prof ∧ SameMem s t) ∧
    (∀ typ, 0x80 ≤ typ → Asks s p m typ → ∃ t, exec (.tenantRequest p) s = .next t ∧ m ∈ (t.mb p).tq ∧ SameMem s t ∧
      ((s.part p).dual = none → s.pexists p = true → (t.get (PEC_PEND_PEND.at p)).testBit Ev.mboxIn.bit = true)) ∧
    ((s.mb p).inq = [] → ∀ i ∈ [Instr.keyLoad p, .keyRotate p, .crcOp p, .cipherOp p, .imageLoad p, .imageActivate p, .evtSummary p, .evtAck p,
      .modeRequest p, .partitionCreate p, .partitionPurge p, .regulatoryLoad p, .tenantRequest p], exec i s = .next s)

/-- SPI transactions accept, refuse and discard requests by R416, send the in-flight message and retire it by its acknowledgement (R411, R412, R413, R416, R419, R420, R423, R433, R434, R435, R436, R437). -/
def Obligations.SpiTransactionsCarryMessages : Prop :=
  ∀ (s : State) (p : Fin 32) (m : Msg) (o : List Byte) (n : Nat) (a : Fin 32) (c : Byte) (mid : Bool),
    (s.portUp 0 = false → ∀ i ∈ [Instr.spiStatus, .spiWrite o mid, .spiRead n, .spiAckRead a n, .spiBusReset, .spiReservedCommand c],
      exec i s = .next s) ∧
    (s.portUp 0 = true → ∃ t, exec .spiStatus s = .next t ∧ t.port 0 =
      { s.port 0 with err := false, rst := false, out := [BitVec.ofNat 8 (s.portStatus 0)] } ∧ { t with ports := s.ports } = s) ∧
    (s.portUp 0 = true → s.pexists p = true → s.portOf p = 0 → Takes s p m → ∃ t, exec (.spiWrite (m.octets p) mid) s = .next t ∧
      Accepted s p m t ∧ (t.port 0).err = mid ∧
      (t.port 0).out = BitVec.ofNat 8 (s.portStatus 0) :: List.replicate (12 + m.body.length) 0) ∧
    (s.portUp 0 = true → s.pexists p = true → s.portOf p = 0 → m.Sound → m.typ ≠ 8 → m.alive ≠ s.get (HIF_PALIVE_INLAST.at p) →
      m.alive ≠ (s.get (HIF_PALIVE_INLAST.at p) + 1) % 256 → ∃ t, exec (.spiWrite (m.octets p) false) s = .next t ∧
        Pends t p .aliveMismatch ∧ t.get (HIF_PALIVE_INLAST.at p) = s.get (HIF_PALIVE_INLAST.at p) ∧
        t.get (HIF_PSEQ_SEQERR.at p) = min (s.get (HIF_PSEQ_SEQERR.at p) + 1) (2 ^ HIF_PSEQ_SEQERR.w - 1) ∧
        (t.mb p).inq = (s.mb p).inq ∧ SameMem s t) ∧
    (∀ st, s.portUp 0 = true → s.pexists p = true → s.portOf p = 0 → m.Sound → m.typ ≠ 8 → m.alive = s.get (HIF_PALIVE_INLAST.at p) →
      (s.mb p).stored = some st → st.retired = false → ∃ t, exec (.spiWrite (m.octets p) false) s = .next t ∧
        t.get (HIF_PSEQ_REPEATS.at p) = min (s.get (HIF_PSEQ_REPEATS.at p) + 1) (2 ^ HIF_PSEQ_REPEATS.w - 1) ∧
        OnlyRegs [HIF_PSEQ_REPEATS.at p] s { t with ports := s.ports }) ∧
    (s.portUp 0 = true → o ≠ [] → o.head? ≠ some 0xE7 → ∃ t, exec (.spiWrite o mid) s = .next t ∧
      t.get HIF_ERRCNT_HDRERR = min (s.get HIF_ERRCNT_HDRERR + 1) (2 ^ HIF_ERRCNT_HDRERR.w - 1) ∧ t.get HIF_ERRSTAT_KIND = 3 ∧
      t.get HIF_ERRSTAT_PORT = 0 ∧ (∀ q, (t.mb q).inq = (s.mb q).inq) ∧ SameMem s t) ∧
    (s.portUp 0 = true → m.Sound → 4 ≤ n → n < 12 + m.body.length → ∃ t, exec (.spiWrite ((m.octets p).take n) mid) s = .next t ∧
      t.get HIF_ERRCNT_PARTIAL = min (s.get HIF_ERRCNT_PARTIAL + 1) (2 ^ HIF_ERRCNT_PARTIAL.w - 1) ∧ t.get HIF_ERRSTAT_KIND = 1 ∧
      t.get HIF_ERRSTAT_PNUM = p ∧ (t.port 0).err = true ∧ (∀ q, (t.mb q).inq = (s.mb q).inq) ∧ SameMem s t) ∧
    (s.portUp 0 = true → m.Sound → o.length = 4 → ofOctets o ≠ crc32c ((m.octets p).take (8 + m.body.length)) →
      ∃ t, exec (.spiWrite ((m.octets p).take (8 + m.body.length) ++ o) false) s = .next t ∧
        t.get HIF_ERRCNT_CRCERR = min (s.get HIF_ERRCNT_CRCERR + 1) (2 ^ HIF_ERRCNT_CRCERR.w - 1) ∧ t.get HIF_ERRSTAT_KIND = 2 ∧
        t.get HIF_ERRSTAT_PNUM = p ∧ (∀ q, (t.mb q).inq = (s.mb q).inq) ∧ SameMem s t) ∧
    (s.portUp 0 = true → m.Sound → s.pexists p = false ∨ s.portOf p ≠ 0 → ∃ t, exec (.spiWrite (m.octets p) false) s = .next t ∧
      t.get HIF_ERRCNT_NOPART = min (s.get HIF_ERRCNT_NOPART + 1) (2 ^ HIF_ERRCNT_NOPART.w - 1) ∧ t.get HIF_ERRSTAT_KIND = 4 ∧
      (∀ q, (t.mb q).inq = (s.mb q).inq) ∧ SameMem s t) ∧
    (∀ q r rest, s.portUp 0 = true → (s.port 0).cur = some q → (s.mb q).outq = r :: rest → ∃ t, exec (.spiRead n) s = .next t ∧
      (t.port 0).out = BitVec.ofNat 8 (s.portStatus 0) :: (r.octets q ++ List.replicate (n - (r.octets q).length) 0).take n ∧
      (t.port 0).cur = some q ∧ ((t.port 0).sent = true ↔ (s.port 0).sent = true ∨ (r.octets q).length ≤ n) ∧
      { t with ports := s.ports } = s) ∧
    (∀ q r rest, s.portUp 0 = true → (s.port 0).cur = some q → s.portOf q = 0 → (s.mb q).outq = r :: rest → (s.mb q).wait = [] →
      (s.port 0).sent = true → r.alive % 32 = a → r.alive < 256 → ∃ t, exec (.spiAckRead a 0) s = .next t ∧ (t.mb q).outq = rest ∧
        (t.mb q).inq = (s.mb q).inq ∧ t.get (HIF_PALIVE_OUTRET.at q) = r.alive ∧ (t.port 0).cur = none ∧ (t.port 0).sent = false ∧ SameMem s t) ∧
    (s.portUp 0 = true → (s.port 0).sent = false → ∃ t, exec (.spiAckRead a 0) s = .next t ∧ (t.port 0).err = true ∧
      t.get HIF_XCNT_ACKERR = min (s.get HIF_XCNT_ACKERR + 1) (2 ^ HIF_XCNT_ACKERR.w - 1) ∧ t.get HIF_ERRSTAT_KIND = 6 ∧
      OnlyRegs [HIF_XCNT_ACKERR, HIF_ERRSTAT_PNUM, HIF_ERRSTAT_PORT, HIF_ERRSTAT_KIND] s { t with ports := s.ports }) ∧
    (∀ t, s.portUp 0 = true → n ≠ 0 → exec (.spiAckRead a 0) s = .next t → exec (.spiAckRead a n) s = .next (t.spiSend n)) ∧
    (s.portUp 0 = true → ∃ t, exec .spiBusReset s = .next t ∧ (t.port 0).cur = none ∧ (t.port 0).sent = false ∧ (t.port 0).err = false ∧
      (t.port 0).rst = true ∧ t.get HIF_XCNT_BUSRST = min (s.get HIF_XCNT_BUSRST + 1) (2 ^ HIF_XCNT_BUSRST.w - 1) ∧
      OnlyRegs [HIF_XCNT_BUSRST] s { t with ports := s.ports, parts := s.parts }) ∧
    (s.portUp 0 = true → ∃ t, exec (.spiReservedCommand c) s = .next t ∧ (t.port 0).err = true ∧
      t.get HIF_ERRSTAT_KIND = (if c = 0xFF then 3 else 5) ∧
      t.get HIF_ERRCNT_HDRERR = min (s.get HIF_ERRCNT_HDRERR + 1) (2 ^ HIF_ERRCNT_HDRERR.w - 1) ∧
      OnlyRegs [HIF_ERRCNT_HDRERR, HIF_ERRSTAT_PNUM, HIF_ERRSTAT_PORT, HIF_ERRSTAT_KIND] s { t with ports := s.ports }) ∧
    (∃ t, exec .hifClearCounters s = .next t ∧ (∀ F ∈ [HIF_ERRCNT_PARTIAL, HIF_ERRCNT_CRCERR, HIF_ERRCNT_HDRERR, HIF_ERRCNT_NOPART,
        HIF_XCNT_BUSRST, HIF_XCNT_ACKERR, HIF_XCNT_EXCESS, UART_ERRCNT_BREAK, UART_ERRCNT_OVERRUN, UART_ERRCNT_PARITY, UART_ERRCNT_FRAME,
        HIF_PSEQ_REPEATS.at p, HIF_PSEQ_SEQERR.at p], t.get F = 0) ∧ { t with regs := s.regs } = s)

/-- UART frames act as the SPI port's commands do, transparent mode moves characters through its FIFOs, and dividers below OS are refused (R440, R443, R444, R445, R446, R447, R448, R449, R450, R451). -/
def Obligations.UartFramesAndCharactersAct : Prop :=
  ∀ (s : State) (p : Fin 32) (m : Msg) (o : List Byte) (fe pe d : Nat) (a : Fin 32) (w : Word),
    (s.uartHears = false ∨ s.uart.mode = true →
      ∀ i ∈ [Instr.uartMessageFrame o fe pe, .uartStatus, .uartResend, .uartAck a, .uartInvalidFrame fe pe], exec i s = .next s) ∧
    (s.uartHears = true → s.uart.mode = false → s.pexists p = true → s.portOf p = 1 → Takes s p m →
      ∃ t, exec (.uartMessageFrame (m.octets p) 0 0) s = .next t ∧ Accepted s p m t ∧ t.get UART_STAT_INFRAME = 0 ∧ t.get UART_TSTAT_IDLE = 1) ∧
    (s.uartHears = true → s.uart.mode = false → m.Sound → 0 < fe + pe → ∃ t, exec (.uartMessageFrame (m.octets p) fe pe) s = .next t ∧
      t.get HIF_ERRCNT_CRCERR = min (s.get HIF_ERRCNT_CRCERR + 1) (2 ^ HIF_ERRCNT_CRCERR.w - 1) ∧
      t.get UART_ERRCNT_FRAME = min (s.get UART_ERRCNT_FRAME + fe) (2 ^ UART_ERRCNT_FRAME.w - 1) ∧
      t.get UART_ERRCNT_PARITY = min (s.get UART_ERRCNT_PARITY + pe) (2 ^ UART_ERRCNT_PARITY.w - 1) ∧
      (∀ q, (t.mb q).inq = (s.mb q).inq) ∧ SameMem s t) ∧
    (s.uartHears = true → s.uart.mode = false → s.uart.send = none → s.flag UART_CTL_HDX = false → ∃ t, exec .uartStatus s = .next t ∧
      t.uart.send = some .status ∧ (t.port 1).out = [BitVec.ofNat 8 (s.portStatus 1)] ∧ (t.port 1).err = false ∧ (t.port 1).rst = false ∧
      t.get UART_STAT_TXBUSY = 1 ∧ t.mbox = s.mbox ∧ SameMem s t) ∧
    (∀ q r rest, s.uartHears = true → s.uart.mode = false → s.uart.send = none → s.uart.statDue = false → s.flag UART_CTL_HDX = false →
      (s.port 1).cur = some q → (s.mb q).outq = r :: rest → ∃ t, exec .uartResend s = .next t ∧ t.uart.send = some .msg ∧
        (t.port 1).out = r.octets q ∧ t.get UART_STAT_TXBUSY = 1 ∧ t.mbox = s.mbox ∧ SameMem s t) ∧
    (∀ q r rest, s.uartHears = true → s.uart.mode = false → (s.port 1).cur = some q → s.portOf q = 1 → (s.mb q).outq = r :: rest →
      (s.mb q).wait = [] → (s.port 1).sent = true → r.alive % 32 = a → r.alive < 256 → ∃ t, exec (.uartAck a) s = .next t ∧
        (t.mb q).outq = rest ∧ (t.mb q).inq = (s.mb q).inq ∧ t.get (HIF_PALIVE_OUTRET.at q) = r.alive ∧ SameMem s t) ∧
    (s.uartHears = true → s.uart.mode = false → ∃ t, exec (.uartInvalidFrame fe pe) s = .next t ∧
      t.get HIF_ERRCNT_HDRERR = min (s.get HIF_ERRCNT_HDRERR + 1) (2 ^ HIF_ERRCNT_HDRERR.w - 1) ∧ t.get HIF_ERRSTAT_KIND = 5 ∧
      t.get HIF_ERRSTAT_PORT = 1 ∧ t.mbox = s.mbox ∧ SameMem s t) ∧
    (s.uartHears = true → s.uart.mode = false → ∃ t, exec .uartBreak s = .next t ∧ (t.port 1).rst = true ∧ (t.port 1).err = false ∧
      t.get UART_ERRCNT_BREAK = min (s.get UART_ERRCNT_BREAK + 1) (2 ^ UART_ERRCNT_BREAK.w - 1) ∧ t.get UART_STAT_INFRAME = 0 ∧
      t.get HIF_XCNT_BUSRST = min (s.get HIF_XCNT_BUSRST + 1) (2 ^ HIF_XCNT_BUSRST.w - 1) ∧ t.mbox = s.mbox ∧ SameMem s t) ∧
    (s.uartHears = true → s.uart.mode = true → ∃ t, exec .uartBreak s = .next t ∧ t.get UART_TSTAT_BRK = 1 ∧
      t.get UART_ERRCNT_BREAK = min (s.get UART_ERRCNT_BREAK + 1) (2 ^ UART_ERRCNT_BREAK.w - 1) ∧
      OnlyRegs [UART_ERRCNT_BREAK, UART_TSTAT_BRK] s { t with uart := s.uart }) ∧
    (s.uartHears = true → s.uart.mode = true → s.pexists (s.get UART_CTL_TPART) = true → ∃ t, exec .uartLineIdle s = .next t ∧
      Pends t (s.get UART_CTL_TPART) .uartIdle ∧ t.get UART_STAT_INFRAME = 0 ∧ t.get UART_TSTAT_IDLE = 1 ∧ t.mbox = s.mbox ∧ SameMem s t) ∧
    (s.uartHears = false → ∀ i ∈ [Instr.uartBreak, .uartLineIdle, .uartCharacterReceived d true false], exec i s = .next s) ∧
    (∀ q r rest, s.portUp 1 = true → s.uart.mode = false → s.uart.send = none → s.uart.statDue = false → s.flag UART_CTL_HDX = false →
      s.get UART_MSGCFG_ACKTO ≠ 0 → s.uart.ackFrom + 1000 * s.get UART_MSGCFG_ACKTO ≤ s.tick → (s.port 1).sent = true →
      (s.port 1).cur = some q → (s.mb q).outq = r :: rest → ∃ t, exec .uartAckTimeout s = .next t ∧ t.uart.send = some .msg ∧
        (t.port 1).out = r.octets q ∧ t.mbox = s.mbox ∧ SameMem s t) ∧
    (s.get UART_MSGCFG_ACKTO = 0 → exec .uartAckTimeout s = .next s) ∧
    (∀ q, s.uart.send = some .msg → s.uart.statDue = false → s.uart.again = false → s.uart.mode = false → (s.port 1).cur = some q →
      ∃ t, exec .uartFrameSent s = .next t ∧ (t.port 1).sent = true ∧ t.uart.send = none ∧ t.uart.ackFrom = s.tick ∧
        t.get UART_STAT_TXBUSY = 0 ∧ OnlyRegs [UART_STAT_TXBUSY] s { t with uart := s.uart, ports := s.ports }) ∧
    (∀ f g, s.uartHears = true → s.uart.mode = true → s.uart.rxq.length < 32 → ∃ t, exec (.uartCharacterReceived d f g) s = .next t ∧
      t.uart.rxq = s.uart.rxq ++ [{ data := d % 2 ^ (5 + s.get UART_FMT_DBITS), fe := f, pe := g }] ∧ t.get UART_TSTAT_IDLE = 0 ∧
      (f = true → t.get UART_TSTAT_FE = 1) ∧ (g = true → t.get UART_TSTAT_PE = 1) ∧ { t with uart := s.uart, regs := s.regs } = s) ∧
    (∀ f g, s.uartHears = true → s.uart.mode = true → 32 ≤ s.uart.rxq.length → ∃ t, exec (.uartCharacterReceived d f g) s = .next t ∧
      t.uart.rxq = s.uart.rxq ∧ t.get UART_TSTAT_OE = 1 ∧
      t.get UART_ERRCNT_OVERRUN = min (s.get UART_ERRCNT_OVERRUN + 1) (2 ^ UART_ERRCNT_OVERRUN.w - 1) ∧
      { t with uart := s.uart, regs := s.regs } = s) ∧
    (s.get UART_CTL_TPART = p → s.uart.mode = true → s.uart.txq.length < 32 → ∃ t, exec (.uartTransmitDataWrite p w) s = .next t ∧
      t.uart.txq = s.uart.txq ++ [w.toNat % 512] ∧ t.mbox = s.mbox ∧ SameMem s t) ∧
    (s.get UART_CTL_TPART = p → s.uart.mode = true → 32 ≤ s.uart.txq.length → ∃ t, exec (.uartTransmitDataWrite p w) s = .next t ∧
      t.uart.txq = s.uart.txq ∧ t.get UART_TSTAT_TXOV = 1 ∧ OnlyRegs [UART_TSTAT_TXOV] s { t with uart := s.uart }) ∧
    (∀ imgB, s.get UART_CTL_TPART ≠ p → exec (.uartTransmitDataWrite p w) s = .next s ∧ exec (.uartReceiveDataRead p imgB) s = .next s) ∧
    (∀ imgB, s.get UART_CTL_TPART = p → ∃ t, exec (.uartReceiveDataRead p imgB) s = .next t ∧ t.uart.rxq = s.uart.rxq.drop 1 ∧
      OnlyRegs [UART_TSTAT_FE, UART_TSTAT_PE, UART_TSTAT_OE, UART_TSTAT_BRK, UART_TSTAT_TXOV] s { t with uart := s.uart }) ∧
    (∃ t, exec (.uartModeWrite w) s = .next t ∧ t.get UART_CTL_TPART = bits w.toNat 8 5 ∧ t.get UART_CTL_EN = bits w.toNat 0 1 ∧
      t.get UART_CTL_MODE = (if bit w.toNat 1 = true ∧ ¬(s.pexists (bits w.toNat 8 5) = true ∧ (s.part (bits w.toNat 8 5)).desc.transp = true)
        then s.get UART_CTL_MODE else bits w.toNat 1 1) ∧ t.mbox = s.mbox ∧ SameMem s t) ∧
    (s.flag UART_CTL_MODE ≠ s.uart.mode → s.uart.txq = [] → s.flag UART_STAT_INFRAME = false → ∃ t, exec .uartModeChange s = .next t ∧
      t.uart.mode = s.flag UART_CTL_MODE ∧ t.uart.rxq = [] ∧ t.uart.txq = [] ∧ t.mbox = s.mbox ∧ SameMem s t) ∧
    (s.flag UART_CTL_MODE = s.uart.mode ∨ s.uart.txq ≠ [] ∨ s.flag UART_STAT_INFRAME = true → exec .uartModeChange s = .next s) ∧
    (∀ sh, bits w.toNat 0 16 < s.uartOs → ∃ t, exec (.uartDividerWrite sh w) s = .next t ∧ t.get UART_STAT_DIVREJ = 1 ∧
      OnlyRegs [UART_STAT_DIVREJ] s t) ∧
    (s.uartOs ≤ bits w.toNat 0 16 → (∃ t, exec (.uartDividerWrite false w) s = .next t ∧ t.get UART_DIV_INT = bits w.toNat 0 16 ∧
        t.get UART_DIV_FRAC = bits w.toNat 16 4 ∧ t.get UART_STAT_DIVREJ = 0 ∧ OnlyRegs [UART_DIV_INT, UART_DIV_FRAC, UART_STAT_DIVREJ] s t) ∧
      ∃ t, exec (.uartDividerWrite true w) s = .next t ∧ t.get UART_SHDIV_INT = bits w.toNat 0 16 ∧
        t.get UART_SHDIV_FRAC = bits w.toNat 16 4 ∧ t.get UART_STAT_DIVREJ = 0 ∧ OnlyRegs [UART_SHDIV_INT, UART_SHDIV_FRAC, UART_STAT_DIVREJ] s t) ∧
    (s.get UART_DIV_INT < (if bit w.toNat 0 = true then 8 else 16) ∨ s.get UART_SHDIV_INT < (if bit w.toNat 0 = true then 8 else 16) →
      ∃ t, exec (.uartFormatWrite w) s = .next t ∧ t.get UART_STAT_DIVREJ = 1 ∧ OnlyRegs [UART_STAT_DIVREJ] s t) ∧
    (16 ≤ s.get UART_DIV_INT → 16 ≤ s.get UART_SHDIV_INT → ∃ t, exec (.uartFormatWrite w) s = .next t ∧ t.get UART_STAT_DIVREJ = 0 ∧
      t.get UART_FMT_OS = bits w.toNat 0 1 ∧ t.get UART_FMT_DBITS = s.asked w.toNat UART_FMT_DBITS ∧
      t.get UART_FMT_PAR = s.asked w.toNat UART_FMT_PAR ∧ t.get UART_FMT_STOP = s.asked w.toNat UART_FMT_STOP ∧
      OnlyRegs [UART_FMT_OS, UART_FMT_DBITS, UART_FMT_PAR, UART_FMT_STOP, UART_STAT_DIVREJ] s t) ∧
    (s.uart.send = none → ∃ t, exec .uartDeTailEnd s = .next t ∧ (t.uart.send = none → t.get UART_STAT_DEACT = 0) ∧ t.mbox = s.mbox ∧
      SameMem s t) ∧
    (s.uart.send ≠ none → exec .uartDeTailEnd s = .next s) ∧
    (s.uart.send = some .char → ∃ t, exec .uartCharacterSent s = .next t ∧ t.uart.txq = s.uart.txq.drop 1 ∧ t.mbox = s.mbox ∧ SameMem s t)

/-- Mode requests are judged, sleep modes entered and left, with IDLE, CALIBRATE and the comparator as the rules say (R454, R458, R460, R461, R462, R463, R464, R466, R467, R470, R471, R544). -/
def Obligations.ModesAreRequestedEnteredAndLeft : Prop :=
  ∀ (s : State) (w : Word) (src : Fin 8) (pin out pll : Bool) (va vb vt : List (List Nat)),
    (s.pwr.lockdown = true ∨ ¬(bits w.toNat 0 4 = 5 ∨ 8 ≤ bits w.toNat 0 4 ∧ bits w.toNat 0 4 ≤ 11) →
      ∃ t, exec (.modeRequestWrite w) s = .next t ∧ t.get PWR_REQSTAT_CODE = Code.refusedState.num ∧
        t.get PWR_REQSTAT_MODE = bits w.toNat 0 4 ∧ OnlyRegs [PWR_REQSTAT_CODE, PWR_REQSTAT_MODE] s t) ∧
    (∀ m, Sleep.ofNum (bits w.toNat 0 4) = some m → s.pwr.lockdown = false → s.pwr.entry = none → s.pwr.boot = false → s.anyHalted = false →
      (s.mode = 1 ∨ s.mode = 2 ∨ s.mode = 4 ∨ s.mode = 6) → (m = .col → s.colReady = true) →
      (m.cuts = true → s.get PWR_REQPAR_PARAM = 0) → ∃ t, exec (.modeRequestWrite w) s = .next t ∧
        (∃ e, t.pwr.entry = some e ∧ e.target = m ∧ e.steps = false ∧ e.held = [] ∧ e.began = s.tick) ∧
        t.pwr.wakeAt = (if s.get PWR_REQPAR_PARAM = 0 then none else some (s.tick + s.get PWR_REQPAR_PARAM * 1000000)) ∧
        t.get PWR_REQSTAT_CODE = Code.accepted.num ∧ (∀ p ∈ s.live, Pends t p .mode) ∧ SameMem s t) ∧
    (bits w.toNat 0 4 = 5 → s.pwr.lockdown = false → s.pwr.entry = none → s.pwr.boot = false → s.anyHalted = false →
      (s.mode = 1 ∨ s.mode = 2) → s.get PWR_REQPAR_PARAM = 0 → ∃ t, exec (.modeRequestWrite w) s = .next t ∧ t.pwr.calib = true ∧
        t.get PWR_REQSTAT_CODE = Code.accepted.num) ∧
    (s.pwr.entry = none → exec .modeEntryProceed s = .next s ∧ exec (.modeEntryComplete pin) s = .next s) ∧
    (∀ e, s.pwr.entry = some e → s.entryGo e = false → exec .modeEntryProceed s = .next s) ∧
    (∀ e, s.pwr.entry = some e → s.entryGo e = true → ∃ t, exec .modeEntryProceed s = .next t ∧
      t.pwr.entry = some { e with steps := true } ∧ t.get RET_DOMSTAT_ON = 1 ∧ t.get RET_DOMSTAT_BUSY = 0 ∧
      t.get RET_VCORE_TARGET = e.target.mv ∧ t.get RET_IMG_VALID = (if e.target = .off then 0 else 1) ∧ t.ret.pads = List.range 8 ∧
      t.ret.padSv = true ∧ t.uart.send = none ∧ t.test = none) ∧
    (∀ e, s.pwr.entry = some e → e.steps = false → exec (.modeEntryComplete pin) s = .next s) ∧
    (∀ e, s.pwr.entry = some e → e.steps = true → e.target.cuts = false → e.held = [] → s.wakeLevels e.target false = [] →
      ∃ t, exec (.modeEntryComplete false) s = .next t ∧ t.pwr = { s.pwr with sleep := some e.target, entry := none, idle := false, waking := false } ∧
        t.clk.xo = .sustain ∧ t.get CLK_STAT_XORUN = 0 ∧ t.get PWR_WAKESRC_SRC = 0 ∧ SameMem s t) ∧
    (∀ e, s.pwr.entry = some e → e.steps = true → e.target.cuts = false → e.held = [] → s.wakeLevels e.target false = [] →
      ∃ t, exec (.modeEntryComplete true) s = .next t ∧ t.pwr.sleep = some e.target ∧ t.pwr.waking = true ∧ t.get PWR_WAKESRC_SRC = 2 ∧
        t.get PWR_WAKESRC_FIRST = 1 ∧ t.get PWR_WAKESRC_LVLENT = 1 ∧ t.get RET_VCORE_TARGET = 950 ∧ SameMem s t) ∧
    (∀ e, s.pwr.entry = some e → e.steps = true → e.target.cuts = true → e.held = [] → s.wakeLevels e.target false = [] →
      ∃ t, exec (.modeEntryComplete false) s = .next t ∧ t.pwr.sleep = some e.target ∧ t.pwr.entry = none ∧ t.clk.xo = .stopped ∧
        t.progs = [] ∧ t.txs = [] ∧ t.rx = [] ∧
        (∀ x, 0x100000 ≤ x → x < 0x38000000 ∨ 0x38010000 ≤ x → t.byte x = 0) ∧ (∀ x < 0x100000, t.byte x = s.byte x)) ∧
    (∀ m, s.pwr.sleep = some m → m.cuts = false → s.pwr.waking = false → s.pwr.entry = none → ∃ t, exec (.wakeEvent 1) s = .next t ∧
      (t.get PWR_WAKESRC_SRC).testBit 1 = true ∧ t.get PWR_WAKESRC_FIRST = 1 ∧ t.get PWR_WAKESRC_FROM = m.num ∧
      t.pwr = { s.pwr with waking := true } ∧ t.get RET_VCORE_TARGET = 950 ∧ SameMem s t) ∧
    (∀ e, s.pwr.entry = some e → ∃ t, exec (.wakeEvent 1) s = .next t ∧ (∃ f, t.pwr.entry = some f ∧ 1 ∈ f.held ∧ f.target = e.target) ∧
      { t with pwr := s.pwr } = s) ∧
    (src = 0 ∨ src = 3 ∨ src = 4 → exec (.wakeEvent src) s = .next s) ∧
    (∀ m, s.pwr.sleep = some m → m.cuts = false → s.pwr.waking = false → s.pwr.entry = none → s.flag UART_CTL_WAKEEN = true →
      s.pwr.vddio = true → ∃ t, exec (.wakeEvent 5) s = .next t ∧ t.pwr.waking = true ∧ t.get PWR_WAKESRC_FIRST = 5 ∧
        t.get UART_STAT_WAKELOST = 1 ∧ SameMem s t) ∧
    (s.pwr.sleep = none → exec (.wakeComplete pll pin) s = .next s) ∧
    (s.pwr.waking = false → exec (.wakeComplete pll pin) s = .next s) ∧
    (s.pwr.sleep = some .sleep → s.pwr.waking = true → s.flag COL_STAT_TXON = false → s.pwr.lockdown = false → s.pwr.tampers = [] →
      s.pwr.boot = false → ∃ t, exec (.wakeComplete true true) s = .next t ∧ t.pwr.sleep = none ∧ t.pwr.waking = false ∧ t.pwr.wakeAt = none ∧
        t.get CLK_STAT_XORUN = 1 ∧ t.get CLK_STAT_PLLLOCK = 1 ∧ t.get RET_IMG_VALID = 0 ∧ t.ret.padSv = false) ∧
    (∀ m, s.pwr.sleep = some m → m.cuts = false → s.pwr.waking = true → s.flag COL_STAT_TXON = false →
      ∃ t, exec (.wakeComplete pll false) s = .next t ∧ t.pwr.sleep = none ∧ t.pwr.boot = true ∧ t.pwr.bootFrom = some .off ∧
        t.get RET_IMG_VALID = 0 ∧ t.get TBS_STAT_DISCONT = 1 ∧ t.progs = []) ∧
    (s.idleOk = true → ∃ t, exec .idleEntry s = .next t ∧ t.pwr = { s.pwr with idle := true } ∧ t.get RET_VCORE_TARGET = 850 ∧
      { t with regs := s.regs, pwr := s.pwr, ret := s.ret } = s) ∧
    (s.idleOk = false → exec .idleEntry s = .next s) ∧
    (s.pwr.idle = true → ∃ t, exec .idleExit s = .next t ∧ t.pwr = { s.pwr with idle := false } ∧ t.get RET_VCORE_TARGET = 950 ∧
      { t with regs := s.regs, pwr := s.pwr, ret := s.ret } = s) ∧
    (s.pwr.idle = false → exec .idleExit s = .next s) ∧
    (s.get PWR_CMPCFG_MODE ≠ 0 → s.pwr.sleep ≠ some .off → s.flag PWR_CMPSTAT_OUT ≠ out → ∃ t, exec (.comparatorChange out) s = .next t ∧
      t.flag PWR_CMPSTAT_OUT = out ∧ t.get PWR_CMPSTAT_CROSS = 1 ∧ t.pwr.lowFrom = (if out = true then none else some s.tick) ∧ SameMem s t) ∧
    (s.get PWR_CMPCFG_MODE = 0 ∨ s.flag PWR_CMPSTAT_OUT = out → exec (.comparatorChange out) s = .next s) ∧
    (∀ n, s.pwr.lowFrom = some n → s.flag PWR_CMPCFG_AUTOCOL = true → s.get PWR_CMPCFG_MODE ≠ 0 → s.flag PWR_CMPSTAT_OUT = false →
      s.pwr.sleep = none → s.pwr.boot = false → s.pwr.lockdown = false → max n s.pwr.lowAsk + 1000000 * s.get PWR_CMPCFG_AUTODLY ≤ s.tick →
      ∃ t, exec .autoColRequest s = .next t ∧ t.get PWR_REQSTAT_MODE = 9 ∧ t.pwr.lowAsk = s.tick ∧ SameMem s t) ∧
    (s.pwr.lowFrom = none ∨ s.flag PWR_CMPCFG_AUTOCOL = false → exec .autoColRequest s = .next s) ∧
    (s.pwr.calib = false → exec (.calibrateEnd va vb vt) s = .next s) ∧
    (s.pwr.calib = true → ∃ t, exec (.calibrateEnd va vb vt) s = .next t ∧ t.pwr = { s.pwr with calib := false } ∧ t.cal.regions = [] ∧
      t.cal.dirty = true ∧ NvReq.calRecord ∈ t.nvq ∧ (∀ i < 3, t.get (CAL_ITEMn_PEND i) = 0) ∧ SameMem s t)

/-- In COL the receiver sniffs on its grid, stores what passes the checks, wakes by age, and transmits only within the air rules (R472, R473, R474, R475, R476, R478, R479, R480). -/
def Obligations.TheColLinkSniffsStoresAndSends : Prop :=
  ∀ (s : State) (e : Int) (es : List Int) (id : Nat) (stamp : BitVec 62) (rssi snr foff : Int) (lqi : Byte) (phr : BitVec 24) (o : List Byte),
    (s.inCol = false → ∀ i ∈ [Instr.colSniff, .colSniffWindowEnd e, .colSyncFound, .colSearchEnd, .colFrame stamp rssi snr foff lqi phr o,
      .colAgeWake, .colBeacon, .colTransmitRelease id es, .ceTimer], exec i s = .next s) ∧
    (s.inCol = true → s.tick % (s.get COL_SNIFF_SPER * 1000) = 0 → s.flag COL_STAT_TXON = false → ∃ t, exec .colSniff s = .next t ∧
      t.get COL_STAT_RXON = 1 ∧ OnlyRegs [COL_STAT_RXON] s { t with progs := s.progs }) ∧
    (s.inCol = true → s.flag COL_STAT_RXON = true → s.col.search = none → s.get COL_SNIFF_SWIN * 100 ≤ s.tick % (s.get COL_SNIFF_SPER * 1000) →
      -4 * (s.get COL_RXCFG_ETHR : Int) ≤ e → ∃ t, exec (.colSniffWindowEnd e) s = .next t ∧ t.get COL_STAT_ENERGY = 1 ∧
        t.col.search = some (s.tick + s.get COL_RXCFG_EXT * 1000) ∧
        t.get COL_CNTA_SNIFFHIT = min (s.get COL_CNTA_SNIFFHIT + 1) (2 ^ COL_CNTA_SNIFFHIT.w - 1) ∧
        OnlyRegs [COL_STAT_ENERGY, COL_CNTA_SNIFFHIT] s { t with col := s.col }) ∧
    (s.inCol = true → s.flag COL_STAT_RXON = true → s.col.search = none → s.get COL_SNIFF_SWIN * 100 ≤ s.tick % (s.get COL_SNIFF_SPER * 1000) →
      e < -4 * (s.get COL_RXCFG_ETHR : Int) → ∃ t, exec (.colSniffWindowEnd e) s = .next t ∧ t.get COL_STAT_ENERGY = 0 ∧
        t.get COL_STAT_RXON = 0 ∧ OnlyRegs [COL_STAT_ENERGY, COL_STAT_RXON] s { t with col := s.col }) ∧
    (s.inCol = true → s.flag COL_STAT_RXON = true → ∃ t, exec .colSyncFound s = .next t ∧
      t.col.search = some (s.tick + s.get COL_RXCFG_EXT * 1000) ∧ { t with progs := s.progs, col := s.col } = s) ∧
    (∀ n, s.inCol = true → s.col.search = some n → n ≤ s.tick → ∃ t, exec .colSearchEnd s = .next t ∧ t.get COL_STAT_RXON = 0 ∧
      t.col.search = none ∧ OnlyRegs [COL_STAT_RXON] s { t with col := s.col }) ∧
    (s.inCol = true → s.flag COL_STAT_RXON = true → phrCrc phr.toNat ≠ bits phr.toNat 16 8 →
      ∃ t, exec (.colFrame stamp rssi snr foff lqi phr o) s = .next t ∧ t.get COL_STAT_RXON = 0 ∧ t.col.frames = s.col.frames ∧
        t.get COL_CNTB_REJECT = min (s.get COL_CNTB_REJECT + 1) (2 ^ COL_CNTB_REJECT.w - 1) ∧
        OnlyRegs [COL_STAT_RXON, COL_CNTB_REJECT] s { t with col := s.col }) ∧
    (∀ f rest, s.inCol = true → s.col.frames = f :: rest → s.get COL_WAKECRIT_AGEMAX ≠ 0 →
      f.stamp / 64 + s.get COL_WAKECRIT_AGEMAX * 1000000 ≤ s.tick → s.pwr.waking = false → ∃ t, exec .colAgeWake s = .next t ∧
        t.pwr = { s.pwr with waking := true } ∧ t.get PWR_WAKESRC_FIRST = 3 ∧ t.get PWR_WAKESRC_FROM = 9 ∧ t.col = s.col ∧ SameMem s t) ∧
    (s.inCol = true → s.get COL_TX_BDIV = 0 → ∃ t, exec .colBeacon s = .next t ∧ t.txs = s.txs ∧ SameMem s t ∧
      ∀ g ∈ t.air.gents, ¬(g.p ∈ s.live ∧ (s.get COL_PARTS_PARTS).testBit g.p = true)) ∧
    (s.inCol = true → s.get COL_TX_BDIV ≠ 0 → s.col.due = none → exec .colBeacon s = .next s) ∧
    (∀ b, s.inCol = true → s.get COL_TX_BDIV ≠ 0 → s.col.due = some b → (∀ p ∈ s.live, s.flag (AIR_BCNP_EN.at p) = false) →
      ∃ t, exec .colBeacon s = .next t ∧ t.col.due = none ∧ { t with col := s.col } = s) ∧
    (∀ x, s.inCol = true → s.txFind id = some x → x.stage = .fixed → x.t0 ≤ s.tbs.now + 6400 → s.fixedLbt x = false → s.colGrant x = true →
      ∃ t, exec (.colTransmitRelease id es) s = .next t ∧
        t.txs = s.txs.map (fun u => if u.id = id then { u with stage := .atRsa, until_ := s.tick, decided := true } else u) ∧
        { t with txs := s.txs, progs := s.progs } = s) ∧
    (∀ x, s.inCol = true → s.txFind id = some x → x.stage ≠ .fixed ∨ s.tbs.now + 6400 < x.t0 →
      exec (.colTransmitRelease id es) s = .next s) ∧
    (∀ x, s.inCol = true → s.txFind id = some x → x.stage = .fixed → x.t0 ≤ s.tbs.now + 6400 → s.colGrant x = false →
      exec (.colTransmitRelease id es) s = .next (s.fixedCannot x)) ∧
    (s.inCol = true → s.tick % 2 ^ 32 = s.get COL_CETMR_TICK → s.col.ceAt ≠ some s.tick → ∃ t, exec .ceTimer s = .next t ∧
      t.col.ceAt = some s.tick ∧ { t with progs := s.progs, col := s.col } = s) ∧
    (s.tick % 2 ^ 32 ≠ s.get COL_CETMR_TICK ∨ s.col.ceAt = some s.tick → exec .ceTimer s = .next s)

/-- Domains power up on demand and down when idle, a shed cuts them, VCORE and bias step in order, pins and supplies follow their writes and events (R484, R486, R487, R488, R489, R490, R493, R494, R500, R582, R596, R600). -/
def Obligations.DomainsSuppliesAndPinsFollow : Prop :=
  ∀ (s : State) (n : Fin 16) (p : Fin 32) (g : Fin 8) (w : Word) (us : Nat) (mv : BitVec 16) (b low : Bool),
    (s.domWakes n = false → exec (.domainWakeOnDemand n) s = .next s) ∧
    (s.domWakes n = true → s.domOn n = false → s.domBusy n = false → ∃ t, exec (.domainWakeOnDemand n) s = .next t ∧
      t.domOn n = false ∧ t.domBusy n = true ∧ t.get RET_ODSTAT_LASTDOM = n ∧
      t.get RET_ODSTAT_COUNT = min (s.get RET_ODSTAT_COUNT + 1) (2 ^ 16 - 1) ∧ (∀ k, k ≠ n.val → k < 16 → t.domOn k = s.domOn k) ∧ SameMem s t) ∧
    (s.domWakes n = true → s.domOn n = true → n.val ∈ s.ret.drain → ∃ t, exec (.domainWakeOnDemand n) s = .next t ∧ t.domOn n = true ∧
      t.domBusy n = false ∧ n.val ∉ t.ret.drain ∧ OnlyRegs [RET_DOMSTAT_ON, RET_DOMSTAT_BUSY] s { t with ret := s.ret }) ∧
    (s.domWakes n = true → s.domOn n = true → n.val ∉ s.ret.drain → exec (.domainWakeOnDemand n) s = .next s) ∧
    (s.domOn n = false → s.domBusy n = true → ∃ t, exec (.domainReady n us) s = .next t ∧ t.domOn n = true ∧ t.domBusy n = false ∧
      t.get RET_ODSTAT_MAXSTALL = max (s.get RET_ODSTAT_MAXSTALL) (min us 4095) % 2 ^ 12 ∧
      OnlyRegs [RET_DOMSTAT_ON, RET_DOMSTAT_BUSY, RET_ODSTAT_MAXSTALL] s t) ∧
    (s.domOn n = true ∨ s.domBusy n = false → exec (.domainReady n us) s = .next s) ∧
    (s.domOn n = true → s.domBusy n = false → s.domAuto n = true → s.domReach n = false → s.domWork n = false → s.pwr.sleep = none →
      ∃ t, exec (.domainIdlePowerDown n) s = .next t ∧ t.domOn n = true ∧ t.domBusy n = true ∧ n.val ∈ t.ret.drain ∧
        OnlyRegs [RET_DOMSTAT_ON, RET_DOMSTAT_BUSY] s { t with ret := s.ret }) ∧
    (s.domAuto n = false ∨ s.domReach n = true ∨ s.domWork n = true → exec (.domainIdlePowerDown n) s = .next s) ∧
    (∀ d, n.val ∉ s.ret.drain → exec (.powerDownDrainEnd n d) s = .next s) ∧
    (n.val ∈ s.ret.drain → ∃ t, exec (.powerDownDrainEnd n false) s = .next t ∧ t.domOn n = true ∧ t.domBusy n = false ∧
      t.get RET_PDSTAT_LASTDOM = n ∧ t.get RET_PDSTAT_ABANDON = min (s.get RET_PDSTAT_ABANDON + 1) (2 ^ 16 - 1) ∧ n.val ∉ t.ret.drain ∧
      OnlyRegs [RET_DOMSTAT_ON, RET_DOMSTAT_BUSY, RET_PDSTAT_LASTDOM, RET_PDSTAT_ABANDON] s { t with ret := s.ret }) ∧
    (n.val ∈ s.ret.drain → ∃ t, exec (.powerDownDrainEnd n true) s = .next t ∧ t.domOn n = false ∧ t.domBusy n = false ∧ n.val ∉ t.ret.drain ∧
      (n = 7 → t.key.slots = []) ∧ (2 ≤ n.val → n.val ≤ 4 → (t.synth (n.val - 2)).ph = .off) ∧ SameMem s t) ∧
    (s.ret.shed = true ∨ s.pwr.held = true → ∀ a c, exec (.supplyShed mv a c) s = .next s) ∧
    (s.ret.shed = false → s.pwr.held = false → s.pwr.sleep ≠ some .deep → s.pwr.sleep ≠ some .off →
      ∃ t, exec (.supplyShed mv false false) s = .next t ∧ t.ret.shed = true ∧ t.ret.cut = [2, 3, 4, 5, 6, 7] ∧ t.get CHB_STAT_RUN = 0 ∧
        t.get RET_FPD_TICK = s.tick % 2 ^ 32 ∧ (∀ k, 2 ≤ k → k ≤ 7 → t.domOn k = false ∧ t.domBusy k = false)) ∧
    (s.ret.shed = false → exec .supplyShedRecovery s = .next s) ∧
    (s.ret.shed = true → ∃ t, exec .supplyShedRecovery s = .next t ∧ t.ret.shed = false ∧ t.ret.cut = [] ∧ SameMem s t ∧
      (s.pwr.sleep.isSome = true → t.regs = s.regs) ∧
      (s.pwr.sleep = none → (s.flag (RXx_CTL_EN 0) = true → t.domBusy 2 = true) ∧ (s.flag (RXx_CTL_EN 1) = true → t.domBusy 3 = true))) ∧
    (s.flag RET_VCORE_SLEW = true → s.vcore = s.get RET_VCORE_TARGET → ∃ t, exec .vcoreTargetReached s = .next t ∧
      t.get RET_VCORE_PRESENT = s.get RET_VCORE_TARGET % 2 ^ 11 ∧ t.get RET_VCORE_SLEW = 0 ∧
      (rbbFor (s.get RET_VCORE_TARGET) ≠ 0 → s.get RET_VCORE_TARGET < 2 ^ 11 → t.get RET_BIAS_CHANGING = 1 ∧ t.ret.biasOn = true) ∧
      OnlyRegs [RET_VCORE_PRESENT, RET_VCORE_SLEW, RET_BIAS_CHANGING] s { t with ret := s.ret }) ∧
    (s.flag RET_VCORE_SLEW = false → exec .vcoreTargetReached s = .next s) ∧
    (s.flag RET_BIAS_CHANGING = false → exec .biasChangeDone s = .next s) ∧
    (s.flag RET_BIAS_CHANGING = true → s.get RET_VCORE_TARGET = s.get RET_VCORE_PRESENT → s.ret.biasOn = true ∨ rbbFor (s.get RET_VCORE_TARGET) = 0 →
      ∃ t, exec .biasChangeDone s = .next t ∧ t.get RET_BIAS_CHANGING = 0 ∧ t.get RET_BIAS_ASSIST = s.ret.biasOn.toNat ∧
        t.get RET_BIAS_RBB = (if s.ret.biasOn = true then rbbFor (s.get RET_VCORE_PRESENT) else 0) ∧
        OnlyRegs [RET_BIAS_CHANGING, RET_BIAS_ASSIST, RET_BIAS_RBB] s t) ∧
    (s.flag RET_BIAS_CHANGING = true → s.get RET_VCORE_PRESENT < s.get RET_VCORE_TARGET → s.ret.biasOn = true →
      ∃ t, exec .biasChangeDone s = .next t ∧ t.get RET_BIAS_CHANGING = 1 ∧ t.ret.biasOn = false ∧
        t.get RET_VCORE_SLEW = s.get RET_VCORE_SLEW ∧ t.get RET_VCORE_PRESENT = s.get RET_VCORE_PRESENT) ∧
    (s.flag RET_BIAS_CHANGING = true → s.get RET_VCORE_TARGET ≠ s.get RET_VCORE_PRESENT → s.ret.biasOn = false →
      ∃ t, exec .biasChangeDone s = .next t ∧ t.get RET_BIAS_CHANGING = 0 ∧ t.get RET_VCORE_SLEW = 1 ∧ t.ret.slewAt = s.tick) ∧
    (∃ t, exec (.padRelease p) s = .next t ∧ { t with ret := s.ret } = s ∧
      (∀ k, k ∈ t.ret.pads ↔ k ∈ s.ret.pads ∧ ¬(s.flag (GPC_PINn_OWNED k) = true ∧ s.get (GPC_PINn_OWNER k) = p))) ∧
    (s.gpRefused w.toNat = true → ∃ t, exec (.gpPinWrite g w) s = .next t ∧ t.get GPC_STAT_REJ = 1 ∧ OnlyRegs [GPC_STAT_REJ] s t) ∧
    (s.gpRefused w.toNat = false → ∃ t, exec (.gpPinWrite g w) s = .next t ∧ t.get GPC_STAT_REJ = 0 ∧
      (∀ F ∈ gpcFields g, t.get F = s.asked w.toNat F) ∧ { t with regs := s.regs, ret := s.ret } = s ∧
      (s.get (GPC_PINn_OWNED g) = bits w.toNat 23 1 → s.get (GPC_PINn_OWNER g) = bits w.toNat 16 5 → OnlyRegs (GPC_STAT_REJ :: gpcFields g) s t) ∧
      (s.get (GPC_PINn_OWNED g) ≠ bits w.toNat 23 1 ∨ s.get (GPC_PINn_OWNER g) ≠ bits w.toNat 16 5 →
        (t.get (GPC_PDIR_DIR.at p)).testBit g = false ∧ (t.get (GPC_POUT_OUT.at p)).testBit g = false ∧ g.val ∉ t.ret.pads)) ∧
    (∃ t, exec (.powerPathSwitch b low) s = .next t ∧ t.get TXM_STAT_SUPPLY = (if b = true then 2 else low.toNat) ∧
      OnlyRegs [TXM_STAT_SUPPLY, TXM_LASTREP_PWRCUT] s t) ∧
    (∀ x, s.txAir = some x → 68 < x.power → s.get TXM_STAT_SUPPLY ≠ 2 → ∃ t, exec (.powerPathSwitch true low) s = .next t ∧
      t.get TXM_LASTREP_PWRCUT = 1) ∧
    (s.get TXM_STAT_SUPPLY ≠ 2 → ∃ t, exec (.transmitTierChange low) s = .next t ∧ t.get TXM_STAT_SUPPLY = low.toNat ∧
      OnlyRegs [TXM_STAT_SUPPLY] s t) ∧
    (s.get TXM_STAT_SUPPLY = 2 → exec (.transmitTierChange low) s = .next s) ∧
    (s.paDriven = false → exec .vddpaCurrentLimit s = .next s) ∧
    (∀ x, s.paDriven = true → s.txAir = some x → ∃ t, exec .vddpaCurrentLimit s = .next t ∧ t.get TXM_STAT_PHASE = 4 ∧
      (∀ y ∈ t.txs, y.id = x.id → y.out = some .abortedPower) ∧ OnlyRegs [TXM_STAT_PHASE, SYNx_STAT_DEVCLIP 2] s { t with txs := s.txs }) ∧
    exec .vddioRise s = .next { s with pwr := { s.pwr with vddio := true } } ∧
    exec .vddioFall s = .next { s with pwr := { s.pwr with vddio := false } } ∧
    (s.get TMP_LCSTAT_LC = 1 → ∃ t, exec (.nextGenerationWrite w false) s = .next t ∧ t.get TMP_LCSTAT_AUTHREJ = 1 ∧ t.get SYS_RSTCTL_GENREJ = 1 ∧
      OnlyRegs [TMP_LCSTAT_AUTHREJ, SYS_RSTCTL_GENREJ] s t) ∧
    (s.get TMP_LCSTAT_LC = 0 → w.toNat % 256 ≠ 0 → w.toNat % 256 ≤ s.get SYS_ID_MAXGEN → (∀ m ∈ s.minGens, m ≤ w.toNat % 256) →
      ∃ t, exec (.nextGenerationWrite w b) s = .next t ∧ t.get SYS_RSTCTL_NEXTGEN = w.toNat % 256 ∧ t.get SYS_RSTCTL_GENREJ = 0 ∧
        t.nvq = s.nvq ++ [.gen (w.toNat % 256)] ∧ OnlyRegs [SYS_RSTCTL_NEXTGEN, SYS_RSTCTL_GENREJ] s { t with nvq := s.nvq }) ∧
    (s.get TMP_LCSTAT_LC = 0 → (∃ m ∈ s.minGens, w.toNat % 256 < m) ∨ w.toNat % 256 = 0 → ∃ t, exec (.nextGenerationWrite w b) s = .next t ∧
      t.get SYS_RSTCTL_GENREJ = 1 ∧ OnlyRegs [SYS_RSTCTL_GENREJ] s t)

/-- Temperature samples, calibration runs, their records and the eNVM's writes and reads act as their rules say (R502, R503, R504, R505, R506, R509, R511, R513, R515, R516, R519, R523). -/
def Obligations.CalibrationAndTheNvmKeepTheirRecords : Prop :=
  ∀ (s : State) (raw : BitVec 12) (v : List Nat) (n : Fin 4) (w : Word) (addr : Nat) (ok : Bool),
    (s.pwr.boot = true ∨ s.pwr.lockdown = true → exec (.temperatureSample raw) s = .next s) ∧
    (∀ tj : Int, tj = s.get16 CAL_TSENS_TSOFS + roundQ ((4 * s.get CAL_TSENS_TSSLOPE * raw.toNat : Nat) / 65536) →
      s.pwr.boot = false → s.pwr.lockdown = false → s.pwr.held = false → s.pwr.sleep ≠ some .deep → s.pwr.sleep ≠ some .off →
      s.get TMP_POLICY_TEMP = 0 → ∃ t, exec (.temperatureSample raw) s = .next t ∧ t.get CAL_TEMP_TJ = wrap 16 tj ∧
        (s.pwr.sleep = none → ∀ i < 3, s.flag (CAL_ITEMn_AUTO i) = true →
          4 * s.get (calDelta i) < (tj - s.get16 (CAL_ITEMn_LASTT i)).natAbs → t.flag (CAL_ITEMn_PEND i) = true) ∧ SameMem s t) ∧
    (s.svHalted = true ∨ s.radioOff = true ∨ s.cal.step.isSome = true → exec .calStepStart s = .next s ∧ exec .calForcedRun s = .next s) ∧
    (s.calNext = none → s.cal.run = none → exec .calStepStart s = .next s) ∧
    (∀ i, s.calNext = some i → i < 2 → s.calMay i = true → s.calRoom = true → s.svHalted = false → s.radioOff = false → s.pwr.entry = none →
      s.cal.step = none → s.cal.run = none → ∃ t, exec .calStepStart s = .next t ∧ t.get CAL_STAT_RUN = 1 ∧ t.get CAL_STAT_ITEM = i ∧
        t.get CAL_STAT_STEP = 1 ∧ (t.chn i).blCal = true ∧
        t.cal.run = some { item := i, temp := s.get CAL_TEMP_TJ } ∧ t.cal.step = some { item := i, chain := some i } ∧ SameMem s t) ∧
    (s.calNext = some 2 → s.calMay 2 = true → s.calRoom = true → s.svHalted = false → s.radioOff = false → s.pwr.entry = none →
      s.cal.step = none → s.cal.run = none → ∃ t, exec .calStepStart s = .next t ∧ t.get CAL_STAT_ITEM = 2 ∧ t.get CAL_STAT_STEP = 1 ∧
        t.get (SYNx_STAT_CALBUSY 2) = 1 ∧ (t.synth 2).ph = .calStep ∧ SameMem s t) ∧
    (∀ i, s.calNext = some i → i < 2 → s.calMay i = false → s.combined = false → s.svHalted = false → s.radioOff = false →
      s.pwr.entry = none → s.cal.step = none → s.cal.run = none → ∃ t, exec .calStepStart s = .next t ∧ t.get (CAL_ITEMn_DEFER i) = 1 ∧
        OnlyRegs [CAL_ITEMn_DEFER i] s t) ∧
    (s.cal.run = none ∨ s.cal.step = none → exec (.calStepEnd v) s = .next s) ∧
    (∀ r st, s.cal.run = some r → s.cal.step = some st → r.item < 2 → r.done = 1 → ∃ t, exec (.calStepEnd v) s = .next t ∧
      t.cal.run = some { r with done := 2 } ∧ t.cal.step = none ∧ t.get (RXx_DCOFF_DCI r.item) = v.getD 0 0 % 2 ^ (RXx_DCOFF_DCI r.item).w ∧
      t.get (RXx_DCOFF_DCQ r.item) = v.getD 1 0 % 2 ^ (RXx_DCOFF_DCQ r.item).w ∧
      OnlyRegs [RXx_DCOFF_DCI r.item, RXx_DCOFF_DCQ r.item] s { t with cal := s.cal }) ∧
    (∀ r st, s.cal.run = some r → s.cal.step = some st → r.item < 2 → r.done = 8 → ∃ t, exec (.calStepEnd v) s = .next t ∧
      t.cal.run = none ∧ t.cal.step = none ∧ t.get CAL_STAT_RUN = 0 ∧ t.get (CAL_ITEMn_PEND r.item) = 0 ∧
      t.get (CAL_ITEMn_LASTT r.item) = r.temp % 2 ^ 16 ∧ (t.chn r.item).blCal = false ∧ SameMem s t) ∧
    (∀ i, s.calNext = some i → i < 2 → s.calRoom = true → s.calMay i = false → s.combined = false → s.svHalted = false → s.radioOff = false →
      s.pwr.entry = none → s.cal.step = none → Tab.get 0 s.cal.dueAt i + s.get CAL_DEFER_MAXDEFER * 60000000 ≤ s.tick →
      ∃ t, exec .calForcedRun s = .next t ∧ t.get CAL_STAT_FORCED = min (s.get CAL_STAT_FORCED + 1) (2 ^ CAL_STAT_FORCED.w - 1) ∧
        t.cal.run = some { item := i, temp := s.get CAL_TEMP_TJ, forced := true } ∧ (t.chn i).blCal = true) ∧
    (n.val < 3 → ∃ t, exec (.calItemRun n) s = .next t ∧ t.flag (CAL_ITEMn_PEND n) = true ∧ n.val ∈ t.cal.byRun ∧
      OnlyRegs [CAL_ITEMn_PEND n] s { t with cal := s.cal }) ∧
    (s.flag CAL_CTL_EN = true → s.cal.run = none → (∀ i < 3, s.flag (CAL_ITEMn_PEND i) = false) → ∃ t, exec (.calItemRun 3) s = .next t ∧
      t.get (CAL_ITEMn_PEND 3) = 0 ∧ t.get (CAL_ITEMn_LASTT 3) = s.get CAL_TEMP_TJ % 2 ^ 16 ∧ SameMem s t) ∧
    (NvReq.calRecord ∈ s.nvq → exec .calSave s = .next s) ∧
    (NvReq.calRecord ∉ s.nvq → ∃ t, exec .calSave s = .next t ∧ t.nvq = s.nvq ++ [.calRecord] ∧ t.cal = { s.cal with recAt := some s.tick } ∧
      { t with nvq := s.nvq, cal := s.cal } = s) ∧
    (∀ k, s.cal.fbAt = some k → s.tick < k + 60000000 → ∃ t, exec (.xoFeedbackWrite w) s = .next t ∧ t.get CAL_STAT_XOFBREJ = 1 ∧
      OnlyRegs [CAL_STAT_XOFBREJ] s t) ∧
    (s.cal.fbAt = none → ∃ t, exec (.xoFeedbackWrite w) s = .next t ∧ t.get CAL_STAT_XOFBREJ = 0 ∧ t.cal.fbAt = some s.tick ∧
      t.get CAL_XOC0_C0 = wrap 32 (sext 32 (s.get CAL_XOC0_C0) +
        roundQ (((max (-2000) (min 2000 (sext CAL_XOFB_ERR.w (bits w.toNat CAL_XOFB_ERR.lo CAL_XOFB_ERR.w))) : Int) : Rat) / 4)) ∧
      OnlyRegs [CAL_XOFB_ERR, CAL_STAT_XOFBREJ, CAL_XOC0_C0] s { t with cal := s.cal, nvq := s.nvq }) ∧
    (nvNext s.nvq ≠ some .calRecord → exec (.calRecordWriteDone ok) s = .next s) ∧
    (nvNext s.nvq = some .calRecord → ∃ t, exec (.calRecordWriteDone true) s = .next t ∧ t.get CAL_STAT_RECERR = 0 ∧
      t.get CAL_STAT_RECCOPY = (if s.calPick.isNone = true then 0 else 1 - s.get CAL_STAT_RECCOPY) ∧ t.cal.gen = s.cal.gen + 1 ∧
      t.cal.dirty = false ∧ t.nvq = s.nvq.erase .calRecord ∧
      t.octs (calCopy (if s.calPick.isNone = true then 0 else 1 - s.get CAL_STAT_RECCOPY)) (s.calRecord (s.cal.gen + 1)).length =
        s.calRecord (s.cal.gen + 1)) ∧
    (nvNext s.nvq = some .calRecord → ∃ t, exec (.calRecordWriteDone false) s = .next t ∧ t.get CAL_STAT_RECERR = 1 ∧
      t.cal = { s.cal with failAt := some s.tick } ∧ t.get CAL_STAT_RECCOPY = s.get CAL_STAT_RECCOPY) ∧
    (s.cal.failAt = none → exec .calRecordRetry s = .next s) ∧
    (∀ k, s.svHalted = false → s.cal.failAt = some k → k + 600000000 ≤ s.tick → ∃ t, exec .calRecordRetry s = .next t ∧ t.cal.failAt = none ∧
      NvReq.calRecord ∈ t.nvq ∧ { t with cal := s.cal, nvq := s.nvq } = s) ∧
    (nvNext s.nvq = none ∨ nvNext s.nvq = some .calRecord → exec .nvmWriteDone s = .next s) ∧
    (∀ g, nvNext s.nvq = some (.gen g) → ∃ t, exec .nvmWriteDone s = .next t ∧ t.nv = { s.nv with gen := some g } ∧
      t.nvq = s.nvq.erase (.gen g) ∧ t.nvs.writes = s.nvs.writes + 1 ∧ { t with nv := s.nv, nvq := s.nvq, nvs := s.nvs } = s) ∧
    (∀ stamp dis code src part cls data, nvNext s.nvq = some (.scree stamp dis code src part cls data) → ∃ t, exec .nvmWriteDone s = .next t ∧
      t.scrSeq = s.scrSeq + 1 ∧ t.get NVC_LOGHEAD_SEQ = (s.scrSeq + 1) % 2 ^ 32 ∧
      t.octs (screeAddr (s.scrSeq + 1)) 32 = screeEntry stamp dis (s.scrSeq + 1) code src part cls data ∧
      (∀ a, a < screeAddr (s.scrSeq + 1) ∨ screeAddr (s.scrSeq + 1) + 32 ≤ a → t.byte a = s.byte a) ∧
      OnlyRegs [NVC_LOGHEAD_SEQ] s { t with mem := s.mem, scrSeq := s.scrSeq, nvq := s.nvq, nvs := s.nvs }) ∧
    (s.pwr.sleep.isSome = true ∨ s.pwr.boot = true → ∀ k, exec (.nvmRefreshStep addr k) s = .next s) ∧
    (s.pwr.sleep = none → s.pwr.boot = false →
      (∃ t, exec (.nvmRefreshStep addr 0) s = .next t ∧ t.get NVC_STAT_REFR = 1 ∧ OnlyRegs [NVC_STAT_REFR] s t) ∧
      (∃ t, exec (.nvmRefreshStep addr 1) s = .next t ∧ t.nvq = s.nvq ++ [.refresh addr] ∧ OnlyRegs [NVC_STAT_REFR] s { t with nvq := s.nvq }) ∧
      (∃ t, exec (.nvmRefreshStep addr 2) s = .next t ∧ t.nvq = s.nvq ++ [.refresh addr] ∧
        t.get NVC_STAT_SECCNT = min (s.get NVC_STAT_SECCNT + 1) (2 ^ NVC_STAT_SECCNT.w - 1) ∧
        OnlyRegs [NVC_STAT_REFR, NVC_STAT_SECCNT] s { t with nvq := s.nvq }) ∧
      (∃ t, exec (.nvmRefreshStep addr 3) s = .next t ∧
        t.get NVC_STAT_DEDCNT = min (s.get NVC_STAT_DEDCNT + 1) (2 ^ NVC_STAT_DEDCNT.w - 1) ∧
        t.nvq = s.nvq ++ [.scree s.tbs.now (s.flag TBS_STAT_DISCONT) 0x0503 27 0 1 (octets 4 addr)] ∧
        OnlyRegs [NVC_STAT_REFR, NVC_STAT_DEDCNT] s { t with nvq := s.nvq })) ∧
    (s.tick < s.nvs.passAt + 60000000 * s.get NVC_CKCFG_CKPER ∨ s.pwr.sleep.isSome = true ∨ s.pwr.boot = true →
      exec .checkpointPass s = .next s) ∧
    (s.nvs.passAt + 60000000 * s.get NVC_CKCFG_CKPER ≤ s.tick → s.pwr.sleep = none → s.pwr.boot = false → ∃ t, exec .checkpointPass s = .next t ∧
      t.nvs.passAt = s.tick ∧ NvReq.config ∈ t.nvq) ∧
    (∃ t, exec (.logIndexWrite w) s = .next t ∧ t.get NVC_LOGIDX_SEQ = w.toNat ∧
      t.flag NVC_LOGSTAT_NOTYET = (decide (w.toNat = 0) || decide (s.scrSeq < w.toNat)) ∧
      t.flag NVC_LOGSTAT_GONE = (decide (w.toNat ≠ 0) && decide (w.toNat + 2048 ≤ s.scrSeq)) ∧
      (∀ i < 8, t.get (NVC_LOGDATAw_DATA i) = (if w.toNat = 0 ∨ s.scrSeq < w.toNat ∨ w.toNat + 2048 ≤ s.scrSeq then 0
        else s.num (screeAddr w.toNat + 4 * i) 4)) ∧ { t with regs := s.regs } = s)

/-- A device reset clears what does not outlive it, its release starts the XO, the watchdog resets, and BOOT ends with a passing image (R30, R31, R39, R533, R534, R537, R538, R539, R540, R599). -/
def Obligations.ResetsAndBootFollowTheirCauses : Prop :=
  ∀ (s : State) (c : Fin 6) (raw : BitVec 12) (pll imgOk pre : Bool),
    (∃ t, exec (.deviceReset c) s = .next t ∧ t.progs = [] ∧ t.txs = [] ∧ t.rx = [] ∧ t.mbox = [] ∧ t.key.slots = [] ∧ t.pwr.boot = true ∧
      t.pwr.sleep = none ∧ t.pwr.lockdown = false ∧ t.pending = s.pending ∧ t.get TMP_RSTCAUSE_CAUSE = c ∧
      t.get TMP_RSTCAUSE_COUNT = (if c = 0 then 0 else min (s.get TMP_RSTCAUSE_COUNT + 1) 65535) ∧ t.get TMP_LCSTAT_LD = 0 ∧
      (∀ a, 0x100000 ≤ a → a < 0x38000000 ∨ 0x38010000 ≤ a → t.byte a = 0)) ∧
    (c.val < 3 → ∃ t, exec (.deviceReset c) s = .next t ∧ t.pwr.held = true ∧ t.clk.xo = .stopped ∧ t.tbs = {} ∧ t.get TBS_STAT_DISCONT = 1 ∧
      (∀ a < 0x100000, t.byte a = s.byte a)) ∧
    (3 ≤ c.val → ∃ t, exec (.deviceReset c) s = .next t ∧ t.pwr.held = false ∧ t.clk.xo = .run ∧ t.tbs.now = s.tbs.now ∧
      t.get CLK_STAT_XORUN = 1 ∧ t.get CLK_STAT_PLLLOCK = 1) ∧
    (s.pwr.held = true → ∃ t, exec .resetRelease s = .next t ∧ t.pwr = { s.pwr with held := false, svDog := s.tick } ∧ t.clk.xo = .start ∧
      { t with pwr := s.pwr, clk := s.clk } = s) ∧
    (s.pwr.held = false → exec .resetRelease s = .next s) ∧
    (s.clk.xo ≠ .start → exec .xoStartDone s = .next s) ∧
    (s.clk.xo = .start → s.pwr.bootFrom ≠ some .off → ∃ t, exec .xoStartDone s = .next t ∧ t.clk.xo = .run ∧ t.get CLK_STAT_XORUN = 1 ∧
      t.get CLK_CTL_PLLEN = 1 ∧ t.get CLK_STAT_PLLLOCK = 1 ∧ OnlyRegs [CLK_STAT_XORUN, CLK_CTL_PLLEN, CLK_STAT_PLLLOCK] s { t with clk := s.clk }) ∧
    (s.pwr.svDog + 100000 ≤ s.tick → s.svHalted = false → s.pwr.held = false → s.pwr.sleep = none →
      exec .svWatchdogExpiry s = exec (.deviceReset 3) s) ∧
    (s.tick < s.pwr.svDog + 100000 ∨ s.svHalted = true → exec .svWatchdogExpiry s = .next s) ∧
    (s.pwr.boot = false ∨ s.pwr.held = true ∨ s.clk.xo ≠ .run ∨ s.flag TMP_LCSTAT_RECOVERY = true →
      exec (.bootEnd raw pll imgOk) s = .next s) ∧
    (s.pwr.boot = true → s.pwr.held = false → s.clk.xo = .run → s.flag TMP_LCSTAT_RECOVERY = false →
      (s.svChoose (s.bootGen (decide (s.pwr.bootFrom = some .deep) && imgOk))).1 = true → ∃ t, exec (.bootEnd raw pll imgOk) s = .next t ∧
        t.pwr.boot = false ∧ t.pwr.bootFrom = none ∧ t.pwr.fired = false) ∧
    (s.pwr.boot = true → s.pwr.held = false → s.clk.xo = .run → s.flag TMP_LCSTAT_RECOVERY = false →
      (s.svChoose (s.bootGen (decide (s.pwr.bootFrom = some .deep) && imgOk))).1 = false → ∃ t, exec (.bootEnd raw pll imgOk) s = .next t ∧
        t.get TMP_LCSTAT_RECOVERY = 1 ∧ t.pwr = s.pwr ∧ t.progs = s.progs) ∧
    (s.pwr.sleep.isSome = true ∨ s.clk.xo ≠ .run → exec (.xoClockFault pre) s = .next s) ∧
    (s.pwr.sleep = none → s.clk.xo = .run → s.get TMP_POLICY_CLOCK = 0 → ∃ t, exec (.xoClockFault pre) s = .next t ∧
      (t.get TMP_SRC_ACTIVE).testBit 2 = true ∧ OnlyRegs [TMP_SRC_ACTIVE] s t) ∧
    (s.pwr.sleep = none → s.clk.xo = .run → s.get TMP_POLICY_CLOCK = 1 → s.pwr.held = false → s.pwr.boot = false → s.pexists 0 = true →
      ∃ t, exec (.xoClockFault pre) s = .next t ∧ (t.get TMP_SRC_FIRED).testBit 2 = true ∧ (t.get TMP_SRC_ACTIVE).testBit 2 = true ∧
        Pends t 0 .tamper ∧ SameMem s t)

/-- Commissioning, decommissioning, handover and tamper change the lifecycle and the mode as the rules say, and only with authority where it is needed (R528, R530, R531, R539, R540, R541, R542, R543, R549, R551). -/
def Obligations.LifecycleAndTamperAct : Prop :=
  ∀ (s : State) (auth pre sample : Bool) (w : Word) (src : Fin 5),
    (s.tmp.pkg.kind.isSome = true → ∀ i ∈ [Instr.commission, .decommission auth, .exportPkg auth, .importPkg], exec i s = .next s) ∧
    (s.tmp.pkg.kind = none → ∃ t, exec .commission s = .next t ∧ t.tmp.pkg.kind = some .commission ∧ t.tmp.pkg.octs = s.pkgBuf 176 ∧
      t.get TMP_PKGSTAT_BUSY = 1 ∧ t.get TMP_PKGSTAT_DONE = 0 ∧ { t with regs := s.regs, tmp := s.tmp } = s) ∧
    (s.tmp.pkg.kind ≠ some .commission ∨ s.svHalted = true → exec .commissionDone s = .next s) ∧
    (s.svHalted = false → s.tmp.pkg.kind = some .commission → (commVerdict (s.get TMP_LCSTAT_LC) s.tmp.pkg.octs).1 ≠ .done →
      ∃ t, exec .commissionDone s = .next t ∧ t.get TMP_PKGSTAT_BUSY = 0 ∧ t.get TMP_PKGSTAT_DONE = 1 ∧ t.tmp.pkg = {} ∧
        t.get TMP_PKGSTAT_CODE = (commVerdict (s.get TMP_LCSTAT_LC) s.tmp.pkg.octs).1.num ∧
        OnlyRegs [TMP_PKGSTAT_BUSY, TMP_PKGSTAT_DONE, TMP_PKGSTAT_CODE, TMP_PKGSTAT_READY, TMP_PKGSTAT_LAST] s { t with tmp := s.tmp }) ∧
    (s.svHalted = false → s.tmp.pkg.kind = some .commission → (commVerdict (s.get TMP_LCSTAT_LC) s.tmp.pkg.octs).1 = .done →
      ∃ t, exec .commissionDone s = .next t ∧ t.get TMP_LCSTAT_LC = 1 ∧ t.get TMP_AUTHCTR_CTR = 0 ∧ t.hasInstaller = true ∧
        t.get TMP_PKGSTAT_DONE = 1 ∧ t.get TMP_PKGSTAT_CODE = 0 ∧ t.tmp.pkg = {}) ∧
    (s.tmp.pkg.kind = none → ∀ i ∈ [Instr.decommission false, .exportPkg false], ∃ t, exec i s = .next t ∧ t.get TMP_LCSTAT_AUTHREJ = 1 ∧
      OnlyRegs [TMP_LCSTAT_AUTHREJ] s t) ∧
    (s.tmp.pkg.kind = none → ∃ t, exec (.decommission true) s = .next t ∧ t.get TMP_LCSTAT_LC = 0 ∧ t.hasInstaller = false ∧
      t.get TMP_PKGSTAT_DONE = 1 ∧ t.tmp.pkg = {}) ∧
    (s.tmp.pkg.kind = none → s.get TMP_LCSTAT_LC ≠ 1 → ∃ t, exec (.exportPkg true) s = .next t ∧
      t.get TMP_PKGSTAT_CODE = Code.refusedState.num ∧ t.get TMP_PKGSTAT_DONE = 1 ∧ t.get TMP_LCSTAT_EXPORT = s.get TMP_LCSTAT_EXPORT ∧
      { t with regs := s.regs, tmp := s.tmp } = s) ∧
    (∀ z, s.tmp.pkg.kind = none → s.get TMP_LCSTAT_LC = 1 → Config.ecdh (s.pkgBuf 64) = some z → ∃ t, exec (.exportPkg true) s = .next t ∧
      t.get TMP_LCSTAT_EXPORT = 1 ∧ t.tmp.pkg.kind = some .exporting ∧ t.get TMP_PKGSTAT_BUSY = 1) ∧
    (s.tmp.pkg.kind ≠ some .exporting ∨ s.flag TMP_PKGSTAT_READY = true ∨ s.tmp.pkg.octs.length ≤ s.tmp.pkg.pos →
      exec .exportChunkReady s = .next s) ∧
    (s.svHalted = false → s.tmp.pkg.kind = some .exporting → s.flag TMP_PKGSTAT_READY = false → s.tmp.pkg.pos < s.tmp.pkg.octs.length →
      ∃ t, exec .exportChunkReady s = .next t ∧ t.get TMP_PKGSTAT_READY = 1 ∧
        t.get TMP_PKGLEN_LEN = min 4096 (s.tmp.pkg.octs.length - s.tmp.pkg.pos) ∧
        t.tmp.pkg.pos = s.tmp.pkg.pos + min 4096 (s.tmp.pkg.octs.length - s.tmp.pkg.pos) ∧
        t.flag TMP_PKGSTAT_LAST = decide (s.tmp.pkg.octs.length ≤ s.tmp.pkg.pos + 4096) ∧
        { t with regs := s.regs, tmp := s.tmp, mem := s.mem } = s) ∧
    (s.tmp.pkg.kind = none → ∃ t, exec .importPkg s = .next t ∧ t.tmp.pkg.kind = some .importing ∧ t.tmp.pkg.octs = [] ∧
      t.get TMP_PKGSTAT_BUSY = 1 ∧ { t with regs := s.regs, tmp := s.tmp, mem := s.mem } = s) ∧
    (s.tmp.pkg.kind = none ∨ s.tmp.pkg.kind = some .commission → exec .packageNext s = .next s ∧ exec (.packageAbort auth) s = .next s) ∧
    (s.tmp.pkg.kind = some .importing → ∃ t, exec .packageNext s = .next t ∧
      t.tmp.pkg.octs = importAdd s.tmp.pkg.octs (s.pkgBuf (min 4096 (s.get TMP_PKGLEN_LEN))) ∧
      t.get TMP_PKGSTAT_CHUNK = min (s.get TMP_PKGSTAT_CHUNK + 1) (2 ^ 12 - 1) ∧ OnlyRegs [TMP_PKGSTAT_CHUNK] s { t with tmp := s.tmp }) ∧
    (s.tmp.pkg.kind = some .exporting → s.flag TMP_PKGSTAT_READY = true → s.flag TMP_PKGSTAT_LAST = false →
      ∃ t, exec .packageNext s = .next t ∧ t.get TMP_PKGSTAT_READY = 0 ∧ OnlyRegs [TMP_PKGSTAT_READY] s t) ∧
    (s.tmp.pkg.kind = some .exporting → s.flag TMP_PKGSTAT_READY = true → s.flag TMP_PKGSTAT_LAST = true →
      ∃ t, exec .packageNext s = .next t ∧ t.pwr.lockdown = true ∧ t.get TMP_LCSTAT_LC = 2 ∧ t.get TMP_LCSTAT_EXPORT = 0 ∧ t.tmp.pkg = {}) ∧
    (s.tmp.pkg.kind = some .exporting → ∃ t, exec (.packageAbort false) s = .next t ∧ t.get TMP_LCSTAT_AUTHREJ = 1 ∧
      OnlyRegs [TMP_LCSTAT_AUTHREJ] s t) ∧
    (s.tmp.pkg.kind = some .exporting → ∃ t, exec (.packageAbort true) s = .next t ∧ t.get TMP_LCSTAT_EXPORT = 0 ∧ t.tmp.pkg = {} ∧
      t.get TMP_PKGSTAT_CODE = Code.deferred.num ∧ t.get TMP_PKGSTAT_DONE = 1) ∧
    (s.tmp.pkg.kind = some .importing → ∃ t, exec (.packageAbort auth) s = .next t ∧ t.tmp.pkg = {} ∧
      t.get TMP_PKGSTAT_CODE = Code.deferred.num ∧ t.get TMP_PKGSTAT_DONE = 1) ∧
    (s.svHalted = true ∨ s.tmp.pkg.kind ≠ some .importing ∨ s.tmp.pkg.octs.length < 192 ∨ s.tmp.pkg.octs.length < pkgLength s.tmp.pkg.octs →
      exec .importDone s = .next s) ∧
    (s.svHalted = false → s.tmp.pkg.kind = some .importing → 192 ≤ s.tmp.pkg.octs.length → pkgLength s.tmp.pkg.octs ≤ s.tmp.pkg.octs.length →
      ∃ t, exec .importDone s = .next t ∧ t.tmp.pkg = {} ∧ t.get TMP_PKGSTAT_DONE = 1 ∧
        t.get TMP_PKGSTAT_CODE = (s.importRun s.tmp.pkg.octs).1.num ∧ ((s.importRun s.tmp.pkg.octs).1 = .done → t.get TMP_LCSTAT_LC = 1)) ∧
    (∃ t, exec (.tamperFire src false pre) s = .next t ∧ (t.get TMP_SRC_ACTIVE).testBit src = false ∧ OnlyRegs [TMP_SRC_ACTIVE] s t) ∧
    (s.policy src = 0 → ∃ t, exec (.tamperFire src true pre) s = .next t ∧ (t.get TMP_SRC_ACTIVE).testBit src = true ∧
      OnlyRegs [TMP_SRC_ACTIVE] s t) ∧
    (s.watched src = true → s.pwr.sleep = none → s.pwr.boot = false → s.policy src = 1 → s.pexists 0 = true →
      ∃ t, exec (.tamperFire src true pre) s = .next t ∧ (t.get TMP_SRC_FIRED).testBit src = true ∧ Pends t 0 .tamper ∧ SameMem s t) ∧
    (s.watched src = true → s.pwr.sleep = none → s.pwr.boot = false → s.pwr.lockdown = false → s.policy src = 2 →
      ∃ t, exec (.tamperFire src true pre) s = .next t ∧ t.pwr.boot = true ∧ t.get TMP_RSTCAUSE_CAUSE = 4 ∧ t.progs = []) ∧
    (s.watched src = true → s.pwr.sleep = none → s.pwr.boot = false → s.policy src = 3 →
      ∃ t, exec (.tamperFire src true pre) s = .next t ∧ t.pwr.lockdown = true ∧ (s.pwr.lockdown = false → t.get TMP_LCSTAT_LDCAUSE = 1)) ∧
    (s.watched src = true → s.pwr.sleep = some .sleep → s.pwr.waking = false → ∃ t, exec (.tamperFire src true pre) s = .next t ∧
      (t.get TMP_SRC_FIRED).testBit src = true ∧ t.pwr.waking = true ∧ src.val ∈ t.pwr.tampers ∧ t.get PWR_WAKESRC_FIRST = 0 ∧ SameMem s t) ∧
    (s.watched 0 = false ∨ s.pwr.sleep = some .deep → exec (.tamperLoopCheck sample) s = .next s) ∧
    (s.watched 0 = true → s.pwr.sleep ≠ some .deep → s.get TMP_LOOPCFG_LOOPN ≠ 0 → ∃ t, exec (.tamperLoopCheck s.loopBit.1) s = .next t ∧
      t.tmp.loopBad = 0 ∧ (t.get TMP_SRC_ACTIVE).testBit 0 = false ∧ OnlyRegs [TMP_SRC_ACTIVE] s { t with tmp := s.tmp, fresh := s.fresh, drbg := s.drbg }) ∧
    (s.watched 0 = true → s.pwr.sleep ≠ some .deep → s.tmp.loopBad + 1 < s.get TMP_LOOPCFG_LOOPN → s.tmp.loopBad < 255 →
      ∃ t, exec (.tamperLoopCheck (!s.loopBit.1)) s = .next t ∧ t.tmp.loopBad = s.tmp.loopBad + 1 ∧ (t.get TMP_SRC_ACTIVE).testBit 0 = false ∧
        OnlyRegs [TMP_SRC_ACTIVE] s { t with tmp := s.tmp, fresh := s.fresh, drbg := s.drbg }) ∧
    (s.watched 0 = true → s.pwr.sleep = none → s.pwr.boot = false → s.policy 0 = 1 → s.tmp.loopBad + 1 = s.get TMP_LOOPCFG_LOOPN →
      s.tmp.loopBad < 255 → ∃ t, exec (.tamperLoopCheck (!s.loopBit.1)) s = .next t ∧ (t.get TMP_SRC_FIRED).testBit 0 = true ∧
        (t.get TMP_SRC_ACTIVE).testBit 0 = true) ∧
    ((∃ F ∈ policyFlds, bits w.toNat F.lo F.w < s.get F) → ∃ t, exec (.tamperPolicyWrite w false) s = .next t ∧ t.get TMP_LCSTAT_AUTHREJ = 1 ∧
      OnlyRegs [TMP_LCSTAT_AUTHREJ] s t) ∧
    ((∀ F ∈ policyFlds, s.get F ≤ bits w.toNat F.lo F.w) → ∃ t, exec (.tamperPolicyWrite w auth) s = .next t ∧
      (∀ F ∈ policyFlds, t.get F = s.asked w.toNat F) ∧ OnlyRegs policyFlds s t) ∧
    (∃ t, exec (.tamperPolicyWrite w true) s = .next t ∧ (∀ F ∈ policyFlds, t.get F = s.asked w.toNat F) ∧
      OnlyRegs (TMP_LCSTAT_AUTHREJ :: policyFlds) s t)

/-- The debug port identifies the device, opens a session for a token that answers its challenge, and closes it (R545, R546, R555, R557, R559, R560, R561, R563). -/
def Obligations.DebugSessionsOpenAndClose : Prop :=
  ∀ (s : State) (o : List Byte) (c : Byte) (ok : Bool),
    (s.dbgUp = false → ∀ i ∈ [Instr.dbgIdent o, .dbgChallenge o, .dbgOpen o, .dbgClose o, .dbgHalt o, .dbgRun o, .dbgStep o, .dbgCstat o,
      .dbgRead o, .dbgWrite o, .dbgCread o, .dbgCwrite o, .dbgBreak o, .dbgWatch o, .dbgReset o, .debugBadRequest ok c],
      exec i s = .next s) ∧
    (s.dbgUp = true → ∀ e ∈ [(Instr.dbgIdent o, 0), (.dbgChallenge o, 1), (.dbgClose o, 0), (.dbgHalt o, 1), (.dbgRun o, 1), (.dbgStep o, 1),
      (.dbgCstat o, 1), (.dbgRead o, 7), (.dbgCread o, 1), (.dbgCwrite o, 6), (.dbgBreak o, 7), (.dbgWatch o, 8), (.dbgReset o, 0)],
      o.length ≠ e.2 → exec e.1 s = .next (s.heard.dbgAnswer .refusedLength [])) ∧
    (s.dbgUp = true → s.pwr.boot = false → s.pwr.lockdown = false → s.dbg.scope = none →
      ∀ e ∈ [(Instr.dbgClose o, 0), (.dbgHalt o, 1), (.dbgRun o, 1), (.dbgStep o, 1), (.dbgCstat o, 1), (.dbgRead o, 7), (.dbgCread o, 1),
        (.dbgCwrite o, 6), (.dbgBreak o, 7), (.dbgWatch o, 8), (.dbgReset o, 0)],
      o.length = e.2 → exec e.1 s = .next (s.heard.dbgAnswer .refusedAccess [])) ∧
    (s.dbgUp = true → exec (.dbgIdent []) s = .next (s.heard.dbgAnswer .done (octets 4 (s.get SYS_ID_PART * 2 ^ 16 +
      s.get SYS_ID_REVL * 2 ^ 12 + s.get SYS_ID_REVN * 2 ^ 8 + s.get SYS_ID_MAXGEN) ++ octets 1 (s.get SYS_GEN_GEN) ++
      octets 1 (s.get TMP_LCSTAT_LC) ++ octets 1 s.mode ++ octets 1 (s.dbg.scope.getD 0xFF)))) ∧
    (s.dbgUp = true → s.dbgScope c.toNat = false → exec (.dbgChallenge [c]) s = .next (s.heard.dbgAnswer .refusedAccess [])) ∧
    (s.dbgUp = true → s.dbgScope c.toNat = true → s.dbgLocked = true →
      exec (.dbgChallenge [c]) s = .next (s.heard.dbgAnswer .refusedState [])) ∧
    (s.dbgUp = true → s.dbgScope c.toNat = true → s.dbgLocked = false → ∃ t r, exec (.dbgChallenge [c]) s = .next t ∧ r.length = 16 ∧
      t.dbg.chal = some { scope := c.toNat, octs := r, at_ := s.tick } ∧ t.dbg.resp = 0 :: r ∧ { t with dbg := s.dbg, drbg := s.drbg } = s) ∧
    (s.dbgUp = true → s.dbg.chal = none → o.length = (if c = 0x21 then 80 else 16) →
      exec (.dbgOpen (c :: o)) s = .next (s.heard.dbgAnswer .refusedState [])) ∧
    (∀ h, s.dbgUp = true → s.dbg.chal = some h → o.length = (if c = 0x21 then 80 else 16) → s.dbgScope c.toNat = true →
      s.tick < h.at_ + 10000000 → s.tokenOk h c.toNat o = true → ∃ t, exec (.dbgOpen (c :: o)) s = .next t ∧
        t.dbg.scope = some c.toNat ∧ t.dbg.chal = none ∧ t.dbg.resp = [0] ∧ SameMem s t) ∧
    (∀ h, s.dbgUp = true → s.dbg.chal = some h → o.length = (if c = 0x21 then 80 else 16) → s.dbgScope c.toNat = false ∨
      h.at_ + 10000000 ≤ s.tick ∨ s.tokenOk h c.toNat o = false → s.policy 4 = 0 → ∃ t, exec (.dbgOpen (c :: o)) s = .next t ∧
        t.dbg.resp = [BitVec.ofNat 8 Code.authFail.num] ∧ t.dbg.chal = none ∧ t.dbg.failAt = some s.tick ∧ t.dbg.scope = s.dbg.scope ∧
        t.get TMP_AUTHFAIL_TOKEN = min (s.get TMP_AUTHFAIL_TOKEN + 1) (2 ^ TMP_AUTHFAIL_TOKEN.w - 1) ∧ SameMem s t) ∧
    (∀ x, s.session x → ∃ t, exec (.dbgClose []) s = .next t ∧ t.dbg.scope = none ∧ t.dbg.chal = none ∧ t.dbg.brk = [] ∧ t.dbg.wat = [] ∧
      t.dbg.resp = [0] ∧ t.regs = s.regs ∧ SameMem s t) ∧
    (∀ x, s.session x → x < 32 → exec (.dbgReset []) s = .next (s.heard.dbgAnswer .refusedAccess [])) ∧
    (∀ x, s.session x → 32 ≤ x → ∃ t, exec (.dbgReset []) s = .next t ∧ t.dbg.rstDue = true ∧ t.dbg.resp = [0] ∧ { t with dbg := s.dbg } = s) ∧
    (s.dbgUp = true → ∃ t, exec (.debugBadRequest false c) s = .next t ∧ t.dbg.resp = [BitVec.ofNat 8 Code.checkFail.num] ∧
      { t with dbg := s.dbg } = s) ∧
    (s.dbgUp = true → c.toNat ∉ dbgCmds → exec (.debugBadRequest true c) s = .next (s.heard.dbgAnswer .refusedState [])) ∧
    exec .debugLineReset s = .next s ∧
    exec .debugResponseAbandon s = .next { s with dbg := { s.dbg with resp := [] } } ∧
    (s.dbg.scope = none ∨ s.tick < s.dbg.lastAt + s.get DBG_CTL_IDLETO * 1000000 → exec .sessionIdleTimeout s = .next s) ∧
    (s.dbg.scope ≠ none → s.dbg.lastAt + s.get DBG_CTL_IDLETO * 1000000 ≤ s.tick → ∃ t, exec .sessionIdleTimeout s = .next t ∧
      t.dbg.scope = none ∧ t.dbg.chal = none ∧ t.dbg.brk = [] ∧ t.dbg.wat = [] ∧ t.regs = s.regs ∧ SameMem s t) ∧
    (∀ h, s.dbg.chal = some h → h.at_ + 10000000 ≤ s.tick → exec .challengeLapse s = .next { s with dbg := { s.dbg with chal := none } }) ∧
    (∀ h, s.dbg.chal = some h → s.tick < h.at_ + 10000000 → exec .challengeLapse s = .next s) ∧
    (∀ n, s.dbg.failAt = some n → n + 1000000 ≤ s.tick → exec .tokenLockoutEnd s = .next { s with dbg := { s.dbg with failAt := none } }) ∧
    (∀ n, s.dbg.failAt = some n → s.tick < n + 1000000 → exec .tokenLockoutEnd s = .next s)

/-- A session halts, runs, steps, reads and writes the contexts its scope reaches, and breakpoints halt them (R560, R562, R564, R565, R566, R567, R568, R569, R570, R571). -/
def Obligations.DebugReachesItsTargets : Prop :=
  ∀ (s : State) (x : Nat) (o : List Byte) (b : Byte), s.session x →
    (∀ c, s.dbgTarget b.toNat = some c → ∀ i ∈ [Instr.dbgHalt [b], .dbgRun [b], .dbgStep [b], .dbgCstat [b], .dbgCread [b]],
      exec i s = .next (s.heard.dbgAnswer c [])) ∧
    (s.dbgTarget b.toNat = none → dbgCtx b.toNat ≠ 33 → dbgCtx b.toNat ≠ 34 → dbgCtx b.toNat ≠ 35 →
      (∀ n, (s.prog (dbgCtx b.toNat)).run ≠ .trap n) → ∃ t, exec (.dbgHalt [b]) s = .next t ∧ (t.prog (dbgCtx b.toNat)).halted = true ∧
        t.dbg.resp = [0] ∧ (∀ j, j ≠ dbgCtx b.toNat → t.prog j = s.prog j) ∧
        ((s.prog (dbgCtx b.toNat)).halted = false → dbgCtx b.toNat < 32 → s.pexists (dbgCtx b.toNat) = true → Pends t (dbgCtx b.toNat) .debug) ∧
        Kept evFlds s t ∧ { t with progs := s.progs, dbg := s.dbg, regs := s.regs } = s) ∧
    (∀ n, s.dbgTarget b.toNat = none → dbgCtx b.toNat ≠ 35 → (s.prog (dbgCtx b.toNat)).run = .trap n → ∃ t, exec (.dbgHalt [b]) s = .next t ∧
      (t.prog (dbgCtx b.toNat)).haltPend = true ∧ (t.prog (dbgCtx b.toNat)).pc = (s.prog (dbgCtx b.toNat)).pc ∧ t.dbg.resp = [0] ∧
      { t with progs := s.progs, dbg := s.dbg } = s) ∧
    (s.dbgTarget b.toNat = none → (s.prog (dbgCtx b.toNat)).halted = false → ∀ i ∈ [Instr.dbgRun [b], .dbgStep [b]],
      exec i s = .next (s.heard.dbgAnswer .refusedState [])) ∧
    (∀ e ∈ [(Instr.dbgRun [b], false), (.dbgStep [b], true)], s.dbgTarget b.toNat = none → (s.prog (dbgCtx b.toNat)).halted = true →
      dbgCtx b.toNat ≠ 35 → ∃ t, exec e.1 s = .next t ∧ (t.prog (dbgCtx b.toNat)).halted = false ∧
        (t.prog (dbgCtx b.toNat)).stepping = e.2 ∧ (t.prog (dbgCtx b.toNat)).cause = 0 ∧ t.dbg.resp = [0] ∧
        (∀ j, j ≠ dbgCtx b.toNat → t.prog j = s.prog j) ∧ { t with progs := s.progs, dbg := s.dbg, pwr := s.pwr } = s) ∧
    (s.dbgTarget b.toNat = none → exec (.dbgCstat [b]) s = .next (s.heard.dbgAnswer .done (octets 1 (s.prog (dbgCtx b.toNat)).cstat ++
      octets 2 (s.prog (dbgCtx b.toNat)).cause ++ octets 4 (s.prog (dbgCtx b.toNat)).pc.toNat))) ∧
    (s.dbgTarget b.toNat = none → exec (.dbgCread [b]) s = .next (s.heard.dbgAnswer .done
      (((List.range 16).flatMap fun i => octets 4 (Tab.get 0 (s.prog (dbgCtx b.toNat)).g i).toNat) ++ octets 4 (s.prog (dbgCtx b.toNat)).pc.toNat ++
        octets 4 (s.prog (dbgCtx b.toNat)).flagBits ++ octets 4 (s.prog (dbgCtx b.toNat)).cyc.toNat))) ∧
    (o.length = 6 → s.dbgTarget (dbgOct o 0) = none → (s.prog (dbgCtx (dbgOct o 0))).halted = true → dbgOct o 1 ≤ 18 →
      ∃ t, exec (.dbgCwrite o) s = .next t ∧ t.prog (dbgCtx (dbgOct o 0)) = (s.prog (dbgCtx (dbgOct o 0))).put (dbgOct o 1) (dbgFld o 2 4) ∧
        t.dbg.resp = [0] ∧ (∀ j, j ≠ dbgCtx (dbgOct o 0) → t.prog j = s.prog j) ∧ { t with progs := s.progs, dbg := s.dbg } = s) ∧
    (o.length = 6 → s.dbgTarget (dbgOct o 0) = none → (s.prog (dbgCtx (dbgOct o 0))).halted = false ∨ 18 < dbgOct o 1 →
      exec (.dbgCwrite o) s = .next (s.heard.dbgAnswer .refusedState [])) ∧
    (∀ c, o.length = 7 → s.heard.dbgRange o .load = some c → exec (.dbgRead o) s = .next (s.heard.dbgAnswer c [])) ∧
    (∀ a, o.length = 7 → s.heard.dbgRange o .load = none → dbgOct o 6 = 1 →
      s.heard.dbgPlace (dbgOct o 0) (dbgOct o 1) .load (dbgFld o 2 4) = .inr a → exec (.dbgRead o) s =
        .next ((s.heard.busRead (dbgWho (dbgOct o 0)) 4 a).2.dbgAnswer .done (octets 4 (s.heard.busRead (dbgWho (dbgOct o 0)) 4 a).1))) ∧
    (∀ c, 7 ≤ o.length → o.length = 7 + 4 * dbgOct o 6 → s.heard.dbgRange o .store = some c →
      exec (.dbgWrite o) s = .next (s.heard.dbgAnswer c [])) ∧
    (∀ a t, o.length = 11 → dbgOct o 6 = 1 → s.heard.dbgRange o .store = none →
      s.heard.dbgPlace (dbgOct o 0) (dbgOct o 1) .store (dbgFld o 2 4) = .inr a →
      s.heard.busWrite (dbgWho (dbgOct o 0)) 4 (dbgFld o 7 4) a = some t → exec (.dbgWrite o) s = .next (t.dbgAnswer .done [])) ∧
    (o.length = 7 → s.dbgTarget (dbgOct o 1) = none → dbgOct o 0 ≤ 3 → dbgOct o 6 ≤ 1 → ∃ t, exec (.dbgBreak o) s = .next t ∧
      Tab.get {} t.dbg.brk (dbgOct o 0) = { on := decide (dbgOct o 6 = 1), ctx := dbgCtx (dbgOct o 1), addr := dbgFld o 2 4 } ∧
      t.dbg.resp = [0] ∧ { t with dbg := s.dbg } = s) ∧
    (o.length = 8 → s.dbgTarget (dbgOct o 1) = none → dbgOct o 0 ≤ 1 → dbgOct o 6 ≤ 12 → dbgOct o 7 ≤ 3 → ∃ t, exec (.dbgWatch o) s = .next t ∧
      Tab.get {} t.dbg.wat (dbgOct o 0) =
        { kind := dbgOct o 7, ctx := dbgCtx (dbgOct o 1), addr := dbgFld o 2 4, mask := dbgOct o 6 } ∧
      t.dbg.resp = [0] ∧ { t with dbg := s.dbg } = s) ∧
    (∀ c, s.brkHits (ctxNum c) ≠ 0 → (s.prog (ctxNum c)).going = true → ctxNum c ≠ 33 → ctxNum c ≠ 34 → (s.prog (ctxNum c)).halted = false →
      ∃ t, exec (.breakpointHit c) s = .next t ∧ (t.prog (ctxNum c)).halted = true ∧
        (t.prog (ctxNum c)).cause = (s.prog (ctxNum c)).cause ||| s.brkHits (ctxNum c) ∧
        (t.prog (ctxNum c)).pc = (s.prog (ctxNum c)).pc ∧ SameMem s t) ∧
    (∀ c, s.brkHits (ctxNum c) = 0 → exec (.breakpointHit c) s = .next s) ∧
    (∀ k : Fin 2, (s.prog (33 + k)).haltPend = true → (s.prog (33 + k)).halted = false → s.airOp k = false →
      ∃ t, exec (.deferredHalt k) s = .next t ∧ (t.prog (33 + k)).halted = true ∧ (t.prog (33 + k)).haltPend = false ∧
        { t with progs := s.progs } = s) ∧
    (∀ k : Fin 2, (s.prog (33 + k)).haltPend = false ∨ s.airOp k = true → exec (.deferredHalt k) s = .next s)

/-- One in-service test runs at a time, is refused while its unit is in use, and ends with its verdict counted (R572, R573, R574, R575, R576, R577). -/
def Obligations.TestsRunOneAtATime : Prop :=
  ∀ (s : State) (u : Fin 4) (g : Fin 25) (x : Fin 2) (n : Fin 9) (v pw : Int) (r0 r1 : Word) (ok : Bool),
    (∀ e ∈ [(Instr.engineTest u, 0, u.val), (.coreTest u, 1, u.val), (.decoderTest u, 2, u.val), (.sramSegmentTest g, 3, g.val),
        (.chainLoopbackTest x false, 4, x.val), (.nvmVerify n, 5, n.val)],
      (s.test.isSome = true → ∃ t, exec e.1 s = .next t ∧ t.get DBG_TESTSTAT_TESTREJ = 1 ∧
        OnlyRegs [DBG_TESTCTL_KIND, DBG_TESTCTL_INDEX, DBG_TESTSTAT_TESTREJ] s t) ∧
      (s.test = none → s.testMay e.2.1 e.2.2 false = false → ∃ t, exec e.1 s = .next t ∧ t.get DBG_TESTSTAT_DONE = 1 ∧
        t.get DBG_TESTSTAT_CODE = Code.refusedState.num ∧ t.get DBG_TESTSTAT_KIND = e.2.1 ∧ t.get DBG_TESTSTAT_INDEX = e.2.2 ∧
        { t with regs := s.regs } = s) ∧
      (s.test = none → s.testMay e.2.1 e.2.2 false = true → ∃ t, exec e.1 s = .next t ∧ t.get DBG_TESTSTAT_BUSY = 1 ∧
        t.get DBG_TESTSTAT_DONE = 0 ∧ t.get DBG_TESTSTAT_KIND = e.2.1 ∧ t.get DBG_TESTSTAT_INDEX = e.2.2 ∧
        t.test = some { kind := e.2.1, index := e.2.2, start := s.tick, sv := false } ∧ { t with regs := s.regs, test := s.test } = s)) ∧
    (s.test = none → s.testMay 4 x true = true → ∃ t, exec (.chainLoopbackTest x true) s = .next t ∧ t.get DBG_TESTSTAT_BUSY = 1 ∧
      t.test = some { kind := 4, index := x, start := s.tick, sv := true } ∧ { t with regs := s.regs, test := s.test } = s) ∧
    (s.test = none → ∀ i ∈ [Instr.testAbort, .testComplete ok r0 r1, .chainLoopbackStep v pw], exec i s = .next s) ∧
    (∀ y, s.test = some y → exec .testAbort s = .next { s with test := some { y with abort := true } }) ∧
    (∀ y, s.test = some y → y.abort = true → ∃ t, exec (.testComplete ok r0 r1) s = .next t ∧ t.test = none ∧ t.get DBG_TESTSTAT_BUSY = 0 ∧
      t.get DBG_TESTSTAT_DONE = 1 ∧ t.get DBG_TESTSTAT_CODE = Code.deferred.num) ∧
    (∀ y, s.test = some y → y.abort = false → y.kind = 4 ∨ s.tick < y.start + s.testLen y.kind →
      exec (.testComplete ok r0 r1) s = .next s) ∧
    (∀ y, s.test = some y → y.abort = false → y.kind < 4 → y.start + s.testLen y.kind ≤ s.tick →
      ∃ t, exec (.testComplete ok r0 r1) s = .next t ∧ t.test = none ∧ t.get DBG_TESTSTAT_BUSY = 0 ∧ t.get DBG_TESTSTAT_DONE = 1 ∧
        t.get DBG_TESTRES0_RES = r0.toNat ∧ t.get DBG_TESTRES1_RES = r1.toNat ∧
        t.get DBG_TESTSTAT_CODE = (if ok = true then Code.done.num else Code.checkFail.num) ∧
        t.get DBG_TESTCNT_PASS = (if ok = true then min (s.get DBG_TESTCNT_PASS + 1) (2 ^ DBG_TESTCNT_PASS.w - 1) else s.get DBG_TESTCNT_PASS) ∧
        t.get DBG_TESTCNT_FAIL = (if ok = true then s.get DBG_TESTCNT_FAIL else min (s.get DBG_TESTCNT_FAIL + 1) (2 ^ DBG_TESTCNT_FAIL.w - 1)) ∧
        (y.kind = 3 → ok = false → t.get DBG_REPAIR_PERM = 1 ∧ t.get DBG_REPAIR_RELOC = 1 ∧ t.nvs.repair = some y.index) ∧ SameMem s t) ∧
    (∀ y, s.test = some y → y.kind ≠ 4 → exec (.chainLoopbackStep v pw) s = .next s) ∧
    (∀ y, s.test = some y → y.kind = 4 → y.abort = true → ∃ t, exec (.chainLoopbackStep v pw) s = .next t ∧ t.test = none ∧
      t.get DBG_TESTSTAT_CODE = Code.deferred.num) ∧
    (∀ y, s.test = some y → y.kind = 4 → y.abort = false → s.calRoom = true → s.calStepOk 200 = true → s.cal.step = none → y.step < 3 →
      ∃ t, exec (.chainLoopbackStep v pw) s = .next t ∧
        t.test = some { y with step := y.step + 1, bad := y.bad || !loopOk y.step v pw } ∧
        bits (t.get (if y.step < 2 then DBG_TESTRES0_RES else DBG_TESTRES1_RES)) (16 * (y.step % 2)) 16 = wrap 16 v) ∧
    (∀ y, s.test = some y → y.kind = 4 → y.abort = false → s.calRoom = true → s.calStepOk 200 = true → s.cal.step = none → y.step = 3 →
      y.sv = false → ∃ t, exec (.chainLoopbackStep v pw) s = .next t ∧ t.test = none ∧ t.get DBG_TESTSTAT_DONE = 1 ∧
        t.get DBG_TESTSTAT_CODE = (if (y.bad || !loopOk 3 v pw) = true then Code.checkFail.num else Code.done.num))

/-- A register write takes effect with the rights its master's tag has, in that tag's bank, on writable fields and allowed values (R5, R6, R12, R17, R278, R617). -/
def Obligations.RegisterWritesKeepTheirOwners : Prop :=
  ∀ (s : State) (tag : Fin 64) (bank : Fin 32) (addr : Nat) (w : Word),
    (inRegs addr = false ∨ addr % 4 ≠ 0 ∨ regMay tag true addr = false ∨ findReg addr = none → exec (.registerWrite tag bank addr w) s = .next s) ∧
    (1 ≤ tag.val → tag.val < 32 → exec (.registerWrite tag bank 0x40018014 w) s = .next s) ∧
    (tag = 0 ∨ tag = 32 → ∃ t, exec (.registerWrite tag bank 0x40018014 w) s = .next t ∧ t.get UART_MSGCFG_ACKTO = bits w.toNat 0 8 ∧
      OnlyRegs [UART_MSGCFG_ACKTO] s t) ∧
    (tag = 0 ∨ tag = 32 → ∃ t, exec (.registerWrite tag bank 0x40018010 w) s = .next t ∧
      t.get UART_DE_LEAD = (if bits w.toNat 0 9 ≤ 496 then bits w.toNat 0 9 else s.get UART_DE_LEAD) ∧
      t.get UART_DE_TAIL = (if bits w.toNat 16 9 ≤ 496 then bits w.toNat 16 9 else s.get UART_DE_TAIL) ∧
      OnlyRegs [UART_DE_LEAD, UART_DE_TAIL] s t) ∧
    (exec (.registerWrite tag bank 0x40018018 w) s = .next s) ∧
    (tag.val < 32 → ∃ t, exec (.registerWrite tag bank 0x40011004 w) s = .next t ∧ t.get (PEC_EEN_EEN.at tag) = w.toNat ∧
      OnlyRegs [PEC_EEN_EEN.at tag] s t) ∧
    (tag = 32 → ∃ t, exec (.registerWrite tag bank 0x40011004 w) s = .next t ∧ t.get (PEC_EEN_EEN.at bank) = w.toNat ∧
      OnlyRegs [PEC_EEN_EEN.at bank] s t)
end

