-- ==== Sys2Proof/Laws/State.lean ====
section
/-!
SUPPORT. What an update of one part of State leaves: every other part, each by its own lemma; and a
register field reads the same after an update of another part.
-/

namespace Sys2Proof.Machine

variable (s : State)

/-! ## State.set changes regs -/

@[simp] theorem State.set_mem (F : Fld) (v : Nat) : (s.set F v).mem = s.mem := rfl
@[simp] theorem State.set_fresh (F : Fld) (v : Nat) : (s.set F v).fresh = s.fresh := rfl
@[simp] theorem State.set_drbg (F : Fld) (v : Nat) : (s.set F v).drbg = s.drbg := rfl
@[simp] theorem State.set_clk (F : Fld) (v : Nat) : (s.set F v).clk = s.clk := rfl
@[simp] theorem State.set_tbs (F : Fld) (v : Nat) : (s.set F v).tbs = s.tbs := rfl
@[simp] theorem State.set_syn (F : Fld) (v : Nat) : (s.set F v).syn = s.syn := rfl
@[simp] theorem State.set_parts (F : Fld) (v : Nat) : (s.set F v).parts = s.parts := rfl
@[simp] theorem State.set_progs (F : Fld) (v : Nat) : (s.set F v).progs = s.progs := rfl
@[simp] theorem State.set_eng (F : Fld) (v : Nat) : (s.set F v).eng = s.eng := rfl
@[simp] theorem State.set_seqs (F : Fld) (v : Nat) : (s.set F v).seqs = s.seqs := rfl
@[simp] theorem State.set_sv (F : Fld) (v : Nat) : (s.set F v).sv = s.sv := rfl
@[simp] theorem State.set_sysImg (F : Fld) (v : Nat) : (s.set F v).sysImg = s.sysImg := rfl
@[simp] theorem State.set_creation (F : Fld) (v : Nat) : (s.set F v).creation = s.creation := rfl
@[simp] theorem State.set_chain (F : Fld) (v : Nat) : (s.set F v).chain = s.chain := rfl
@[simp] theorem State.set_slots (F : Fld) (v : Nat) : (s.set F v).slots = s.slots := rfl
@[simp] theorem State.set_chb (F : Fld) (v : Nat) : (s.set F v).chb = s.chb := rfl
@[simp] theorem State.set_trl (F : Fld) (v : Nat) : (s.set F v).trl = s.trl := rfl
@[simp] theorem State.set_rxNext (F : Fld) (v : Nat) : (s.set F v).rxNext = s.rxNext := rfl
@[simp] theorem State.set_txs (F : Fld) (v : Nat) : (s.set F v).txs = s.txs := rfl
@[simp] theorem State.set_txm (F : Fld) (v : Nat) : (s.set F v).txm = s.txm := rfl
@[simp] theorem State.set_air (F : Fld) (v : Nat) : (s.set F v).air = s.air := rfl
@[simp] theorem State.set_asc (F : Fld) (v : Nat) : (s.set F v).asc = s.asc := rfl
@[simp] theorem State.set_mbox (F : Fld) (v : Nat) : (s.set F v).mbox = s.mbox := rfl
@[simp] theorem State.set_ports (F : Fld) (v : Nat) : (s.set F v).ports = s.ports := rfl
@[simp] theorem State.set_uart (F : Fld) (v : Nat) : (s.set F v).uart = s.uart := rfl
@[simp] theorem State.set_pwr (F : Fld) (v : Nat) : (s.set F v).pwr = s.pwr := rfl
@[simp] theorem State.set_rx (F : Fld) (v : Nat) : (s.set F v).rx = s.rx := rfl
@[simp] theorem State.set_key (F : Fld) (v : Nat) : (s.set F v).key = s.key := rfl
@[simp] theorem State.set_crcs (F : Fld) (v : Nat) : (s.set F v).crcs = s.crcs := rfl
@[simp] theorem State.set_p0new (F : Fld) (v : Nat) : (s.set F v).p0new = s.p0new := rfl
@[simp] theorem State.set_cal (F : Fld) (v : Nat) : (s.set F v).cal = s.cal := rfl
@[simp] theorem State.set_nv (F : Fld) (v : Nat) : (s.set F v).nv = s.nv := rfl
@[simp] theorem State.set_nvs (F : Fld) (v : Nat) : (s.set F v).nvs = s.nvs := rfl
@[simp] theorem State.set_ret (F : Fld) (v : Nat) : (s.set F v).ret = s.ret := rfl
@[simp] theorem State.set_tmp (F : Fld) (v : Nat) : (s.set F v).tmp = s.tmp := rfl
@[simp] theorem State.set_col (F : Fld) (v : Nat) : (s.set F v).col = s.col := rfl
@[simp] theorem State.set_dbg (F : Fld) (v : Nat) : (s.set F v).dbg = s.dbg := rfl
@[simp] theorem State.set_test (F : Fld) (v : Nat) : (s.set F v).test = s.test := rfl
@[simp] theorem State.set_evOut (F : Fld) (v : Nat) : (s.set F v).evOut = s.evOut := rfl
@[simp] theorem State.set_nvq (F : Fld) (v : Nat) : (s.set F v).nvq = s.nvq := rfl
@[simp] theorem State.set_scrSeq (F : Fld) (v : Nat) : (s.set F v).scrSeq = s.scrSeq := rfl
@[simp] theorem State.set_pending (F : Fld) (v : Nat) : (s.set F v).pending = s.pending := rfl
@[simp] theorem State.byte_set (F : Fld) (v : Nat) (adr : Nat) : (s.set F v).byte adr = s.byte adr := rfl

/-! ## State.setB changes regs -/

@[simp] theorem State.setB_mem (F : Fld) (b : Bool) : (s.setB F b).mem = s.mem := rfl
@[simp] theorem State.setB_fresh (F : Fld) (b : Bool) : (s.setB F b).fresh = s.fresh := rfl
@[simp] theorem State.setB_drbg (F : Fld) (b : Bool) : (s.setB F b).drbg = s.drbg := rfl
@[simp] theorem State.setB_clk (F : Fld) (b : Bool) : (s.setB F b).clk = s.clk := rfl
@[simp] theorem State.setB_tbs (F : Fld) (b : Bool) : (s.setB F b).tbs = s.tbs := rfl
@[simp] theorem State.setB_syn (F : Fld) (b : Bool) : (s.setB F b).syn = s.syn := rfl
@[simp] theorem State.setB_parts (F : Fld) (b : Bool) : (s.setB F b).parts = s.parts := rfl
@[simp] theorem State.setB_progs (F : Fld) (b : Bool) : (s.setB F b).progs = s.progs := rfl
@[simp] theorem State.setB_eng (F : Fld) (b : Bool) : (s.setB F b).eng = s.eng := rfl
@[simp] theorem State.setB_seqs (F : Fld) (b : Bool) : (s.setB F b).seqs = s.seqs := rfl
@[simp] theorem State.setB_sv (F : Fld) (b : Bool) : (s.setB F b).sv = s.sv := rfl
@[simp] theorem State.setB_sysImg (F : Fld) (b : Bool) : (s.setB F b).sysImg = s.sysImg := rfl
@[simp] theorem State.setB_creation (F : Fld) (b : Bool) : (s.setB F b).creation = s.creation := rfl
@[simp] theorem State.setB_chain (F : Fld) (b : Bool) : (s.setB F b).chain = s.chain := rfl
@[simp] theorem State.setB_slots (F : Fld) (b : Bool) : (s.setB F b).slots = s.slots := rfl
@[simp] theorem State.setB_chb (F : Fld) (b : Bool) : (s.setB F b).chb = s.chb := rfl
@[simp] theorem State.setB_trl (F : Fld) (b : Bool) : (s.setB F b).trl = s.trl := rfl
@[simp] theorem State.setB_rxNext (F : Fld) (b : Bool) : (s.setB F b).rxNext = s.rxNext := rfl
@[simp] theorem State.setB_txs (F : Fld) (b : Bool) : (s.setB F b).txs = s.txs := rfl
@[simp] theorem State.setB_txm (F : Fld) (b : Bool) : (s.setB F b).txm = s.txm := rfl
@[simp] theorem State.setB_air (F : Fld) (b : Bool) : (s.setB F b).air = s.air := rfl
@[simp] theorem State.setB_asc (F : Fld) (b : Bool) : (s.setB F b).asc = s.asc := rfl
@[simp] theorem State.setB_mbox (F : Fld) (b : Bool) : (s.setB F b).mbox = s.mbox := rfl
@[simp] theorem State.setB_ports (F : Fld) (b : Bool) : (s.setB F b).ports = s.ports := rfl
@[simp] theorem State.setB_uart (F : Fld) (b : Bool) : (s.setB F b).uart = s.uart := rfl
@[simp] theorem State.setB_pwr (F : Fld) (b : Bool) : (s.setB F b).pwr = s.pwr := rfl
@[simp] theorem State.setB_rx (F : Fld) (b : Bool) : (s.setB F b).rx = s.rx := rfl
@[simp] theorem State.setB_key (F : Fld) (b : Bool) : (s.setB F b).key = s.key := rfl
@[simp] theorem State.setB_crcs (F : Fld) (b : Bool) : (s.setB F b).crcs = s.crcs := rfl
@[simp] theorem State.setB_p0new (F : Fld) (b : Bool) : (s.setB F b).p0new = s.p0new := rfl
@[simp] theorem State.setB_cal (F : Fld) (b : Bool) : (s.setB F b).cal = s.cal := rfl
@[simp] theorem State.setB_nv (F : Fld) (b : Bool) : (s.setB F b).nv = s.nv := rfl
@[simp] theorem State.setB_nvs (F : Fld) (b : Bool) : (s.setB F b).nvs = s.nvs := rfl
@[simp] theorem State.setB_ret (F : Fld) (b : Bool) : (s.setB F b).ret = s.ret := rfl
@[simp] theorem State.setB_tmp (F : Fld) (b : Bool) : (s.setB F b).tmp = s.tmp := rfl
@[simp] theorem State.setB_col (F : Fld) (b : Bool) : (s.setB F b).col = s.col := rfl
@[simp] theorem State.setB_dbg (F : Fld) (b : Bool) : (s.setB F b).dbg = s.dbg := rfl
@[simp] theorem State.setB_test (F : Fld) (b : Bool) : (s.setB F b).test = s.test := rfl
@[simp] theorem State.setB_evOut (F : Fld) (b : Bool) : (s.setB F b).evOut = s.evOut := rfl
@[simp] theorem State.setB_nvq (F : Fld) (b : Bool) : (s.setB F b).nvq = s.nvq := rfl
@[simp] theorem State.setB_scrSeq (F : Fld) (b : Bool) : (s.setB F b).scrSeq = s.scrSeq := rfl
@[simp] theorem State.setB_pending (F : Fld) (b : Bool) : (s.setB F b).pending = s.pending := rfl
@[simp] theorem State.byte_setB (F : Fld) (b : Bool) (adr : Nat) : (s.setB F b).byte adr = s.byte adr := rfl

/-! ## State.count changes regs -/

@[simp] theorem State.count_mem (F : Fld) (n : Nat) : (s.count F n).mem = s.mem := rfl
@[simp] theorem State.count_fresh (F : Fld) (n : Nat) : (s.count F n).fresh = s.fresh := rfl
@[simp] theorem State.count_drbg (F : Fld) (n : Nat) : (s.count F n).drbg = s.drbg := rfl
@[simp] theorem State.count_clk (F : Fld) (n : Nat) : (s.count F n).clk = s.clk := rfl
@[simp] theorem State.count_tbs (F : Fld) (n : Nat) : (s.count F n).tbs = s.tbs := rfl
@[simp] theorem State.count_syn (F : Fld) (n : Nat) : (s.count F n).syn = s.syn := rfl
@[simp] theorem State.count_parts (F : Fld) (n : Nat) : (s.count F n).parts = s.parts := rfl
@[simp] theorem State.count_progs (F : Fld) (n : Nat) : (s.count F n).progs = s.progs := rfl
@[simp] theorem State.count_eng (F : Fld) (n : Nat) : (s.count F n).eng = s.eng := rfl
@[simp] theorem State.count_seqs (F : Fld) (n : Nat) : (s.count F n).seqs = s.seqs := rfl
@[simp] theorem State.count_sv (F : Fld) (n : Nat) : (s.count F n).sv = s.sv := rfl
@[simp] theorem State.count_sysImg (F : Fld) (n : Nat) : (s.count F n).sysImg = s.sysImg := rfl
@[simp] theorem State.count_creation (F : Fld) (n : Nat) : (s.count F n).creation = s.creation := rfl
@[simp] theorem State.count_chain (F : Fld) (n : Nat) : (s.count F n).chain = s.chain := rfl
@[simp] theorem State.count_slots (F : Fld) (n : Nat) : (s.count F n).slots = s.slots := rfl
@[simp] theorem State.count_chb (F : Fld) (n : Nat) : (s.count F n).chb = s.chb := rfl
@[simp] theorem State.count_trl (F : Fld) (n : Nat) : (s.count F n).trl = s.trl := rfl
@[simp] theorem State.count_rxNext (F : Fld) (n : Nat) : (s.count F n).rxNext = s.rxNext := rfl
@[simp] theorem State.count_txs (F : Fld) (n : Nat) : (s.count F n).txs = s.txs := rfl
@[simp] theorem State.count_txm (F : Fld) (n : Nat) : (s.count F n).txm = s.txm := rfl
@[simp] theorem State.count_air (F : Fld) (n : Nat) : (s.count F n).air = s.air := rfl
@[simp] theorem State.count_asc (F : Fld) (n : Nat) : (s.count F n).asc = s.asc := rfl
@[simp] theorem State.count_mbox (F : Fld) (n : Nat) : (s.count F n).mbox = s.mbox := rfl
@[simp] theorem State.count_ports (F : Fld) (n : Nat) : (s.count F n).ports = s.ports := rfl
@[simp] theorem State.count_uart (F : Fld) (n : Nat) : (s.count F n).uart = s.uart := rfl
@[simp] theorem State.count_pwr (F : Fld) (n : Nat) : (s.count F n).pwr = s.pwr := rfl
@[simp] theorem State.count_rx (F : Fld) (n : Nat) : (s.count F n).rx = s.rx := rfl
@[simp] theorem State.count_key (F : Fld) (n : Nat) : (s.count F n).key = s.key := rfl
@[simp] theorem State.count_crcs (F : Fld) (n : Nat) : (s.count F n).crcs = s.crcs := rfl
@[simp] theorem State.count_p0new (F : Fld) (n : Nat) : (s.count F n).p0new = s.p0new := rfl
@[simp] theorem State.count_cal (F : Fld) (n : Nat) : (s.count F n).cal = s.cal := rfl
@[simp] theorem State.count_nv (F : Fld) (n : Nat) : (s.count F n).nv = s.nv := rfl
@[simp] theorem State.count_nvs (F : Fld) (n : Nat) : (s.count F n).nvs = s.nvs := rfl
@[simp] theorem State.count_ret (F : Fld) (n : Nat) : (s.count F n).ret = s.ret := rfl
@[simp] theorem State.count_tmp (F : Fld) (n : Nat) : (s.count F n).tmp = s.tmp := rfl
@[simp] theorem State.count_col (F : Fld) (n : Nat) : (s.count F n).col = s.col := rfl
@[simp] theorem State.count_dbg (F : Fld) (n : Nat) : (s.count F n).dbg = s.dbg := rfl
@[simp] theorem State.count_test (F : Fld) (n : Nat) : (s.count F n).test = s.test := rfl
@[simp] theorem State.count_evOut (F : Fld) (n : Nat) : (s.count F n).evOut = s.evOut := rfl
@[simp] theorem State.count_nvq (F : Fld) (n : Nat) : (s.count F n).nvq = s.nvq := rfl
@[simp] theorem State.count_scrSeq (F : Fld) (n : Nat) : (s.count F n).scrSeq = s.scrSeq := rfl
@[simp] theorem State.count_pending (F : Fld) (n : Nat) : (s.count F n).pending = s.pending := rfl
@[simp] theorem State.byte_count (F : Fld) (n : Nat) (adr : Nat) : (s.count F n).byte adr = s.byte adr := rfl

/-! ## State.setByte changes mem -/

@[simp] theorem State.setByte_regs (a : Nat) (b : Byte) : (s.setByte a b).regs = s.regs := rfl
@[simp] theorem State.setByte_fresh (a : Nat) (b : Byte) : (s.setByte a b).fresh = s.fresh := rfl
@[simp] theorem State.setByte_drbg (a : Nat) (b : Byte) : (s.setByte a b).drbg = s.drbg := rfl
@[simp] theorem State.setByte_clk (a : Nat) (b : Byte) : (s.setByte a b).clk = s.clk := rfl
@[simp] theorem State.setByte_tbs (a : Nat) (b : Byte) : (s.setByte a b).tbs = s.tbs := rfl
@[simp] theorem State.setByte_syn (a : Nat) (b : Byte) : (s.setByte a b).syn = s.syn := rfl
@[simp] theorem State.setByte_parts (a : Nat) (b : Byte) : (s.setByte a b).parts = s.parts := rfl
@[simp] theorem State.setByte_progs (a : Nat) (b : Byte) : (s.setByte a b).progs = s.progs := rfl
@[simp] theorem State.setByte_eng (a : Nat) (b : Byte) : (s.setByte a b).eng = s.eng := rfl
@[simp] theorem State.setByte_seqs (a : Nat) (b : Byte) : (s.setByte a b).seqs = s.seqs := rfl
@[simp] theorem State.setByte_sv (a : Nat) (b : Byte) : (s.setByte a b).sv = s.sv := rfl
@[simp] theorem State.setByte_sysImg (a : Nat) (b : Byte) : (s.setByte a b).sysImg = s.sysImg := rfl
@[simp] theorem State.setByte_creation (a : Nat) (b : Byte) : (s.setByte a b).creation = s.creation := rfl
@[simp] theorem State.setByte_chain (a : Nat) (b : Byte) : (s.setByte a b).chain = s.chain := rfl
@[simp] theorem State.setByte_slots (a : Nat) (b : Byte) : (s.setByte a b).slots = s.slots := rfl
@[simp] theorem State.setByte_chb (a : Nat) (b : Byte) : (s.setByte a b).chb = s.chb := rfl
@[simp] theorem State.setByte_trl (a : Nat) (b : Byte) : (s.setByte a b).trl = s.trl := rfl
@[simp] theorem State.setByte_rxNext (a : Nat) (b : Byte) : (s.setByte a b).rxNext = s.rxNext := rfl
@[simp] theorem State.setByte_txs (a : Nat) (b : Byte) : (s.setByte a b).txs = s.txs := rfl
@[simp] theorem State.setByte_txm (a : Nat) (b : Byte) : (s.setByte a b).txm = s.txm := rfl
@[simp] theorem State.setByte_air (a : Nat) (b : Byte) : (s.setByte a b).air = s.air := rfl
@[simp] theorem State.setByte_asc (a : Nat) (b : Byte) : (s.setByte a b).asc = s.asc := rfl
@[simp] theorem State.setByte_mbox (a : Nat) (b : Byte) : (s.setByte a b).mbox = s.mbox := rfl
@[simp] theorem State.setByte_ports (a : Nat) (b : Byte) : (s.setByte a b).ports = s.ports := rfl
@[simp] theorem State.setByte_uart (a : Nat) (b : Byte) : (s.setByte a b).uart = s.uart := rfl
@[simp] theorem State.setByte_pwr (a : Nat) (b : Byte) : (s.setByte a b).pwr = s.pwr := rfl
@[simp] theorem State.setByte_rx (a : Nat) (b : Byte) : (s.setByte a b).rx = s.rx := rfl
@[simp] theorem State.setByte_key (a : Nat) (b : Byte) : (s.setByte a b).key = s.key := rfl
@[simp] theorem State.setByte_crcs (a : Nat) (b : Byte) : (s.setByte a b).crcs = s.crcs := rfl
@[simp] theorem State.setByte_p0new (a : Nat) (b : Byte) : (s.setByte a b).p0new = s.p0new := rfl
@[simp] theorem State.setByte_cal (a : Nat) (b : Byte) : (s.setByte a b).cal = s.cal := rfl
@[simp] theorem State.setByte_nv (a : Nat) (b : Byte) : (s.setByte a b).nv = s.nv := rfl
@[simp] theorem State.setByte_nvs (a : Nat) (b : Byte) : (s.setByte a b).nvs = s.nvs := rfl
@[simp] theorem State.setByte_ret (a : Nat) (b : Byte) : (s.setByte a b).ret = s.ret := rfl
@[simp] theorem State.setByte_tmp (a : Nat) (b : Byte) : (s.setByte a b).tmp = s.tmp := rfl
@[simp] theorem State.setByte_col (a : Nat) (b : Byte) : (s.setByte a b).col = s.col := rfl
@[simp] theorem State.setByte_dbg (a : Nat) (b : Byte) : (s.setByte a b).dbg = s.dbg := rfl
@[simp] theorem State.setByte_test (a : Nat) (b : Byte) : (s.setByte a b).test = s.test := rfl
@[simp] theorem State.setByte_evOut (a : Nat) (b : Byte) : (s.setByte a b).evOut = s.evOut := rfl
@[simp] theorem State.setByte_nvq (a : Nat) (b : Byte) : (s.setByte a b).nvq = s.nvq := rfl
@[simp] theorem State.setByte_scrSeq (a : Nat) (b : Byte) : (s.setByte a b).scrSeq = s.scrSeq := rfl
@[simp] theorem State.setByte_pending (a : Nat) (b : Byte) : (s.setByte a b).pending = s.pending := rfl
@[simp] theorem State.get_setByte (a : Nat) (b : Byte) (G : Fld) : (s.setByte a b).get G = s.get G := rfl
@[simp] theorem State.flag_setByte (a : Nat) (b : Byte) (G : Fld) : (s.setByte a b).flag G = s.flag G := rfl

/-! ## State.zero changes mem -/

@[simp] theorem State.zero_regs (a n : Nat) : (s.zero a n).regs = s.regs := rfl
@[simp] theorem State.zero_fresh (a n : Nat) : (s.zero a n).fresh = s.fresh := rfl
@[simp] theorem State.zero_drbg (a n : Nat) : (s.zero a n).drbg = s.drbg := rfl
@[simp] theorem State.zero_clk (a n : Nat) : (s.zero a n).clk = s.clk := rfl
@[simp] theorem State.zero_tbs (a n : Nat) : (s.zero a n).tbs = s.tbs := rfl
@[simp] theorem State.zero_syn (a n : Nat) : (s.zero a n).syn = s.syn := rfl
@[simp] theorem State.zero_parts (a n : Nat) : (s.zero a n).parts = s.parts := rfl
@[simp] theorem State.zero_progs (a n : Nat) : (s.zero a n).progs = s.progs := rfl
@[simp] theorem State.zero_eng (a n : Nat) : (s.zero a n).eng = s.eng := rfl
@[simp] theorem State.zero_seqs (a n : Nat) : (s.zero a n).seqs = s.seqs := rfl
@[simp] theorem State.zero_sv (a n : Nat) : (s.zero a n).sv = s.sv := rfl
@[simp] theorem State.zero_sysImg (a n : Nat) : (s.zero a n).sysImg = s.sysImg := rfl
@[simp] theorem State.zero_creation (a n : Nat) : (s.zero a n).creation = s.creation := rfl
@[simp] theorem State.zero_chain (a n : Nat) : (s.zero a n).chain = s.chain := rfl
@[simp] theorem State.zero_slots (a n : Nat) : (s.zero a n).slots = s.slots := rfl
@[simp] theorem State.zero_chb (a n : Nat) : (s.zero a n).chb = s.chb := rfl
@[simp] theorem State.zero_trl (a n : Nat) : (s.zero a n).trl = s.trl := rfl
@[simp] theorem State.zero_rxNext (a n : Nat) : (s.zero a n).rxNext = s.rxNext := rfl
@[simp] theorem State.zero_txs (a n : Nat) : (s.zero a n).txs = s.txs := rfl
@[simp] theorem State.zero_txm (a n : Nat) : (s.zero a n).txm = s.txm := rfl
@[simp] theorem State.zero_air (a n : Nat) : (s.zero a n).air = s.air := rfl
@[simp] theorem State.zero_asc (a n : Nat) : (s.zero a n).asc = s.asc := rfl
@[simp] theorem State.zero_mbox (a n : Nat) : (s.zero a n).mbox = s.mbox := rfl
@[simp] theorem State.zero_ports (a n : Nat) : (s.zero a n).ports = s.ports := rfl
@[simp] theorem State.zero_uart (a n : Nat) : (s.zero a n).uart = s.uart := rfl
@[simp] theorem State.zero_pwr (a n : Nat) : (s.zero a n).pwr = s.pwr := rfl
@[simp] theorem State.zero_rx (a n : Nat) : (s.zero a n).rx = s.rx := rfl
@[simp] theorem State.zero_key (a n : Nat) : (s.zero a n).key = s.key := rfl
@[simp] theorem State.zero_crcs (a n : Nat) : (s.zero a n).crcs = s.crcs := rfl
@[simp] theorem State.zero_p0new (a n : Nat) : (s.zero a n).p0new = s.p0new := rfl
@[simp] theorem State.zero_cal (a n : Nat) : (s.zero a n).cal = s.cal := rfl
@[simp] theorem State.zero_nv (a n : Nat) : (s.zero a n).nv = s.nv := rfl
@[simp] theorem State.zero_nvs (a n : Nat) : (s.zero a n).nvs = s.nvs := rfl
@[simp] theorem State.zero_ret (a n : Nat) : (s.zero a n).ret = s.ret := rfl
@[simp] theorem State.zero_tmp (a n : Nat) : (s.zero a n).tmp = s.tmp := rfl
@[simp] theorem State.zero_col (a n : Nat) : (s.zero a n).col = s.col := rfl
@[simp] theorem State.zero_dbg (a n : Nat) : (s.zero a n).dbg = s.dbg := rfl
@[simp] theorem State.zero_test (a n : Nat) : (s.zero a n).test = s.test := rfl
@[simp] theorem State.zero_evOut (a n : Nat) : (s.zero a n).evOut = s.evOut := rfl
@[simp] theorem State.zero_nvq (a n : Nat) : (s.zero a n).nvq = s.nvq := rfl
@[simp] theorem State.zero_scrSeq (a n : Nat) : (s.zero a n).scrSeq = s.scrSeq := rfl
@[simp] theorem State.zero_pending (a n : Nat) : (s.zero a n).pending = s.pending := rfl
@[simp] theorem State.get_zero (a n : Nat) (G : Fld) : (s.zero a n).get G = s.get G := rfl
@[simp] theorem State.flag_zero (a n : Nat) (G : Fld) : (s.zero a n).flag G = s.flag G := rfl

/-! ## State.updPart changes parts -/

@[simp] theorem State.updPart_regs (p : Nat) (f : Part → Part) : (s.updPart p f).regs = s.regs := rfl
@[simp] theorem State.updPart_mem (p : Nat) (f : Part → Part) : (s.updPart p f).mem = s.mem := rfl
@[simp] theorem State.updPart_fresh (p : Nat) (f : Part → Part) : (s.updPart p f).fresh = s.fresh := rfl
@[simp] theorem State.updPart_drbg (p : Nat) (f : Part → Part) : (s.updPart p f).drbg = s.drbg := rfl
@[simp] theorem State.updPart_clk (p : Nat) (f : Part → Part) : (s.updPart p f).clk = s.clk := rfl
@[simp] theorem State.updPart_tbs (p : Nat) (f : Part → Part) : (s.updPart p f).tbs = s.tbs := rfl
@[simp] theorem State.updPart_syn (p : Nat) (f : Part → Part) : (s.updPart p f).syn = s.syn := rfl
@[simp] theorem State.updPart_progs (p : Nat) (f : Part → Part) : (s.updPart p f).progs = s.progs := rfl
@[simp] theorem State.updPart_eng (p : Nat) (f : Part → Part) : (s.updPart p f).eng = s.eng := rfl
@[simp] theorem State.updPart_seqs (p : Nat) (f : Part → Part) : (s.updPart p f).seqs = s.seqs := rfl
@[simp] theorem State.updPart_sv (p : Nat) (f : Part → Part) : (s.updPart p f).sv = s.sv := rfl
@[simp] theorem State.updPart_sysImg (p : Nat) (f : Part → Part) : (s.updPart p f).sysImg = s.sysImg := rfl
@[simp] theorem State.updPart_creation (p : Nat) (f : Part → Part) : (s.updPart p f).creation = s.creation := rfl
@[simp] theorem State.updPart_chain (p : Nat) (f : Part → Part) : (s.updPart p f).chain = s.chain := rfl
@[simp] theorem State.updPart_slots (p : Nat) (f : Part → Part) : (s.updPart p f).slots = s.slots := rfl
@[simp] theorem State.updPart_chb (p : Nat) (f : Part → Part) : (s.updPart p f).chb = s.chb := rfl
@[simp] theorem State.updPart_trl (p : Nat) (f : Part → Part) : (s.updPart p f).trl = s.trl := rfl
@[simp] theorem State.updPart_rxNext (p : Nat) (f : Part → Part) : (s.updPart p f).rxNext = s.rxNext := rfl
@[simp] theorem State.updPart_txs (p : Nat) (f : Part → Part) : (s.updPart p f).txs = s.txs := rfl
@[simp] theorem State.updPart_txm (p : Nat) (f : Part → Part) : (s.updPart p f).txm = s.txm := rfl
@[simp] theorem State.updPart_air (p : Nat) (f : Part → Part) : (s.updPart p f).air = s.air := rfl
@[simp] theorem State.updPart_asc (p : Nat) (f : Part → Part) : (s.updPart p f).asc = s.asc := rfl
@[simp] theorem State.updPart_mbox (p : Nat) (f : Part → Part) : (s.updPart p f).mbox = s.mbox := rfl
@[simp] theorem State.updPart_ports (p : Nat) (f : Part → Part) : (s.updPart p f).ports = s.ports := rfl
@[simp] theorem State.updPart_uart (p : Nat) (f : Part → Part) : (s.updPart p f).uart = s.uart := rfl
@[simp] theorem State.updPart_pwr (p : Nat) (f : Part → Part) : (s.updPart p f).pwr = s.pwr := rfl
@[simp] theorem State.updPart_rx (p : Nat) (f : Part → Part) : (s.updPart p f).rx = s.rx := rfl
@[simp] theorem State.updPart_key (p : Nat) (f : Part → Part) : (s.updPart p f).key = s.key := rfl
@[simp] theorem State.updPart_crcs (p : Nat) (f : Part → Part) : (s.updPart p f).crcs = s.crcs := rfl
@[simp] theorem State.updPart_p0new (p : Nat) (f : Part → Part) : (s.updPart p f).p0new = s.p0new := rfl
@[simp] theorem State.updPart_cal (p : Nat) (f : Part → Part) : (s.updPart p f).cal = s.cal := rfl
@[simp] theorem State.updPart_nv (p : Nat) (f : Part → Part) : (s.updPart p f).nv = s.nv := rfl
@[simp] theorem State.updPart_nvs (p : Nat) (f : Part → Part) : (s.updPart p f).nvs = s.nvs := rfl
@[simp] theorem State.updPart_ret (p : Nat) (f : Part → Part) : (s.updPart p f).ret = s.ret := rfl
@[simp] theorem State.updPart_tmp (p : Nat) (f : Part → Part) : (s.updPart p f).tmp = s.tmp := rfl
@[simp] theorem State.updPart_col (p : Nat) (f : Part → Part) : (s.updPart p f).col = s.col := rfl
@[simp] theorem State.updPart_dbg (p : Nat) (f : Part → Part) : (s.updPart p f).dbg = s.dbg := rfl
@[simp] theorem State.updPart_test (p : Nat) (f : Part → Part) : (s.updPart p f).test = s.test := rfl
@[simp] theorem State.updPart_evOut (p : Nat) (f : Part → Part) : (s.updPart p f).evOut = s.evOut := rfl
@[simp] theorem State.updPart_nvq (p : Nat) (f : Part → Part) : (s.updPart p f).nvq = s.nvq := rfl
@[simp] theorem State.updPart_scrSeq (p : Nat) (f : Part → Part) : (s.updPart p f).scrSeq = s.scrSeq := rfl
@[simp] theorem State.updPart_pending (p : Nat) (f : Part → Part) : (s.updPart p f).pending = s.pending := rfl
@[simp] theorem State.get_updPart (p : Nat) (f : Part → Part) (G : Fld) : (s.updPart p f).get G = s.get G := rfl
@[simp] theorem State.flag_updPart (p : Nat) (f : Part → Part) (G : Fld) : (s.updPart p f).flag G = s.flag G := rfl
@[simp] theorem State.byte_updPart (p : Nat) (f : Part → Part) (adr : Nat) : (s.updPart p f).byte adr = s.byte adr := rfl

/-! ## State.updProg changes progs -/

@[simp] theorem State.updProg_regs (k : Nat) (f : Prog → Prog) : (s.updProg k f).regs = s.regs := rfl
@[simp] theorem State.updProg_mem (k : Nat) (f : Prog → Prog) : (s.updProg k f).mem = s.mem := rfl
@[simp] theorem State.updProg_fresh (k : Nat) (f : Prog → Prog) : (s.updProg k f).fresh = s.fresh := rfl
@[simp] theorem State.updProg_drbg (k : Nat) (f : Prog → Prog) : (s.updProg k f).drbg = s.drbg := rfl
@[simp] theorem State.updProg_clk (k : Nat) (f : Prog → Prog) : (s.updProg k f).clk = s.clk := rfl
@[simp] theorem State.updProg_tbs (k : Nat) (f : Prog → Prog) : (s.updProg k f).tbs = s.tbs := rfl
@[simp] theorem State.updProg_syn (k : Nat) (f : Prog → Prog) : (s.updProg k f).syn = s.syn := rfl
@[simp] theorem State.updProg_parts (k : Nat) (f : Prog → Prog) : (s.updProg k f).parts = s.parts := rfl
@[simp] theorem State.updProg_eng (k : Nat) (f : Prog → Prog) : (s.updProg k f).eng = s.eng := rfl
@[simp] theorem State.updProg_seqs (k : Nat) (f : Prog → Prog) : (s.updProg k f).seqs = s.seqs := rfl
@[simp] theorem State.updProg_sv (k : Nat) (f : Prog → Prog) : (s.updProg k f).sv = s.sv := rfl
@[simp] theorem State.updProg_sysImg (k : Nat) (f : Prog → Prog) : (s.updProg k f).sysImg = s.sysImg := rfl
@[simp] theorem State.updProg_creation (k : Nat) (f : Prog → Prog) : (s.updProg k f).creation = s.creation := rfl
@[simp] theorem State.updProg_chain (k : Nat) (f : Prog → Prog) : (s.updProg k f).chain = s.chain := rfl
@[simp] theorem State.updProg_slots (k : Nat) (f : Prog → Prog) : (s.updProg k f).slots = s.slots := rfl
@[simp] theorem State.updProg_chb (k : Nat) (f : Prog → Prog) : (s.updProg k f).chb = s.chb := rfl
@[simp] theorem State.updProg_trl (k : Nat) (f : Prog → Prog) : (s.updProg k f).trl = s.trl := rfl
@[simp] theorem State.updProg_rxNext (k : Nat) (f : Prog → Prog) : (s.updProg k f).rxNext = s.rxNext := rfl
@[simp] theorem State.updProg_txs (k : Nat) (f : Prog → Prog) : (s.updProg k f).txs = s.txs := rfl
@[simp] theorem State.updProg_txm (k : Nat) (f : Prog → Prog) : (s.updProg k f).txm = s.txm := rfl
@[simp] theorem State.updProg_air (k : Nat) (f : Prog → Prog) : (s.updProg k f).air = s.air := rfl
@[simp] theorem State.updProg_asc (k : Nat) (f : Prog → Prog) : (s.updProg k f).asc = s.asc := rfl
@[simp] theorem State.updProg_mbox (k : Nat) (f : Prog → Prog) : (s.updProg k f).mbox = s.mbox := rfl
@[simp] theorem State.updProg_ports (k : Nat) (f : Prog → Prog) : (s.updProg k f).ports = s.ports := rfl
@[simp] theorem State.updProg_uart (k : Nat) (f : Prog → Prog) : (s.updProg k f).uart = s.uart := rfl
@[simp] theorem State.updProg_pwr (k : Nat) (f : Prog → Prog) : (s.updProg k f).pwr = s.pwr := rfl
@[simp] theorem State.updProg_rx (k : Nat) (f : Prog → Prog) : (s.updProg k f).rx = s.rx := rfl
@[simp] theorem State.updProg_key (k : Nat) (f : Prog → Prog) : (s.updProg k f).key = s.key := rfl
@[simp] theorem State.updProg_crcs (k : Nat) (f : Prog → Prog) : (s.updProg k f).crcs = s.crcs := rfl
@[simp] theorem State.updProg_p0new (k : Nat) (f : Prog → Prog) : (s.updProg k f).p0new = s.p0new := rfl
@[simp] theorem State.updProg_cal (k : Nat) (f : Prog → Prog) : (s.updProg k f).cal = s.cal := rfl
@[simp] theorem State.updProg_nv (k : Nat) (f : Prog → Prog) : (s.updProg k f).nv = s.nv := rfl
@[simp] theorem State.updProg_nvs (k : Nat) (f : Prog → Prog) : (s.updProg k f).nvs = s.nvs := rfl
@[simp] theorem State.updProg_ret (k : Nat) (f : Prog → Prog) : (s.updProg k f).ret = s.ret := rfl
@[simp] theorem State.updProg_tmp (k : Nat) (f : Prog → Prog) : (s.updProg k f).tmp = s.tmp := rfl
@[simp] theorem State.updProg_col (k : Nat) (f : Prog → Prog) : (s.updProg k f).col = s.col := rfl
@[simp] theorem State.updProg_dbg (k : Nat) (f : Prog → Prog) : (s.updProg k f).dbg = s.dbg := rfl
@[simp] theorem State.updProg_test (k : Nat) (f : Prog → Prog) : (s.updProg k f).test = s.test := rfl
@[simp] theorem State.updProg_evOut (k : Nat) (f : Prog → Prog) : (s.updProg k f).evOut = s.evOut := rfl
@[simp] theorem State.updProg_nvq (k : Nat) (f : Prog → Prog) : (s.updProg k f).nvq = s.nvq := rfl
@[simp] theorem State.updProg_scrSeq (k : Nat) (f : Prog → Prog) : (s.updProg k f).scrSeq = s.scrSeq := rfl
@[simp] theorem State.updProg_pending (k : Nat) (f : Prog → Prog) : (s.updProg k f).pending = s.pending := rfl
@[simp] theorem State.get_updProg (k : Nat) (f : Prog → Prog) (G : Fld) : (s.updProg k f).get G = s.get G := rfl
@[simp] theorem State.flag_updProg (k : Nat) (f : Prog → Prog) (G : Fld) : (s.updProg k f).flag G = s.flag G := rfl
@[simp] theorem State.byte_updProg (k : Nat) (f : Prog → Prog) (adr : Nat) : (s.updProg k f).byte adr = s.byte adr := rfl

/-! ## State.updSynth changes syn -/

@[simp] theorem State.updSynth_regs (x : Nat) (f : SynSt → SynSt) : (s.updSynth x f).regs = s.regs := rfl
@[simp] theorem State.updSynth_mem (x : Nat) (f : SynSt → SynSt) : (s.updSynth x f).mem = s.mem := rfl
@[simp] theorem State.updSynth_fresh (x : Nat) (f : SynSt → SynSt) : (s.updSynth x f).fresh = s.fresh := rfl
@[simp] theorem State.updSynth_drbg (x : Nat) (f : SynSt → SynSt) : (s.updSynth x f).drbg = s.drbg := rfl
@[simp] theorem State.updSynth_clk (x : Nat) (f : SynSt → SynSt) : (s.updSynth x f).clk = s.clk := rfl
@[simp] theorem State.updSynth_tbs (x : Nat) (f : SynSt → SynSt) : (s.updSynth x f).tbs = s.tbs := rfl
@[simp] theorem State.updSynth_parts (x : Nat) (f : SynSt → SynSt) : (s.updSynth x f).parts = s.parts := rfl
@[simp] theorem State.updSynth_progs (x : Nat) (f : SynSt → SynSt) : (s.updSynth x f).progs = s.progs := rfl
@[simp] theorem State.updSynth_eng (x : Nat) (f : SynSt → SynSt) : (s.updSynth x f).eng = s.eng := rfl
@[simp] theorem State.updSynth_seqs (x : Nat) (f : SynSt → SynSt) : (s.updSynth x f).seqs = s.seqs := rfl
@[simp] theorem State.updSynth_sv (x : Nat) (f : SynSt → SynSt) : (s.updSynth x f).sv = s.sv := rfl
@[simp] theorem State.updSynth_sysImg (x : Nat) (f : SynSt → SynSt) : (s.updSynth x f).sysImg = s.sysImg := rfl
@[simp] theorem State.updSynth_creation (x : Nat) (f : SynSt → SynSt) : (s.updSynth x f).creation = s.creation := rfl
@[simp] theorem State.updSynth_chain (x : Nat) (f : SynSt → SynSt) : (s.updSynth x f).chain = s.chain := rfl
@[simp] theorem State.updSynth_slots (x : Nat) (f : SynSt → SynSt) : (s.updSynth x f).slots = s.slots := rfl
@[simp] theorem State.updSynth_chb (x : Nat) (f : SynSt → SynSt) : (s.updSynth x f).chb = s.chb := rfl
@[simp] theorem State.updSynth_trl (x : Nat) (f : SynSt → SynSt) : (s.updSynth x f).trl = s.trl := rfl
@[simp] theorem State.updSynth_rxNext (x : Nat) (f : SynSt → SynSt) : (s.updSynth x f).rxNext = s.rxNext := rfl
@[simp] theorem State.updSynth_txs (x : Nat) (f : SynSt → SynSt) : (s.updSynth x f).txs = s.txs := rfl
@[simp] theorem State.updSynth_txm (x : Nat) (f : SynSt → SynSt) : (s.updSynth x f).txm = s.txm := rfl
@[simp] theorem State.updSynth_air (x : Nat) (f : SynSt → SynSt) : (s.updSynth x f).air = s.air := rfl
@[simp] theorem State.updSynth_asc (x : Nat) (f : SynSt → SynSt) : (s.updSynth x f).asc = s.asc := rfl
@[simp] theorem State.updSynth_mbox (x : Nat) (f : SynSt → SynSt) : (s.updSynth x f).mbox = s.mbox := rfl
@[simp] theorem State.updSynth_ports (x : Nat) (f : SynSt → SynSt) : (s.updSynth x f).ports = s.ports := rfl
@[simp] theorem State.updSynth_uart (x : Nat) (f : SynSt → SynSt) : (s.updSynth x f).uart = s.uart := rfl
@[simp] theorem State.updSynth_pwr (x : Nat) (f : SynSt → SynSt) : (s.updSynth x f).pwr = s.pwr := rfl
@[simp] theorem State.updSynth_rx (x : Nat) (f : SynSt → SynSt) : (s.updSynth x f).rx = s.rx := rfl
@[simp] theorem State.updSynth_key (x : Nat) (f : SynSt → SynSt) : (s.updSynth x f).key = s.key := rfl
@[simp] theorem State.updSynth_crcs (x : Nat) (f : SynSt → SynSt) : (s.updSynth x f).crcs = s.crcs := rfl
@[simp] theorem State.updSynth_p0new (x : Nat) (f : SynSt → SynSt) : (s.updSynth x f).p0new = s.p0new := rfl
@[simp] theorem State.updSynth_cal (x : Nat) (f : SynSt → SynSt) : (s.updSynth x f).cal = s.cal := rfl
@[simp] theorem State.updSynth_nv (x : Nat) (f : SynSt → SynSt) : (s.updSynth x f).nv = s.nv := rfl
@[simp] theorem State.updSynth_nvs (x : Nat) (f : SynSt → SynSt) : (s.updSynth x f).nvs = s.nvs := rfl
@[simp] theorem State.updSynth_ret (x : Nat) (f : SynSt → SynSt) : (s.updSynth x f).ret = s.ret := rfl
@[simp] theorem State.updSynth_tmp (x : Nat) (f : SynSt → SynSt) : (s.updSynth x f).tmp = s.tmp := rfl
@[simp] theorem State.updSynth_col (x : Nat) (f : SynSt → SynSt) : (s.updSynth x f).col = s.col := rfl
@[simp] theorem State.updSynth_dbg (x : Nat) (f : SynSt → SynSt) : (s.updSynth x f).dbg = s.dbg := rfl
@[simp] theorem State.updSynth_test (x : Nat) (f : SynSt → SynSt) : (s.updSynth x f).test = s.test := rfl
@[simp] theorem State.updSynth_evOut (x : Nat) (f : SynSt → SynSt) : (s.updSynth x f).evOut = s.evOut := rfl
@[simp] theorem State.updSynth_nvq (x : Nat) (f : SynSt → SynSt) : (s.updSynth x f).nvq = s.nvq := rfl
@[simp] theorem State.updSynth_scrSeq (x : Nat) (f : SynSt → SynSt) : (s.updSynth x f).scrSeq = s.scrSeq := rfl
@[simp] theorem State.updSynth_pending (x : Nat) (f : SynSt → SynSt) : (s.updSynth x f).pending = s.pending := rfl
@[simp] theorem State.get_updSynth (x : Nat) (f : SynSt → SynSt) (G : Fld) : (s.updSynth x f).get G = s.get G := rfl
@[simp] theorem State.flag_updSynth (x : Nat) (f : SynSt → SynSt) (G : Fld) : (s.updSynth x f).flag G = s.flag G := rfl
@[simp] theorem State.byte_updSynth (x : Nat) (f : SynSt → SynSt) (adr : Nat) : (s.updSynth x f).byte adr = s.byte adr := rfl

/-! ## State.updEngine changes eng -/

@[simp] theorem State.updEngine_regs (e : Nat) (f : EngSt → EngSt) : (s.updEngine e f).regs = s.regs := rfl
@[simp] theorem State.updEngine_mem (e : Nat) (f : EngSt → EngSt) : (s.updEngine e f).mem = s.mem := rfl
@[simp] theorem State.updEngine_fresh (e : Nat) (f : EngSt → EngSt) : (s.updEngine e f).fresh = s.fresh := rfl
@[simp] theorem State.updEngine_drbg (e : Nat) (f : EngSt → EngSt) : (s.updEngine e f).drbg = s.drbg := rfl
@[simp] theorem State.updEngine_clk (e : Nat) (f : EngSt → EngSt) : (s.updEngine e f).clk = s.clk := rfl
@[simp] theorem State.updEngine_tbs (e : Nat) (f : EngSt → EngSt) : (s.updEngine e f).tbs = s.tbs := rfl
@[simp] theorem State.updEngine_syn (e : Nat) (f : EngSt → EngSt) : (s.updEngine e f).syn = s.syn := rfl
@[simp] theorem State.updEngine_parts (e : Nat) (f : EngSt → EngSt) : (s.updEngine e f).parts = s.parts := rfl
@[simp] theorem State.updEngine_progs (e : Nat) (f : EngSt → EngSt) : (s.updEngine e f).progs = s.progs := rfl
@[simp] theorem State.updEngine_seqs (e : Nat) (f : EngSt → EngSt) : (s.updEngine e f).seqs = s.seqs := rfl
@[simp] theorem State.updEngine_sv (e : Nat) (f : EngSt → EngSt) : (s.updEngine e f).sv = s.sv := rfl
@[simp] theorem State.updEngine_sysImg (e : Nat) (f : EngSt → EngSt) : (s.updEngine e f).sysImg = s.sysImg := rfl
@[simp] theorem State.updEngine_creation (e : Nat) (f : EngSt → EngSt) : (s.updEngine e f).creation = s.creation := rfl
@[simp] theorem State.updEngine_chain (e : Nat) (f : EngSt → EngSt) : (s.updEngine e f).chain = s.chain := rfl
@[simp] theorem State.updEngine_slots (e : Nat) (f : EngSt → EngSt) : (s.updEngine e f).slots = s.slots := rfl
@[simp] theorem State.updEngine_chb (e : Nat) (f : EngSt → EngSt) : (s.updEngine e f).chb = s.chb := rfl
@[simp] theorem State.updEngine_trl (e : Nat) (f : EngSt → EngSt) : (s.updEngine e f).trl = s.trl := rfl
@[simp] theorem State.updEngine_rxNext (e : Nat) (f : EngSt → EngSt) : (s.updEngine e f).rxNext = s.rxNext := rfl
@[simp] theorem State.updEngine_txs (e : Nat) (f : EngSt → EngSt) : (s.updEngine e f).txs = s.txs := rfl
@[simp] theorem State.updEngine_txm (e : Nat) (f : EngSt → EngSt) : (s.updEngine e f).txm = s.txm := rfl
@[simp] theorem State.updEngine_air (e : Nat) (f : EngSt → EngSt) : (s.updEngine e f).air = s.air := rfl
@[simp] theorem State.updEngine_asc (e : Nat) (f : EngSt → EngSt) : (s.updEngine e f).asc = s.asc := rfl
@[simp] theorem State.updEngine_mbox (e : Nat) (f : EngSt → EngSt) : (s.updEngine e f).mbox = s.mbox := rfl
@[simp] theorem State.updEngine_ports (e : Nat) (f : EngSt → EngSt) : (s.updEngine e f).ports = s.ports := rfl
@[simp] theorem State.updEngine_uart (e : Nat) (f : EngSt → EngSt) : (s.updEngine e f).uart = s.uart := rfl
@[simp] theorem State.updEngine_pwr (e : Nat) (f : EngSt → EngSt) : (s.updEngine e f).pwr = s.pwr := rfl
@[simp] theorem State.updEngine_rx (e : Nat) (f : EngSt → EngSt) : (s.updEngine e f).rx = s.rx := rfl
@[simp] theorem State.updEngine_key (e : Nat) (f : EngSt → EngSt) : (s.updEngine e f).key = s.key := rfl
@[simp] theorem State.updEngine_crcs (e : Nat) (f : EngSt → EngSt) : (s.updEngine e f).crcs = s.crcs := rfl
@[simp] theorem State.updEngine_p0new (e : Nat) (f : EngSt → EngSt) : (s.updEngine e f).p0new = s.p0new := rfl
@[simp] theorem State.updEngine_cal (e : Nat) (f : EngSt → EngSt) : (s.updEngine e f).cal = s.cal := rfl
@[simp] theorem State.updEngine_nv (e : Nat) (f : EngSt → EngSt) : (s.updEngine e f).nv = s.nv := rfl
@[simp] theorem State.updEngine_nvs (e : Nat) (f : EngSt → EngSt) : (s.updEngine e f).nvs = s.nvs := rfl
@[simp] theorem State.updEngine_ret (e : Nat) (f : EngSt → EngSt) : (s.updEngine e f).ret = s.ret := rfl
@[simp] theorem State.updEngine_tmp (e : Nat) (f : EngSt → EngSt) : (s.updEngine e f).tmp = s.tmp := rfl
@[simp] theorem State.updEngine_col (e : Nat) (f : EngSt → EngSt) : (s.updEngine e f).col = s.col := rfl
@[simp] theorem State.updEngine_dbg (e : Nat) (f : EngSt → EngSt) : (s.updEngine e f).dbg = s.dbg := rfl
@[simp] theorem State.updEngine_test (e : Nat) (f : EngSt → EngSt) : (s.updEngine e f).test = s.test := rfl
@[simp] theorem State.updEngine_evOut (e : Nat) (f : EngSt → EngSt) : (s.updEngine e f).evOut = s.evOut := rfl
@[simp] theorem State.updEngine_nvq (e : Nat) (f : EngSt → EngSt) : (s.updEngine e f).nvq = s.nvq := rfl
@[simp] theorem State.updEngine_scrSeq (e : Nat) (f : EngSt → EngSt) : (s.updEngine e f).scrSeq = s.scrSeq := rfl
@[simp] theorem State.updEngine_pending (e : Nat) (f : EngSt → EngSt) : (s.updEngine e f).pending = s.pending := rfl
@[simp] theorem State.get_updEngine (e : Nat) (f : EngSt → EngSt) (G : Fld) : (s.updEngine e f).get G = s.get G := rfl
@[simp] theorem State.flag_updEngine (e : Nat) (f : EngSt → EngSt) (G : Fld) : (s.updEngine e f).flag G = s.flag G := rfl
@[simp] theorem State.byte_updEngine (e : Nat) (f : EngSt → EngSt) (adr : Nat) : (s.updEngine e f).byte adr = s.byte adr := rfl

/-! ## State.updSeqr changes seqs -/

@[simp] theorem State.updSeqr_regs (x : Nat) (f : SeqSt → SeqSt) : (s.updSeqr x f).regs = s.regs := rfl
@[simp] theorem State.updSeqr_mem (x : Nat) (f : SeqSt → SeqSt) : (s.updSeqr x f).mem = s.mem := rfl
@[simp] theorem State.updSeqr_fresh (x : Nat) (f : SeqSt → SeqSt) : (s.updSeqr x f).fresh = s.fresh := rfl
@[simp] theorem State.updSeqr_drbg (x : Nat) (f : SeqSt → SeqSt) : (s.updSeqr x f).drbg = s.drbg := rfl
@[simp] theorem State.updSeqr_clk (x : Nat) (f : SeqSt → SeqSt) : (s.updSeqr x f).clk = s.clk := rfl
@[simp] theorem State.updSeqr_tbs (x : Nat) (f : SeqSt → SeqSt) : (s.updSeqr x f).tbs = s.tbs := rfl
@[simp] theorem State.updSeqr_syn (x : Nat) (f : SeqSt → SeqSt) : (s.updSeqr x f).syn = s.syn := rfl
@[simp] theorem State.updSeqr_parts (x : Nat) (f : SeqSt → SeqSt) : (s.updSeqr x f).parts = s.parts := rfl
@[simp] theorem State.updSeqr_progs (x : Nat) (f : SeqSt → SeqSt) : (s.updSeqr x f).progs = s.progs := rfl
@[simp] theorem State.updSeqr_eng (x : Nat) (f : SeqSt → SeqSt) : (s.updSeqr x f).eng = s.eng := rfl
@[simp] theorem State.updSeqr_sv (x : Nat) (f : SeqSt → SeqSt) : (s.updSeqr x f).sv = s.sv := rfl
@[simp] theorem State.updSeqr_sysImg (x : Nat) (f : SeqSt → SeqSt) : (s.updSeqr x f).sysImg = s.sysImg := rfl
@[simp] theorem State.updSeqr_creation (x : Nat) (f : SeqSt → SeqSt) : (s.updSeqr x f).creation = s.creation := rfl
@[simp] theorem State.updSeqr_chain (x : Nat) (f : SeqSt → SeqSt) : (s.updSeqr x f).chain = s.chain := rfl
@[simp] theorem State.updSeqr_slots (x : Nat) (f : SeqSt → SeqSt) : (s.updSeqr x f).slots = s.slots := rfl
@[simp] theorem State.updSeqr_chb (x : Nat) (f : SeqSt → SeqSt) : (s.updSeqr x f).chb = s.chb := rfl
@[simp] theorem State.updSeqr_trl (x : Nat) (f : SeqSt → SeqSt) : (s.updSeqr x f).trl = s.trl := rfl
@[simp] theorem State.updSeqr_rxNext (x : Nat) (f : SeqSt → SeqSt) : (s.updSeqr x f).rxNext = s.rxNext := rfl
@[simp] theorem State.updSeqr_txs (x : Nat) (f : SeqSt → SeqSt) : (s.updSeqr x f).txs = s.txs := rfl
@[simp] theorem State.updSeqr_txm (x : Nat) (f : SeqSt → SeqSt) : (s.updSeqr x f).txm = s.txm := rfl
@[simp] theorem State.updSeqr_air (x : Nat) (f : SeqSt → SeqSt) : (s.updSeqr x f).air = s.air := rfl
@[simp] theorem State.updSeqr_asc (x : Nat) (f : SeqSt → SeqSt) : (s.updSeqr x f).asc = s.asc := rfl
@[simp] theorem State.updSeqr_mbox (x : Nat) (f : SeqSt → SeqSt) : (s.updSeqr x f).mbox = s.mbox := rfl
@[simp] theorem State.updSeqr_ports (x : Nat) (f : SeqSt → SeqSt) : (s.updSeqr x f).ports = s.ports := rfl
@[simp] theorem State.updSeqr_uart (x : Nat) (f : SeqSt → SeqSt) : (s.updSeqr x f).uart = s.uart := rfl
@[simp] theorem State.updSeqr_pwr (x : Nat) (f : SeqSt → SeqSt) : (s.updSeqr x f).pwr = s.pwr := rfl
@[simp] theorem State.updSeqr_rx (x : Nat) (f : SeqSt → SeqSt) : (s.updSeqr x f).rx = s.rx := rfl
@[simp] theorem State.updSeqr_key (x : Nat) (f : SeqSt → SeqSt) : (s.updSeqr x f).key = s.key := rfl
@[simp] theorem State.updSeqr_crcs (x : Nat) (f : SeqSt → SeqSt) : (s.updSeqr x f).crcs = s.crcs := rfl
@[simp] theorem State.updSeqr_p0new (x : Nat) (f : SeqSt → SeqSt) : (s.updSeqr x f).p0new = s.p0new := rfl
@[simp] theorem State.updSeqr_cal (x : Nat) (f : SeqSt → SeqSt) : (s.updSeqr x f).cal = s.cal := rfl
@[simp] theorem State.updSeqr_nv (x : Nat) (f : SeqSt → SeqSt) : (s.updSeqr x f).nv = s.nv := rfl
@[simp] theorem State.updSeqr_nvs (x : Nat) (f : SeqSt → SeqSt) : (s.updSeqr x f).nvs = s.nvs := rfl
@[simp] theorem State.updSeqr_ret (x : Nat) (f : SeqSt → SeqSt) : (s.updSeqr x f).ret = s.ret := rfl
@[simp] theorem State.updSeqr_tmp (x : Nat) (f : SeqSt → SeqSt) : (s.updSeqr x f).tmp = s.tmp := rfl
@[simp] theorem State.updSeqr_col (x : Nat) (f : SeqSt → SeqSt) : (s.updSeqr x f).col = s.col := rfl
@[simp] theorem State.updSeqr_dbg (x : Nat) (f : SeqSt → SeqSt) : (s.updSeqr x f).dbg = s.dbg := rfl
@[simp] theorem State.updSeqr_test (x : Nat) (f : SeqSt → SeqSt) : (s.updSeqr x f).test = s.test := rfl
@[simp] theorem State.updSeqr_evOut (x : Nat) (f : SeqSt → SeqSt) : (s.updSeqr x f).evOut = s.evOut := rfl
@[simp] theorem State.updSeqr_nvq (x : Nat) (f : SeqSt → SeqSt) : (s.updSeqr x f).nvq = s.nvq := rfl
@[simp] theorem State.updSeqr_scrSeq (x : Nat) (f : SeqSt → SeqSt) : (s.updSeqr x f).scrSeq = s.scrSeq := rfl
@[simp] theorem State.updSeqr_pending (x : Nat) (f : SeqSt → SeqSt) : (s.updSeqr x f).pending = s.pending := rfl
@[simp] theorem State.get_updSeqr (x : Nat) (f : SeqSt → SeqSt) (G : Fld) : (s.updSeqr x f).get G = s.get G := rfl
@[simp] theorem State.flag_updSeqr (x : Nat) (f : SeqSt → SeqSt) (G : Fld) : (s.updSeqr x f).flag G = s.flag G := rfl
@[simp] theorem State.byte_updSeqr (x : Nat) (f : SeqSt → SeqSt) (adr : Nat) : (s.updSeqr x f).byte adr = s.byte adr := rfl

/-! ## State.updCrc changes crcs -/

@[simp] theorem State.updCrc_regs (p l : Nat) (f : CrcSlot → CrcSlot) : (s.updCrc p l f).regs = s.regs := rfl
@[simp] theorem State.updCrc_mem (p l : Nat) (f : CrcSlot → CrcSlot) : (s.updCrc p l f).mem = s.mem := rfl
@[simp] theorem State.updCrc_fresh (p l : Nat) (f : CrcSlot → CrcSlot) : (s.updCrc p l f).fresh = s.fresh := rfl
@[simp] theorem State.updCrc_drbg (p l : Nat) (f : CrcSlot → CrcSlot) : (s.updCrc p l f).drbg = s.drbg := rfl
@[simp] theorem State.updCrc_clk (p l : Nat) (f : CrcSlot → CrcSlot) : (s.updCrc p l f).clk = s.clk := rfl
@[simp] theorem State.updCrc_tbs (p l : Nat) (f : CrcSlot → CrcSlot) : (s.updCrc p l f).tbs = s.tbs := rfl
@[simp] theorem State.updCrc_syn (p l : Nat) (f : CrcSlot → CrcSlot) : (s.updCrc p l f).syn = s.syn := rfl
@[simp] theorem State.updCrc_parts (p l : Nat) (f : CrcSlot → CrcSlot) : (s.updCrc p l f).parts = s.parts := rfl
@[simp] theorem State.updCrc_progs (p l : Nat) (f : CrcSlot → CrcSlot) : (s.updCrc p l f).progs = s.progs := rfl
@[simp] theorem State.updCrc_eng (p l : Nat) (f : CrcSlot → CrcSlot) : (s.updCrc p l f).eng = s.eng := rfl
@[simp] theorem State.updCrc_seqs (p l : Nat) (f : CrcSlot → CrcSlot) : (s.updCrc p l f).seqs = s.seqs := rfl
@[simp] theorem State.updCrc_sv (p l : Nat) (f : CrcSlot → CrcSlot) : (s.updCrc p l f).sv = s.sv := rfl
@[simp] theorem State.updCrc_sysImg (p l : Nat) (f : CrcSlot → CrcSlot) : (s.updCrc p l f).sysImg = s.sysImg := rfl
@[simp] theorem State.updCrc_creation (p l : Nat) (f : CrcSlot → CrcSlot) : (s.updCrc p l f).creation = s.creation := rfl
@[simp] theorem State.updCrc_chain (p l : Nat) (f : CrcSlot → CrcSlot) : (s.updCrc p l f).chain = s.chain := rfl
@[simp] theorem State.updCrc_slots (p l : Nat) (f : CrcSlot → CrcSlot) : (s.updCrc p l f).slots = s.slots := rfl
@[simp] theorem State.updCrc_chb (p l : Nat) (f : CrcSlot → CrcSlot) : (s.updCrc p l f).chb = s.chb := rfl
@[simp] theorem State.updCrc_trl (p l : Nat) (f : CrcSlot → CrcSlot) : (s.updCrc p l f).trl = s.trl := rfl
@[simp] theorem State.updCrc_rxNext (p l : Nat) (f : CrcSlot → CrcSlot) : (s.updCrc p l f).rxNext = s.rxNext := rfl
@[simp] theorem State.updCrc_txs (p l : Nat) (f : CrcSlot → CrcSlot) : (s.updCrc p l f).txs = s.txs := rfl
@[simp] theorem State.updCrc_txm (p l : Nat) (f : CrcSlot → CrcSlot) : (s.updCrc p l f).txm = s.txm := rfl
@[simp] theorem State.updCrc_air (p l : Nat) (f : CrcSlot → CrcSlot) : (s.updCrc p l f).air = s.air := rfl
@[simp] theorem State.updCrc_asc (p l : Nat) (f : CrcSlot → CrcSlot) : (s.updCrc p l f).asc = s.asc := rfl
@[simp] theorem State.updCrc_mbox (p l : Nat) (f : CrcSlot → CrcSlot) : (s.updCrc p l f).mbox = s.mbox := rfl
@[simp] theorem State.updCrc_ports (p l : Nat) (f : CrcSlot → CrcSlot) : (s.updCrc p l f).ports = s.ports := rfl
@[simp] theorem State.updCrc_uart (p l : Nat) (f : CrcSlot → CrcSlot) : (s.updCrc p l f).uart = s.uart := rfl
@[simp] theorem State.updCrc_pwr (p l : Nat) (f : CrcSlot → CrcSlot) : (s.updCrc p l f).pwr = s.pwr := rfl
@[simp] theorem State.updCrc_rx (p l : Nat) (f : CrcSlot → CrcSlot) : (s.updCrc p l f).rx = s.rx := rfl
@[simp] theorem State.updCrc_key (p l : Nat) (f : CrcSlot → CrcSlot) : (s.updCrc p l f).key = s.key := rfl
@[simp] theorem State.updCrc_p0new (p l : Nat) (f : CrcSlot → CrcSlot) : (s.updCrc p l f).p0new = s.p0new := rfl
@[simp] theorem State.updCrc_cal (p l : Nat) (f : CrcSlot → CrcSlot) : (s.updCrc p l f).cal = s.cal := rfl
@[simp] theorem State.updCrc_nv (p l : Nat) (f : CrcSlot → CrcSlot) : (s.updCrc p l f).nv = s.nv := rfl
@[simp] theorem State.updCrc_nvs (p l : Nat) (f : CrcSlot → CrcSlot) : (s.updCrc p l f).nvs = s.nvs := rfl
@[simp] theorem State.updCrc_ret (p l : Nat) (f : CrcSlot → CrcSlot) : (s.updCrc p l f).ret = s.ret := rfl
@[simp] theorem State.updCrc_tmp (p l : Nat) (f : CrcSlot → CrcSlot) : (s.updCrc p l f).tmp = s.tmp := rfl
@[simp] theorem State.updCrc_col (p l : Nat) (f : CrcSlot → CrcSlot) : (s.updCrc p l f).col = s.col := rfl
@[simp] theorem State.updCrc_dbg (p l : Nat) (f : CrcSlot → CrcSlot) : (s.updCrc p l f).dbg = s.dbg := rfl
@[simp] theorem State.updCrc_test (p l : Nat) (f : CrcSlot → CrcSlot) : (s.updCrc p l f).test = s.test := rfl
@[simp] theorem State.updCrc_evOut (p l : Nat) (f : CrcSlot → CrcSlot) : (s.updCrc p l f).evOut = s.evOut := rfl
@[simp] theorem State.updCrc_nvq (p l : Nat) (f : CrcSlot → CrcSlot) : (s.updCrc p l f).nvq = s.nvq := rfl
@[simp] theorem State.updCrc_scrSeq (p l : Nat) (f : CrcSlot → CrcSlot) : (s.updCrc p l f).scrSeq = s.scrSeq := rfl
@[simp] theorem State.updCrc_pending (p l : Nat) (f : CrcSlot → CrcSlot) : (s.updCrc p l f).pending = s.pending := rfl
@[simp] theorem State.get_updCrc (p l : Nat) (f : CrcSlot → CrcSlot) (G : Fld) : (s.updCrc p l f).get G = s.get G := rfl
@[simp] theorem State.flag_updCrc (p l : Nat) (f : CrcSlot → CrcSlot) (G : Fld) : (s.updCrc p l f).flag G = s.flag G := rfl
@[simp] theorem State.byte_updCrc (p l : Nat) (f : CrcSlot → CrcSlot) (adr : Nat) : (s.updCrc p l f).byte adr = s.byte adr := rfl

/-! ## State.updChain changes chain -/

@[simp] theorem State.updChain_regs (x : Nat) (f : Chain → Chain) : (s.updChain x f).regs = s.regs := rfl
@[simp] theorem State.updChain_mem (x : Nat) (f : Chain → Chain) : (s.updChain x f).mem = s.mem := rfl
@[simp] theorem State.updChain_fresh (x : Nat) (f : Chain → Chain) : (s.updChain x f).fresh = s.fresh := rfl
@[simp] theorem State.updChain_drbg (x : Nat) (f : Chain → Chain) : (s.updChain x f).drbg = s.drbg := rfl
@[simp] theorem State.updChain_clk (x : Nat) (f : Chain → Chain) : (s.updChain x f).clk = s.clk := rfl
@[simp] theorem State.updChain_tbs (x : Nat) (f : Chain → Chain) : (s.updChain x f).tbs = s.tbs := rfl
@[simp] theorem State.updChain_syn (x : Nat) (f : Chain → Chain) : (s.updChain x f).syn = s.syn := rfl
@[simp] theorem State.updChain_parts (x : Nat) (f : Chain → Chain) : (s.updChain x f).parts = s.parts := rfl
@[simp] theorem State.updChain_progs (x : Nat) (f : Chain → Chain) : (s.updChain x f).progs = s.progs := rfl
@[simp] theorem State.updChain_eng (x : Nat) (f : Chain → Chain) : (s.updChain x f).eng = s.eng := rfl
@[simp] theorem State.updChain_seqs (x : Nat) (f : Chain → Chain) : (s.updChain x f).seqs = s.seqs := rfl
@[simp] theorem State.updChain_sv (x : Nat) (f : Chain → Chain) : (s.updChain x f).sv = s.sv := rfl
@[simp] theorem State.updChain_sysImg (x : Nat) (f : Chain → Chain) : (s.updChain x f).sysImg = s.sysImg := rfl
@[simp] theorem State.updChain_creation (x : Nat) (f : Chain → Chain) : (s.updChain x f).creation = s.creation := rfl
@[simp] theorem State.updChain_slots (x : Nat) (f : Chain → Chain) : (s.updChain x f).slots = s.slots := rfl
@[simp] theorem State.updChain_chb (x : Nat) (f : Chain → Chain) : (s.updChain x f).chb = s.chb := rfl
@[simp] theorem State.updChain_trl (x : Nat) (f : Chain → Chain) : (s.updChain x f).trl = s.trl := rfl
@[simp] theorem State.updChain_rxNext (x : Nat) (f : Chain → Chain) : (s.updChain x f).rxNext = s.rxNext := rfl
@[simp] theorem State.updChain_txs (x : Nat) (f : Chain → Chain) : (s.updChain x f).txs = s.txs := rfl
@[simp] theorem State.updChain_txm (x : Nat) (f : Chain → Chain) : (s.updChain x f).txm = s.txm := rfl
@[simp] theorem State.updChain_air (x : Nat) (f : Chain → Chain) : (s.updChain x f).air = s.air := rfl
@[simp] theorem State.updChain_asc (x : Nat) (f : Chain → Chain) : (s.updChain x f).asc = s.asc := rfl
@[simp] theorem State.updChain_mbox (x : Nat) (f : Chain → Chain) : (s.updChain x f).mbox = s.mbox := rfl
@[simp] theorem State.updChain_ports (x : Nat) (f : Chain → Chain) : (s.updChain x f).ports = s.ports := rfl
@[simp] theorem State.updChain_uart (x : Nat) (f : Chain → Chain) : (s.updChain x f).uart = s.uart := rfl
@[simp] theorem State.updChain_pwr (x : Nat) (f : Chain → Chain) : (s.updChain x f).pwr = s.pwr := rfl
@[simp] theorem State.updChain_rx (x : Nat) (f : Chain → Chain) : (s.updChain x f).rx = s.rx := rfl
@[simp] theorem State.updChain_key (x : Nat) (f : Chain → Chain) : (s.updChain x f).key = s.key := rfl
@[simp] theorem State.updChain_crcs (x : Nat) (f : Chain → Chain) : (s.updChain x f).crcs = s.crcs := rfl
@[simp] theorem State.updChain_p0new (x : Nat) (f : Chain → Chain) : (s.updChain x f).p0new = s.p0new := rfl
@[simp] theorem State.updChain_cal (x : Nat) (f : Chain → Chain) : (s.updChain x f).cal = s.cal := rfl
@[simp] theorem State.updChain_nv (x : Nat) (f : Chain → Chain) : (s.updChain x f).nv = s.nv := rfl
@[simp] theorem State.updChain_nvs (x : Nat) (f : Chain → Chain) : (s.updChain x f).nvs = s.nvs := rfl
@[simp] theorem State.updChain_ret (x : Nat) (f : Chain → Chain) : (s.updChain x f).ret = s.ret := rfl
@[simp] theorem State.updChain_tmp (x : Nat) (f : Chain → Chain) : (s.updChain x f).tmp = s.tmp := rfl
@[simp] theorem State.updChain_col (x : Nat) (f : Chain → Chain) : (s.updChain x f).col = s.col := rfl
@[simp] theorem State.updChain_dbg (x : Nat) (f : Chain → Chain) : (s.updChain x f).dbg = s.dbg := rfl
@[simp] theorem State.updChain_test (x : Nat) (f : Chain → Chain) : (s.updChain x f).test = s.test := rfl
@[simp] theorem State.updChain_evOut (x : Nat) (f : Chain → Chain) : (s.updChain x f).evOut = s.evOut := rfl
@[simp] theorem State.updChain_nvq (x : Nat) (f : Chain → Chain) : (s.updChain x f).nvq = s.nvq := rfl
@[simp] theorem State.updChain_scrSeq (x : Nat) (f : Chain → Chain) : (s.updChain x f).scrSeq = s.scrSeq := rfl
@[simp] theorem State.updChain_pending (x : Nat) (f : Chain → Chain) : (s.updChain x f).pending = s.pending := rfl
@[simp] theorem State.get_updChain (x : Nat) (f : Chain → Chain) (G : Fld) : (s.updChain x f).get G = s.get G := rfl
@[simp] theorem State.flag_updChain (x : Nat) (f : Chain → Chain) (G : Fld) : (s.updChain x f).flag G = s.flag G := rfl
@[simp] theorem State.byte_updChain (x : Nat) (f : Chain → Chain) (adr : Nat) : (s.updChain x f).byte adr = s.byte adr := rfl

/-! ## State.updSlot changes slots -/

@[simp] theorem State.updSlot_regs (k : Nat) (f : Slot → Slot) : (s.updSlot k f).regs = s.regs := rfl
@[simp] theorem State.updSlot_mem (k : Nat) (f : Slot → Slot) : (s.updSlot k f).mem = s.mem := rfl
@[simp] theorem State.updSlot_fresh (k : Nat) (f : Slot → Slot) : (s.updSlot k f).fresh = s.fresh := rfl
@[simp] theorem State.updSlot_drbg (k : Nat) (f : Slot → Slot) : (s.updSlot k f).drbg = s.drbg := rfl
@[simp] theorem State.updSlot_clk (k : Nat) (f : Slot → Slot) : (s.updSlot k f).clk = s.clk := rfl
@[simp] theorem State.updSlot_tbs (k : Nat) (f : Slot → Slot) : (s.updSlot k f).tbs = s.tbs := rfl
@[simp] theorem State.updSlot_syn (k : Nat) (f : Slot → Slot) : (s.updSlot k f).syn = s.syn := rfl
@[simp] theorem State.updSlot_parts (k : Nat) (f : Slot → Slot) : (s.updSlot k f).parts = s.parts := rfl
@[simp] theorem State.updSlot_progs (k : Nat) (f : Slot → Slot) : (s.updSlot k f).progs = s.progs := rfl
@[simp] theorem State.updSlot_eng (k : Nat) (f : Slot → Slot) : (s.updSlot k f).eng = s.eng := rfl
@[simp] theorem State.updSlot_seqs (k : Nat) (f : Slot → Slot) : (s.updSlot k f).seqs = s.seqs := rfl
@[simp] theorem State.updSlot_sv (k : Nat) (f : Slot → Slot) : (s.updSlot k f).sv = s.sv := rfl
@[simp] theorem State.updSlot_sysImg (k : Nat) (f : Slot → Slot) : (s.updSlot k f).sysImg = s.sysImg := rfl
@[simp] theorem State.updSlot_creation (k : Nat) (f : Slot → Slot) : (s.updSlot k f).creation = s.creation := rfl
@[simp] theorem State.updSlot_chain (k : Nat) (f : Slot → Slot) : (s.updSlot k f).chain = s.chain := rfl
@[simp] theorem State.updSlot_chb (k : Nat) (f : Slot → Slot) : (s.updSlot k f).chb = s.chb := rfl
@[simp] theorem State.updSlot_trl (k : Nat) (f : Slot → Slot) : (s.updSlot k f).trl = s.trl := rfl
@[simp] theorem State.updSlot_rxNext (k : Nat) (f : Slot → Slot) : (s.updSlot k f).rxNext = s.rxNext := rfl
@[simp] theorem State.updSlot_txs (k : Nat) (f : Slot → Slot) : (s.updSlot k f).txs = s.txs := rfl
@[simp] theorem State.updSlot_txm (k : Nat) (f : Slot → Slot) : (s.updSlot k f).txm = s.txm := rfl
@[simp] theorem State.updSlot_air (k : Nat) (f : Slot → Slot) : (s.updSlot k f).air = s.air := rfl
@[simp] theorem State.updSlot_asc (k : Nat) (f : Slot → Slot) : (s.updSlot k f).asc = s.asc := rfl
@[simp] theorem State.updSlot_mbox (k : Nat) (f : Slot → Slot) : (s.updSlot k f).mbox = s.mbox := rfl
@[simp] theorem State.updSlot_ports (k : Nat) (f : Slot → Slot) : (s.updSlot k f).ports = s.ports := rfl
@[simp] theorem State.updSlot_uart (k : Nat) (f : Slot → Slot) : (s.updSlot k f).uart = s.uart := rfl
@[simp] theorem State.updSlot_pwr (k : Nat) (f : Slot → Slot) : (s.updSlot k f).pwr = s.pwr := rfl
@[simp] theorem State.updSlot_rx (k : Nat) (f : Slot → Slot) : (s.updSlot k f).rx = s.rx := rfl
@[simp] theorem State.updSlot_key (k : Nat) (f : Slot → Slot) : (s.updSlot k f).key = s.key := rfl
@[simp] theorem State.updSlot_crcs (k : Nat) (f : Slot → Slot) : (s.updSlot k f).crcs = s.crcs := rfl
@[simp] theorem State.updSlot_p0new (k : Nat) (f : Slot → Slot) : (s.updSlot k f).p0new = s.p0new := rfl
@[simp] theorem State.updSlot_cal (k : Nat) (f : Slot → Slot) : (s.updSlot k f).cal = s.cal := rfl
@[simp] theorem State.updSlot_nv (k : Nat) (f : Slot → Slot) : (s.updSlot k f).nv = s.nv := rfl
@[simp] theorem State.updSlot_nvs (k : Nat) (f : Slot → Slot) : (s.updSlot k f).nvs = s.nvs := rfl
@[simp] theorem State.updSlot_ret (k : Nat) (f : Slot → Slot) : (s.updSlot k f).ret = s.ret := rfl
@[simp] theorem State.updSlot_tmp (k : Nat) (f : Slot → Slot) : (s.updSlot k f).tmp = s.tmp := rfl
@[simp] theorem State.updSlot_col (k : Nat) (f : Slot → Slot) : (s.updSlot k f).col = s.col := rfl
@[simp] theorem State.updSlot_dbg (k : Nat) (f : Slot → Slot) : (s.updSlot k f).dbg = s.dbg := rfl
@[simp] theorem State.updSlot_test (k : Nat) (f : Slot → Slot) : (s.updSlot k f).test = s.test := rfl
@[simp] theorem State.updSlot_evOut (k : Nat) (f : Slot → Slot) : (s.updSlot k f).evOut = s.evOut := rfl
@[simp] theorem State.updSlot_nvq (k : Nat) (f : Slot → Slot) : (s.updSlot k f).nvq = s.nvq := rfl
@[simp] theorem State.updSlot_scrSeq (k : Nat) (f : Slot → Slot) : (s.updSlot k f).scrSeq = s.scrSeq := rfl
@[simp] theorem State.updSlot_pending (k : Nat) (f : Slot → Slot) : (s.updSlot k f).pending = s.pending := rfl
@[simp] theorem State.get_updSlot (k : Nat) (f : Slot → Slot) (G : Fld) : (s.updSlot k f).get G = s.get G := rfl
@[simp] theorem State.flag_updSlot (k : Nat) (f : Slot → Slot) (G : Fld) : (s.updSlot k f).flag G = s.flag G := rfl
@[simp] theorem State.byte_updSlot (k : Nat) (f : Slot → Slot) (adr : Nat) : (s.updSlot k f).byte adr = s.byte adr := rfl

/-! ## State.updMb changes mbox -/

@[simp] theorem State.updMb_regs (p : Nat) (f : Mbox → Mbox) : (s.updMb p f).regs = s.regs := rfl
@[simp] theorem State.updMb_mem (p : Nat) (f : Mbox → Mbox) : (s.updMb p f).mem = s.mem := rfl
@[simp] theorem State.updMb_fresh (p : Nat) (f : Mbox → Mbox) : (s.updMb p f).fresh = s.fresh := rfl
@[simp] theorem State.updMb_drbg (p : Nat) (f : Mbox → Mbox) : (s.updMb p f).drbg = s.drbg := rfl
@[simp] theorem State.updMb_clk (p : Nat) (f : Mbox → Mbox) : (s.updMb p f).clk = s.clk := rfl
@[simp] theorem State.updMb_tbs (p : Nat) (f : Mbox → Mbox) : (s.updMb p f).tbs = s.tbs := rfl
@[simp] theorem State.updMb_syn (p : Nat) (f : Mbox → Mbox) : (s.updMb p f).syn = s.syn := rfl
@[simp] theorem State.updMb_parts (p : Nat) (f : Mbox → Mbox) : (s.updMb p f).parts = s.parts := rfl
@[simp] theorem State.updMb_progs (p : Nat) (f : Mbox → Mbox) : (s.updMb p f).progs = s.progs := rfl
@[simp] theorem State.updMb_eng (p : Nat) (f : Mbox → Mbox) : (s.updMb p f).eng = s.eng := rfl
@[simp] theorem State.updMb_seqs (p : Nat) (f : Mbox → Mbox) : (s.updMb p f).seqs = s.seqs := rfl
@[simp] theorem State.updMb_sv (p : Nat) (f : Mbox → Mbox) : (s.updMb p f).sv = s.sv := rfl
@[simp] theorem State.updMb_sysImg (p : Nat) (f : Mbox → Mbox) : (s.updMb p f).sysImg = s.sysImg := rfl
@[simp] theorem State.updMb_creation (p : Nat) (f : Mbox → Mbox) : (s.updMb p f).creation = s.creation := rfl
@[simp] theorem State.updMb_chain (p : Nat) (f : Mbox → Mbox) : (s.updMb p f).chain = s.chain := rfl
@[simp] theorem State.updMb_slots (p : Nat) (f : Mbox → Mbox) : (s.updMb p f).slots = s.slots := rfl
@[simp] theorem State.updMb_chb (p : Nat) (f : Mbox → Mbox) : (s.updMb p f).chb = s.chb := rfl
@[simp] theorem State.updMb_trl (p : Nat) (f : Mbox → Mbox) : (s.updMb p f).trl = s.trl := rfl
@[simp] theorem State.updMb_rxNext (p : Nat) (f : Mbox → Mbox) : (s.updMb p f).rxNext = s.rxNext := rfl
@[simp] theorem State.updMb_txs (p : Nat) (f : Mbox → Mbox) : (s.updMb p f).txs = s.txs := rfl
@[simp] theorem State.updMb_txm (p : Nat) (f : Mbox → Mbox) : (s.updMb p f).txm = s.txm := rfl
@[simp] theorem State.updMb_air (p : Nat) (f : Mbox → Mbox) : (s.updMb p f).air = s.air := rfl
@[simp] theorem State.updMb_asc (p : Nat) (f : Mbox → Mbox) : (s.updMb p f).asc = s.asc := rfl
@[simp] theorem State.updMb_ports (p : Nat) (f : Mbox → Mbox) : (s.updMb p f).ports = s.ports := rfl
@[simp] theorem State.updMb_uart (p : Nat) (f : Mbox → Mbox) : (s.updMb p f).uart = s.uart := rfl
@[simp] theorem State.updMb_pwr (p : Nat) (f : Mbox → Mbox) : (s.updMb p f).pwr = s.pwr := rfl
@[simp] theorem State.updMb_rx (p : Nat) (f : Mbox → Mbox) : (s.updMb p f).rx = s.rx := rfl
@[simp] theorem State.updMb_key (p : Nat) (f : Mbox → Mbox) : (s.updMb p f).key = s.key := rfl
@[simp] theorem State.updMb_crcs (p : Nat) (f : Mbox → Mbox) : (s.updMb p f).crcs = s.crcs := rfl
@[simp] theorem State.updMb_p0new (p : Nat) (f : Mbox → Mbox) : (s.updMb p f).p0new = s.p0new := rfl
@[simp] theorem State.updMb_cal (p : Nat) (f : Mbox → Mbox) : (s.updMb p f).cal = s.cal := rfl
@[simp] theorem State.updMb_nv (p : Nat) (f : Mbox → Mbox) : (s.updMb p f).nv = s.nv := rfl
@[simp] theorem State.updMb_nvs (p : Nat) (f : Mbox → Mbox) : (s.updMb p f).nvs = s.nvs := rfl
@[simp] theorem State.updMb_ret (p : Nat) (f : Mbox → Mbox) : (s.updMb p f).ret = s.ret := rfl
@[simp] theorem State.updMb_tmp (p : Nat) (f : Mbox → Mbox) : (s.updMb p f).tmp = s.tmp := rfl
@[simp] theorem State.updMb_col (p : Nat) (f : Mbox → Mbox) : (s.updMb p f).col = s.col := rfl
@[simp] theorem State.updMb_dbg (p : Nat) (f : Mbox → Mbox) : (s.updMb p f).dbg = s.dbg := rfl
@[simp] theorem State.updMb_test (p : Nat) (f : Mbox → Mbox) : (s.updMb p f).test = s.test := rfl
@[simp] theorem State.updMb_evOut (p : Nat) (f : Mbox → Mbox) : (s.updMb p f).evOut = s.evOut := rfl
@[simp] theorem State.updMb_nvq (p : Nat) (f : Mbox → Mbox) : (s.updMb p f).nvq = s.nvq := rfl
@[simp] theorem State.updMb_scrSeq (p : Nat) (f : Mbox → Mbox) : (s.updMb p f).scrSeq = s.scrSeq := rfl
@[simp] theorem State.updMb_pending (p : Nat) (f : Mbox → Mbox) : (s.updMb p f).pending = s.pending := rfl
@[simp] theorem State.get_updMb (p : Nat) (f : Mbox → Mbox) (G : Fld) : (s.updMb p f).get G = s.get G := rfl
@[simp] theorem State.flag_updMb (p : Nat) (f : Mbox → Mbox) (G : Fld) : (s.updMb p f).flag G = s.flag G := rfl
@[simp] theorem State.byte_updMb (p : Nat) (f : Mbox → Mbox) (adr : Nat) : (s.updMb p f).byte adr = s.byte adr := rfl

/-! ## State.updPort changes ports -/

@[simp] theorem State.updPort_regs (x : Nat) (f : Port → Port) : (s.updPort x f).regs = s.regs := rfl
@[simp] theorem State.updPort_mem (x : Nat) (f : Port → Port) : (s.updPort x f).mem = s.mem := rfl
@[simp] theorem State.updPort_fresh (x : Nat) (f : Port → Port) : (s.updPort x f).fresh = s.fresh := rfl
@[simp] theorem State.updPort_drbg (x : Nat) (f : Port → Port) : (s.updPort x f).drbg = s.drbg := rfl
@[simp] theorem State.updPort_clk (x : Nat) (f : Port → Port) : (s.updPort x f).clk = s.clk := rfl
@[simp] theorem State.updPort_tbs (x : Nat) (f : Port → Port) : (s.updPort x f).tbs = s.tbs := rfl
@[simp] theorem State.updPort_syn (x : Nat) (f : Port → Port) : (s.updPort x f).syn = s.syn := rfl
@[simp] theorem State.updPort_parts (x : Nat) (f : Port → Port) : (s.updPort x f).parts = s.parts := rfl
@[simp] theorem State.updPort_progs (x : Nat) (f : Port → Port) : (s.updPort x f).progs = s.progs := rfl
@[simp] theorem State.updPort_eng (x : Nat) (f : Port → Port) : (s.updPort x f).eng = s.eng := rfl
@[simp] theorem State.updPort_seqs (x : Nat) (f : Port → Port) : (s.updPort x f).seqs = s.seqs := rfl
@[simp] theorem State.updPort_sv (x : Nat) (f : Port → Port) : (s.updPort x f).sv = s.sv := rfl
@[simp] theorem State.updPort_sysImg (x : Nat) (f : Port → Port) : (s.updPort x f).sysImg = s.sysImg := rfl
@[simp] theorem State.updPort_creation (x : Nat) (f : Port → Port) : (s.updPort x f).creation = s.creation := rfl
@[simp] theorem State.updPort_chain (x : Nat) (f : Port → Port) : (s.updPort x f).chain = s.chain := rfl
@[simp] theorem State.updPort_slots (x : Nat) (f : Port → Port) : (s.updPort x f).slots = s.slots := rfl
@[simp] theorem State.updPort_chb (x : Nat) (f : Port → Port) : (s.updPort x f).chb = s.chb := rfl
@[simp] theorem State.updPort_trl (x : Nat) (f : Port → Port) : (s.updPort x f).trl = s.trl := rfl
@[simp] theorem State.updPort_rxNext (x : Nat) (f : Port → Port) : (s.updPort x f).rxNext = s.rxNext := rfl
@[simp] theorem State.updPort_txs (x : Nat) (f : Port → Port) : (s.updPort x f).txs = s.txs := rfl
@[simp] theorem State.updPort_txm (x : Nat) (f : Port → Port) : (s.updPort x f).txm = s.txm := rfl
@[simp] theorem State.updPort_air (x : Nat) (f : Port → Port) : (s.updPort x f).air = s.air := rfl
@[simp] theorem State.updPort_asc (x : Nat) (f : Port → Port) : (s.updPort x f).asc = s.asc := rfl
@[simp] theorem State.updPort_mbox (x : Nat) (f : Port → Port) : (s.updPort x f).mbox = s.mbox := rfl
@[simp] theorem State.updPort_uart (x : Nat) (f : Port → Port) : (s.updPort x f).uart = s.uart := rfl
@[simp] theorem State.updPort_pwr (x : Nat) (f : Port → Port) : (s.updPort x f).pwr = s.pwr := rfl
@[simp] theorem State.updPort_rx (x : Nat) (f : Port → Port) : (s.updPort x f).rx = s.rx := rfl
@[simp] theorem State.updPort_key (x : Nat) (f : Port → Port) : (s.updPort x f).key = s.key := rfl
@[simp] theorem State.updPort_crcs (x : Nat) (f : Port → Port) : (s.updPort x f).crcs = s.crcs := rfl
@[simp] theorem State.updPort_p0new (x : Nat) (f : Port → Port) : (s.updPort x f).p0new = s.p0new := rfl
@[simp] theorem State.updPort_cal (x : Nat) (f : Port → Port) : (s.updPort x f).cal = s.cal := rfl
@[simp] theorem State.updPort_nv (x : Nat) (f : Port → Port) : (s.updPort x f).nv = s.nv := rfl
@[simp] theorem State.updPort_nvs (x : Nat) (f : Port → Port) : (s.updPort x f).nvs = s.nvs := rfl
@[simp] theorem State.updPort_ret (x : Nat) (f : Port → Port) : (s.updPort x f).ret = s.ret := rfl
@[simp] theorem State.updPort_tmp (x : Nat) (f : Port → Port) : (s.updPort x f).tmp = s.tmp := rfl
@[simp] theorem State.updPort_col (x : Nat) (f : Port → Port) : (s.updPort x f).col = s.col := rfl
@[simp] theorem State.updPort_dbg (x : Nat) (f : Port → Port) : (s.updPort x f).dbg = s.dbg := rfl
@[simp] theorem State.updPort_test (x : Nat) (f : Port → Port) : (s.updPort x f).test = s.test := rfl
@[simp] theorem State.updPort_evOut (x : Nat) (f : Port → Port) : (s.updPort x f).evOut = s.evOut := rfl
@[simp] theorem State.updPort_nvq (x : Nat) (f : Port → Port) : (s.updPort x f).nvq = s.nvq := rfl
@[simp] theorem State.updPort_scrSeq (x : Nat) (f : Port → Port) : (s.updPort x f).scrSeq = s.scrSeq := rfl
@[simp] theorem State.updPort_pending (x : Nat) (f : Port → Port) : (s.updPort x f).pending = s.pending := rfl
@[simp] theorem State.get_updPort (x : Nat) (f : Port → Port) (G : Fld) : (s.updPort x f).get G = s.get G := rfl
@[simp] theorem State.flag_updPort (x : Nat) (f : Port → Port) (G : Fld) : (s.updPort x f).flag G = s.flag G := rfl
@[simp] theorem State.byte_updPort (x : Nat) (f : Port → Port) (adr : Nat) : (s.updPort x f).byte adr = s.byte adr := rfl

/-! ## State.updAsc changes asc -/

@[simp] theorem State.updAsc_regs (ph : Nat) (f : AscEnt → AscEnt) : (s.updAsc ph f).regs = s.regs := rfl
@[simp] theorem State.updAsc_mem (ph : Nat) (f : AscEnt → AscEnt) : (s.updAsc ph f).mem = s.mem := rfl
@[simp] theorem State.updAsc_fresh (ph : Nat) (f : AscEnt → AscEnt) : (s.updAsc ph f).fresh = s.fresh := rfl
@[simp] theorem State.updAsc_drbg (ph : Nat) (f : AscEnt → AscEnt) : (s.updAsc ph f).drbg = s.drbg := rfl
@[simp] theorem State.updAsc_clk (ph : Nat) (f : AscEnt → AscEnt) : (s.updAsc ph f).clk = s.clk := rfl
@[simp] theorem State.updAsc_tbs (ph : Nat) (f : AscEnt → AscEnt) : (s.updAsc ph f).tbs = s.tbs := rfl
@[simp] theorem State.updAsc_syn (ph : Nat) (f : AscEnt → AscEnt) : (s.updAsc ph f).syn = s.syn := rfl
@[simp] theorem State.updAsc_parts (ph : Nat) (f : AscEnt → AscEnt) : (s.updAsc ph f).parts = s.parts := rfl
@[simp] theorem State.updAsc_progs (ph : Nat) (f : AscEnt → AscEnt) : (s.updAsc ph f).progs = s.progs := rfl
@[simp] theorem State.updAsc_eng (ph : Nat) (f : AscEnt → AscEnt) : (s.updAsc ph f).eng = s.eng := rfl
@[simp] theorem State.updAsc_seqs (ph : Nat) (f : AscEnt → AscEnt) : (s.updAsc ph f).seqs = s.seqs := rfl
@[simp] theorem State.updAsc_sv (ph : Nat) (f : AscEnt → AscEnt) : (s.updAsc ph f).sv = s.sv := rfl
@[simp] theorem State.updAsc_sysImg (ph : Nat) (f : AscEnt → AscEnt) : (s.updAsc ph f).sysImg = s.sysImg := rfl
@[simp] theorem State.updAsc_creation (ph : Nat) (f : AscEnt → AscEnt) : (s.updAsc ph f).creation = s.creation := rfl
@[simp] theorem State.updAsc_chain (ph : Nat) (f : AscEnt → AscEnt) : (s.updAsc ph f).chain = s.chain := rfl
@[simp] theorem State.updAsc_slots (ph : Nat) (f : AscEnt → AscEnt) : (s.updAsc ph f).slots = s.slots := rfl
@[simp] theorem State.updAsc_chb (ph : Nat) (f : AscEnt → AscEnt) : (s.updAsc ph f).chb = s.chb := rfl
@[simp] theorem State.updAsc_trl (ph : Nat) (f : AscEnt → AscEnt) : (s.updAsc ph f).trl = s.trl := rfl
@[simp] theorem State.updAsc_rxNext (ph : Nat) (f : AscEnt → AscEnt) : (s.updAsc ph f).rxNext = s.rxNext := rfl
@[simp] theorem State.updAsc_txs (ph : Nat) (f : AscEnt → AscEnt) : (s.updAsc ph f).txs = s.txs := rfl
@[simp] theorem State.updAsc_txm (ph : Nat) (f : AscEnt → AscEnt) : (s.updAsc ph f).txm = s.txm := rfl
@[simp] theorem State.updAsc_air (ph : Nat) (f : AscEnt → AscEnt) : (s.updAsc ph f).air = s.air := rfl
@[simp] theorem State.updAsc_mbox (ph : Nat) (f : AscEnt → AscEnt) : (s.updAsc ph f).mbox = s.mbox := rfl
@[simp] theorem State.updAsc_ports (ph : Nat) (f : AscEnt → AscEnt) : (s.updAsc ph f).ports = s.ports := rfl
@[simp] theorem State.updAsc_uart (ph : Nat) (f : AscEnt → AscEnt) : (s.updAsc ph f).uart = s.uart := rfl
@[simp] theorem State.updAsc_pwr (ph : Nat) (f : AscEnt → AscEnt) : (s.updAsc ph f).pwr = s.pwr := rfl
@[simp] theorem State.updAsc_rx (ph : Nat) (f : AscEnt → AscEnt) : (s.updAsc ph f).rx = s.rx := rfl
@[simp] theorem State.updAsc_key (ph : Nat) (f : AscEnt → AscEnt) : (s.updAsc ph f).key = s.key := rfl
@[simp] theorem State.updAsc_crcs (ph : Nat) (f : AscEnt → AscEnt) : (s.updAsc ph f).crcs = s.crcs := rfl
@[simp] theorem State.updAsc_p0new (ph : Nat) (f : AscEnt → AscEnt) : (s.updAsc ph f).p0new = s.p0new := rfl
@[simp] theorem State.updAsc_cal (ph : Nat) (f : AscEnt → AscEnt) : (s.updAsc ph f).cal = s.cal := rfl
@[simp] theorem State.updAsc_nv (ph : Nat) (f : AscEnt → AscEnt) : (s.updAsc ph f).nv = s.nv := rfl
@[simp] theorem State.updAsc_nvs (ph : Nat) (f : AscEnt → AscEnt) : (s.updAsc ph f).nvs = s.nvs := rfl
@[simp] theorem State.updAsc_ret (ph : Nat) (f : AscEnt → AscEnt) : (s.updAsc ph f).ret = s.ret := rfl
@[simp] theorem State.updAsc_tmp (ph : Nat) (f : AscEnt → AscEnt) : (s.updAsc ph f).tmp = s.tmp := rfl
@[simp] theorem State.updAsc_col (ph : Nat) (f : AscEnt → AscEnt) : (s.updAsc ph f).col = s.col := rfl
@[simp] theorem State.updAsc_dbg (ph : Nat) (f : AscEnt → AscEnt) : (s.updAsc ph f).dbg = s.dbg := rfl
@[simp] theorem State.updAsc_test (ph : Nat) (f : AscEnt → AscEnt) : (s.updAsc ph f).test = s.test := rfl
@[simp] theorem State.updAsc_evOut (ph : Nat) (f : AscEnt → AscEnt) : (s.updAsc ph f).evOut = s.evOut := rfl
@[simp] theorem State.updAsc_nvq (ph : Nat) (f : AscEnt → AscEnt) : (s.updAsc ph f).nvq = s.nvq := rfl
@[simp] theorem State.updAsc_scrSeq (ph : Nat) (f : AscEnt → AscEnt) : (s.updAsc ph f).scrSeq = s.scrSeq := rfl
@[simp] theorem State.updAsc_pending (ph : Nat) (f : AscEnt → AscEnt) : (s.updAsc ph f).pending = s.pending := rfl
@[simp] theorem State.get_updAsc (ph : Nat) (f : AscEnt → AscEnt) (G : Fld) : (s.updAsc ph f).get G = s.get G := rfl
@[simp] theorem State.flag_updAsc (ph : Nat) (f : AscEnt → AscEnt) (G : Fld) : (s.updAsc ph f).flag G = s.flag G := rfl
@[simp] theorem State.byte_updAsc (ph : Nat) (f : AscEnt → AscEnt) (adr : Nat) : (s.updAsc ph f).byte adr = s.byte adr := rfl

/-! ## State.scree changes nvq -/

@[simp] theorem State.scree_regs (src code cls : Nat) (data : List Byte) (part : Nat) : (s.scree src code cls data part).regs = s.regs := rfl
@[simp] theorem State.scree_mem (src code cls : Nat) (data : List Byte) (part : Nat) : (s.scree src code cls data part).mem = s.mem := rfl
@[simp] theorem State.scree_fresh (src code cls : Nat) (data : List Byte) (part : Nat) : (s.scree src code cls data part).fresh = s.fresh := rfl
@[simp] theorem State.scree_drbg (src code cls : Nat) (data : List Byte) (part : Nat) : (s.scree src code cls data part).drbg = s.drbg := rfl
@[simp] theorem State.scree_clk (src code cls : Nat) (data : List Byte) (part : Nat) : (s.scree src code cls data part).clk = s.clk := rfl
@[simp] theorem State.scree_tbs (src code cls : Nat) (data : List Byte) (part : Nat) : (s.scree src code cls data part).tbs = s.tbs := rfl
@[simp] theorem State.scree_syn (src code cls : Nat) (data : List Byte) (part : Nat) : (s.scree src code cls data part).syn = s.syn := rfl
@[simp] theorem State.scree_parts (src code cls : Nat) (data : List Byte) (part : Nat) : (s.scree src code cls data part).parts = s.parts := rfl
@[simp] theorem State.scree_progs (src code cls : Nat) (data : List Byte) (part : Nat) : (s.scree src code cls data part).progs = s.progs := rfl
@[simp] theorem State.scree_eng (src code cls : Nat) (data : List Byte) (part : Nat) : (s.scree src code cls data part).eng = s.eng := rfl
@[simp] theorem State.scree_seqs (src code cls : Nat) (data : List Byte) (part : Nat) : (s.scree src code cls data part).seqs = s.seqs := rfl
@[simp] theorem State.scree_sv (src code cls : Nat) (data : List Byte) (part : Nat) : (s.scree src code cls data part).sv = s.sv := rfl
@[simp] theorem State.scree_sysImg (src code cls : Nat) (data : List Byte) (part : Nat) : (s.scree src code cls data part).sysImg = s.sysImg := rfl
@[simp] theorem State.scree_creation (src code cls : Nat) (data : List Byte) (part : Nat) : (s.scree src code cls data part).creation = s.creation := rfl
@[simp] theorem State.scree_chain (src code cls : Nat) (data : List Byte) (part : Nat) : (s.scree src code cls data part).chain = s.chain := rfl
@[simp] theorem State.scree_slots (src code cls : Nat) (data : List Byte) (part : Nat) : (s.scree src code cls data part).slots = s.slots := rfl
@[simp] theorem State.scree_chb (src code cls : Nat) (data : List Byte) (part : Nat) : (s.scree src code cls data part).chb = s.chb := rfl
@[simp] theorem State.scree_trl (src code cls : Nat) (data : List Byte) (part : Nat) : (s.scree src code cls data part).trl = s.trl := rfl
@[simp] theorem State.scree_rxNext (src code cls : Nat) (data : List Byte) (part : Nat) : (s.scree src code cls data part).rxNext = s.rxNext := rfl
@[simp] theorem State.scree_txs (src code cls : Nat) (data : List Byte) (part : Nat) : (s.scree src code cls data part).txs = s.txs := rfl
@[simp] theorem State.scree_txm (src code cls : Nat) (data : List Byte) (part : Nat) : (s.scree src code cls data part).txm = s.txm := rfl
@[simp] theorem State.scree_air (src code cls : Nat) (data : List Byte) (part : Nat) : (s.scree src code cls data part).air = s.air := rfl
@[simp] theorem State.scree_asc (src code cls : Nat) (data : List Byte) (part : Nat) : (s.scree src code cls data part).asc = s.asc := rfl
@[simp] theorem State.scree_mbox (src code cls : Nat) (data : List Byte) (part : Nat) : (s.scree src code cls data part).mbox = s.mbox := rfl
@[simp] theorem State.scree_ports (src code cls : Nat) (data : List Byte) (part : Nat) : (s.scree src code cls data part).ports = s.ports := rfl
@[simp] theorem State.scree_uart (src code cls : Nat) (data : List Byte) (part : Nat) : (s.scree src code cls data part).uart = s.uart := rfl
@[simp] theorem State.scree_pwr (src code cls : Nat) (data : List Byte) (part : Nat) : (s.scree src code cls data part).pwr = s.pwr := rfl
@[simp] theorem State.scree_rx (src code cls : Nat) (data : List Byte) (part : Nat) : (s.scree src code cls data part).rx = s.rx := rfl
@[simp] theorem State.scree_key (src code cls : Nat) (data : List Byte) (part : Nat) : (s.scree src code cls data part).key = s.key := rfl
@[simp] theorem State.scree_crcs (src code cls : Nat) (data : List Byte) (part : Nat) : (s.scree src code cls data part).crcs = s.crcs := rfl
@[simp] theorem State.scree_p0new (src code cls : Nat) (data : List Byte) (part : Nat) : (s.scree src code cls data part).p0new = s.p0new := rfl
@[simp] theorem State.scree_cal (src code cls : Nat) (data : List Byte) (part : Nat) : (s.scree src code cls data part).cal = s.cal := rfl
@[simp] theorem State.scree_nv (src code cls : Nat) (data : List Byte) (part : Nat) : (s.scree src code cls data part).nv = s.nv := rfl
@[simp] theorem State.scree_nvs (src code cls : Nat) (data : List Byte) (part : Nat) : (s.scree src code cls data part).nvs = s.nvs := rfl
@[simp] theorem State.scree_ret (src code cls : Nat) (data : List Byte) (part : Nat) : (s.scree src code cls data part).ret = s.ret := rfl
@[simp] theorem State.scree_tmp (src code cls : Nat) (data : List Byte) (part : Nat) : (s.scree src code cls data part).tmp = s.tmp := rfl
@[simp] theorem State.scree_col (src code cls : Nat) (data : List Byte) (part : Nat) : (s.scree src code cls data part).col = s.col := rfl
@[simp] theorem State.scree_dbg (src code cls : Nat) (data : List Byte) (part : Nat) : (s.scree src code cls data part).dbg = s.dbg := rfl
@[simp] theorem State.scree_test (src code cls : Nat) (data : List Byte) (part : Nat) : (s.scree src code cls data part).test = s.test := rfl
@[simp] theorem State.scree_evOut (src code cls : Nat) (data : List Byte) (part : Nat) : (s.scree src code cls data part).evOut = s.evOut := rfl
@[simp] theorem State.scree_scrSeq (src code cls : Nat) (data : List Byte) (part : Nat) : (s.scree src code cls data part).scrSeq = s.scrSeq := rfl
@[simp] theorem State.scree_pending (src code cls : Nat) (data : List Byte) (part : Nat) : (s.scree src code cls data part).pending = s.pending := rfl
@[simp] theorem State.get_scree (src code cls : Nat) (data : List Byte) (part : Nat) (G : Fld) : (s.scree src code cls data part).get G = s.get G := rfl
@[simp] theorem State.flag_scree (src code cls : Nat) (data : List Byte) (part : Nat) (G : Fld) : (s.scree src code cls data part).flag G = s.flag G := rfl
@[simp] theorem State.byte_scree (src code cls : Nat) (data : List Byte) (part : Nat) (adr : Nat) : (s.scree src code cls data part).byte adr = s.byte adr := rfl

end Sys2Proof.Machine
end

