-- ==== Sys2Proof/Laws/Tab.lean ====
section
/-!
SUPPORT. The laws of sparse tables: reading after writing, and that every operation keeps the
canonical form.
-/

namespace Sys2Proof.Machine

variable {α : Type}

@[simp] theorem Tab.get_nil (d : α) (k : Nat) : Tab.get d [] k = d := rfl

theorem Tab.get_del_same (d : α) (t : List (Nat × α)) (k : Nat) : Tab.get d (Tab.del t k) k = d := by
  induction t with
  | nil => rfl
  | cons e t ih =>
    obtain ⟨j, v⟩ := e
    by_cases h : j = k <;> simp [Tab.del, Tab.get, h, ih]

theorem Tab.get_del_ne (d : α) (t : List (Nat × α)) {k j : Nat} (h : j ≠ k) : Tab.get d (Tab.del t k) j = Tab.get d t j := by
  induction t with
  | nil => rfl
  | cons e t ih =>
    obtain ⟨i, v⟩ := e
    by_cases hk : i = k
    · subst hk
      simp [Tab.del, Tab.get, ih, h.symm]
    · by_cases hj : i = j
      · subst hj; simp [Tab.del, Tab.get, h]
      · simp [Tab.del, Tab.get, hk, hj, ih]

theorem Tab.above_mono {j k : Nat} (h : j ≤ k) {t : List (Nat × α)} (ha : Tab.above k t) : Tab.above j t := by
  simp only [Tab.above, List.all_eq_true, decide_eq_true_eq] at *
  exact fun e he => Nat.lt_of_le_of_lt h (ha e he)

theorem Tab.get_above (d : α) {t : List (Nat × α)} {k : Nat} (h : Tab.above k t) : Tab.get d t k = d := by
  induction t with
  | nil => rfl
  | cons e t ih =>
    obtain ⟨j, v⟩ := e
    simp only [Tab.above, List.all_cons, Bool.and_eq_true, decide_eq_true_eq] at h
    have : j ≠ k := fun e => by omega
    simp only [Tab.get, if_neg this]
    exact ih h.2

theorem Tab.get_ins_same (d : α) (t : List (Nat × α)) (k : Nat) (v : α) (h : Tab.get d t k = d)
    (hk : ∀ e ∈ t, e.1 ≠ k) : Tab.get d (Tab.ins t k v) k = v := by
  induction t with
  | nil => simp [Tab.ins, Tab.get]
  | cons e t ih =>
    obtain ⟨j, w⟩ := e
    have hj : j ≠ k := hk (j, w) (by simp)
    by_cases hl : k < j
    · simp [Tab.ins, Tab.get, hl]
    · simp only [Tab.ins, if_neg hl, Tab.get, if_neg hj]
      rw [Tab.get, if_neg hj] at h
      exact ih h fun e he => hk e (by simp [he])

theorem Tab.get_ins_ne (d : α) (t : List (Nat × α)) {k j : Nat} (v : α) (h : j ≠ k) :
    Tab.get d (Tab.ins t k v) j = Tab.get d t j := by
  induction t with
  | nil => simp [Tab.ins, Tab.get, h.symm]
  | cons e t ih =>
    obtain ⟨i, w⟩ := e
    by_cases hl : k < i
    · simp [Tab.ins, Tab.get, hl, h.symm]
    · by_cases hi : i = j
      · subst hi; simp [Tab.ins, Tab.get, hl]
      · simp [Tab.ins, Tab.get, hl, hi, ih]

theorem Tab.del_no_key (t : List (Nat × α)) (k : Nat) : ∀ e ∈ Tab.del t k, e.1 ≠ k := by
  induction t with
  | nil => simp [Tab.del]
  | cons e t ih =>
    obtain ⟨j, v⟩ := e
    by_cases h : j = k
    · simpa [Tab.del, h] using ih
    · simp only [Tab.del, if_neg h, List.mem_cons, forall_eq_or_imp]
      exact ⟨h, ih⟩

variable [DecidableEq α]

/-- A read after a write to the same key gives the value written. -/
@[simp] theorem Tab.get_set_same (d : α) (t : List (Nat × α)) (k : Nat) (v : α) : Tab.get d (Tab.set d t k v) k = v := by
  by_cases h : v = d
  · simp [Tab.set, h, Tab.get_del_same]
  · rw [Tab.set, if_neg h]
    exact Tab.get_ins_same d _ k v (Tab.get_del_same d t k) (Tab.del_no_key t k)

/-- A write leaves every other key alone, whatever an unlisted key reads as. -/
theorem Tab.get_set_ne (d d' : α) (t : List (Nat × α)) {k j : Nat} (v : α) (h : j ≠ k) :
    Tab.get d' (Tab.set d t k v) j = Tab.get d' t j := by
  by_cases hv : v = d <;> simp [Tab.set, hv, Tab.get_ins_ne, Tab.get_del_ne, h]

theorem Tab.get_set (d : α) (t : List (Nat × α)) (k j : Nat) (v : α) :
    Tab.get d (Tab.set d t k v) j = if j = k then v else Tab.get d t j := by
  by_cases h : j = k
  · subst h; simp
  · simp [h, Tab.get_set_ne]

@[simp] theorem Tab.get_upd_same (d : α) (t : List (Nat × α)) (k : Nat) (f : α → α) :
    Tab.get d (Tab.upd d t k f) k = f (Tab.get d t k) := by simp [Tab.upd]

theorem Tab.get_upd_ne (d : α) (t : List (Nat × α)) {k j : Nat} (f : α → α) (h : j ≠ k) :
    Tab.get d (Tab.upd d t k f) j = Tab.get d t j := by simp [Tab.upd, Tab.get_set_ne, h]

/-! ## The canonical form -/

@[simp] theorem Tab.wf_nil (d : α) : Tab.wf d [] = true := rfl

omit [DecidableEq α] in
theorem Tab.above_del {t : List (Nat × α)} {j : Nat} (k : Nat) (h : Tab.above j t) : Tab.above j (Tab.del t k) := by
  induction t with
  | nil => rfl
  | cons e t ih =>
    obtain ⟨i, v⟩ := e
    simp only [Tab.above, List.all_cons, Bool.and_eq_true] at h ih ⊢
    by_cases hk : i = k
    · simpa [Tab.del, hk] using ih h.2
    · simpa [Tab.del, hk] using ⟨by simpa using h.1, by simpa using ih h.2⟩

omit [DecidableEq α] in
theorem Tab.above_ins {t : List (Nat × α)} {j k : Nat} (v : α) (hk : j < k) (h : Tab.above j t) :
    Tab.above j (Tab.ins t k v) := by
  induction t with
  | nil => simpa [Tab.ins, Tab.above] using hk
  | cons e t ih =>
    obtain ⟨i, w⟩ := e
    simp only [Tab.above, List.all_cons, Bool.and_eq_true, decide_eq_true_eq] at h ih ⊢
    by_cases hl : k < i
    · simp only [Tab.ins, if_pos hl, List.all_cons, Bool.and_eq_true, decide_eq_true_eq]
      exact ⟨hk, h.1, h.2⟩
    · simp only [Tab.ins, if_neg hl, List.all_cons, Bool.and_eq_true, decide_eq_true_eq]
      exact ⟨h.1, ih h.2⟩

omit [DecidableEq α] in
theorem Tab.rising_del {t : List (Nat × α)} (k : Nat) (h : Tab.rising t) : Tab.rising (Tab.del t k) := by
  induction t with
  | nil => rfl
  | cons e t ih =>
    obtain ⟨i, v⟩ := e
    simp only [Tab.rising, Bool.and_eq_true] at h
    by_cases hk : i = k
    · simpa [Tab.del, hk] using ih h.2
    · simp only [Tab.del, if_neg hk, Tab.rising, Bool.and_eq_true]
      exact ⟨Tab.above_del k h.1, ih h.2⟩

omit [DecidableEq α] in
theorem Tab.rising_ins {t : List (Nat × α)} (k : Nat) (v : α) (hk : ∀ e ∈ t, e.1 ≠ k) (h : Tab.rising t) :
    Tab.rising (Tab.ins t k v) := by
  induction t with
  | nil => rfl
  | cons e t ih =>
    obtain ⟨i, w⟩ := e
    have hi : i ≠ k := hk (i, w) (by simp)
    have h' := h
    simp only [Tab.rising, Bool.and_eq_true] at h
    by_cases hl : k < i
    · simp only [Tab.ins, if_pos hl]
      rw [Tab.rising, h', Bool.and_true]
      simp only [Tab.above, List.all_cons, Bool.and_eq_true, decide_eq_true_eq]
      exact ⟨hl, Tab.above_mono (Nat.le_of_lt hl) h.1⟩
    · simp only [Tab.ins, if_neg hl, Tab.rising, Bool.and_eq_true]
      exact ⟨Tab.above_ins v (by omega) h.1, ih (fun e he => hk e (by simp [he])) h.2⟩

omit [DecidableEq α] in
theorem Tab.mem_del {t : List (Nat × α)} {k : Nat} {e : Nat × α} (h : e ∈ Tab.del t k) : e ∈ t := by
  induction t with
  | nil => simp [Tab.del] at h
  | cons a t ih =>
    obtain ⟨i, v⟩ := a
    by_cases hk : i = k
    · rw [Tab.del, if_pos hk] at h; exact List.mem_cons_of_mem _ (ih h)
    · rw [Tab.del, if_neg hk, List.mem_cons] at h
      exact h.elim (fun e => by simp [e]) fun h => List.mem_cons_of_mem _ (ih h)

omit [DecidableEq α] in
theorem Tab.mem_ins {t : List (Nat × α)} {k : Nat} {v : α} {e : Nat × α} (h : e ∈ Tab.ins t k v) : e = (k, v) ∨ e ∈ t := by
  induction t with
  | nil => simpa [Tab.ins] using h
  | cons a t ih =>
    obtain ⟨i, w⟩ := a
    by_cases hl : k < i
    · rw [Tab.ins, if_pos hl, List.mem_cons] at h; exact h
    · rw [Tab.ins, if_neg hl, List.mem_cons] at h
      rcases h with h | h
      · right; simp [h]
      · rcases ih h with h | h
        · exact .inl h
        · right; simp [h]

/-- Every write keeps the canonical form. -/
theorem Tab.wf_set (d : α) {t : List (Nat × α)} (k : Nat) (v : α) (h : Tab.wf d t) : Tab.wf d (Tab.set d t k v) := by
  simp only [Tab.wf, Bool.and_eq_true, List.all_eq_true, decide_eq_true_eq] at h ⊢
  by_cases hv : v = d
  · rw [Tab.set, if_pos hv]
    exact ⟨Tab.rising_del k h.1, fun e he => h.2 e (Tab.mem_del he)⟩
  · rw [Tab.set, if_neg hv]
    refine ⟨Tab.rising_ins k v (Tab.del_no_key t k) (Tab.rising_del k h.1), fun e he => ?_⟩
    rcases Tab.mem_ins he with h' | h'
    · rw [h']; exact hv
    · exact h.2 e (Tab.mem_del h')

theorem Tab.wf_upd (d : α) {t : List (Nat × α)} (k : Nat) (f : α → α) (h : Tab.wf d t) : Tab.wf d (Tab.upd d t k f) :=
  Tab.wf_set d k _ h

omit [DecidableEq α] in
theorem Tab.above_filter {t : List (Nat × α)} {j : Nat} (p : Nat × α → Bool) (h : Tab.above j t) : Tab.above j (t.filter p) := by
  simp only [Tab.above, List.all_eq_true] at *
  exact fun e he => h e ((List.mem_filter.1 he).1)

/-- Dropping entries keeps the canonical form. -/
theorem Tab.wf_filter (d : α) {t : List (Nat × α)} (p : Nat × α → Bool) (h : Tab.wf d t) : Tab.wf d (t.filter p) := by
  induction t with
  | nil => rfl
  | cons e t ih =>
    simp only [Tab.wf, Tab.rising, List.all_cons, Bool.and_eq_true, List.all_eq_true] at h ih ⊢
    have ih := ih ⟨h.1.2, h.2.2⟩
    by_cases hp : p e
    · rw [List.filter_cons_of_pos hp]
      refine ⟨by simp only [Tab.rising, Bool.and_eq_true]; exact ⟨Tab.above_filter p h.1.1, ih.1⟩, ?_⟩
      intro x hx
      rcases List.mem_cons.1 hx with h' | h'
      · rw [h']; exact h.2.1
      · exact ih.2 x h'
    · rw [List.filter_cons_of_neg (by simpa using hp)]
      exact ih

theorem Tab.wf_foldl_set (d : α) (l : List (Nat × α)) (t : List (Nat × α)) (h : Tab.wf d t) :
    Tab.wf d (l.foldl (fun t e => Tab.set d t e.1 e.2) t) := by
  induction l generalizing t with
  | nil => exact h
  | cons e l ih => exact ih _ (Tab.wf_set d _ _ h)

/-- The canonical form of any list of entries is canonical. -/
theorem Tab.wf_norm (d : α) (l : List (Nat × α)) : Tab.wf d (Tab.norm d l) := Tab.wf_foldl_set d l [] rfl

/-- Equal tables are equal lists: a canonical table is determined by what it reads as. -/
theorem Tab.ext_get (d : α) {t u : List (Nat × α)} (ht : Tab.wf d t) (hu : Tab.wf d u)
    (h : ∀ k, Tab.get d t k = Tab.get d u k) : t = u := by
  have key : ∀ {e : Nat × α} {t}, Tab.wf d (e :: t) → Tab.above e.1 t ∧ e.2 ≠ d ∧ Tab.wf d t := by
    intro e t h
    simp only [Tab.wf, Tab.rising, List.all_cons, Bool.and_eq_true, decide_eq_true_eq] at h ⊢
    exact ⟨h.1.1, h.2.1, h.1.2, h.2.2⟩
  have low : ∀ {j : Nat} {e : Nat × α} {t}, Tab.above e.1 t → j < e.1 → Tab.get d (e :: t) j = d := by
    intro j e t ha hj
    refine Tab.get_above d ?_
    rw [Tab.above, List.all_cons, Bool.and_eq_true]
    exact ⟨by simpa using hj, Tab.above_mono (Nat.le_of_lt hj) ha⟩
  induction t generalizing u with
  | nil =>
    cases u with
    | nil => rfl
    | cons e u => exact absurd (by simpa [Tab.get] using (h e.1).symm) (key hu).2.1
  | cons e t ih =>
    cases u with
    | nil => exact absurd (by simpa [Tab.get] using h e.1) (key ht).2.1
    | cons f u =>
      obtain ⟨i, v⟩ := e
      obtain ⟨j, w⟩ := f
      have ⟨at_, nt, wt⟩ := key ht
      have ⟨au, nu, wu⟩ := key hu
      have hij : i = j := by
        rcases Nat.lt_trichotomy i j with hl | hl | hl
        · have := h i; rw [low au hl] at this; exact absurd (by simpa [Tab.get] using this) nt
        · exact hl
        · have := h j; rw [low at_ hl] at this; exact absurd (by simpa [Tab.get] using this.symm) nu
      subst hij
      have hvw : v = w := by simpa [Tab.get] using h i
      subst hvw
      rw [ih wt wu fun k => ?_]
      by_cases hk : i = k
      · subst hk; rw [Tab.get_above d at_, Tab.get_above d au]
      · simpa [Tab.get, hk] using h k

end Sys2Proof.Machine
end

