-- ==== Sys2Proof/Laws/Ops.lean ====
section
/-!
SUPPORT. The laws of the operations of Machine/Ops.lean: reading a register field or an octet after a write,
what an operation leaves, the canonical form, and what raising an event can do.
-/

namespace Sys2Proof.Machine

open Reg

/-! ## Register fields -/

@[simp] theorem State.get_set_same (s : State) (F : Fld) (v : Nat) : (s.set F v).get F = v % 2 ^ F.w := by
  simp [State.get, State.set]

theorem State.get_set_ne (s : State) {F G : Fld} (v : Nat) (h : G.key ≠ F.key) : (s.set F v).get G = s.get G := by
  simp [State.get, State.set, Tab.get_set_ne, h]

theorem State.get_setB_same (s : State) (F : Fld) (b : Bool) (h : 0 < F.w) : (s.setB F b).get F = b.toNat := by
  have : b.toNat < 2 ^ F.w := Nat.lt_of_le_of_lt (Bool.toNat_le b) (Nat.one_lt_two_pow (by omega))
  simp [State.setB, Nat.mod_eq_of_lt this]

theorem State.get_setB_ne (s : State) {F G : Fld} (b : Bool) (h : G.key ≠ F.key) : (s.setB F b).get G = s.get G :=
  s.get_set_ne _ h

theorem State.get_count_same (s : State) (F : Fld) (n : Nat) :
    (s.count F n).get F = min (s.get F + n) (2 ^ F.w - 1) := by
  have : 0 < 2 ^ F.w := Nat.two_pow_pos _
  rw [State.count, State.get_set_same, Nat.mod_eq_of_lt (by omega)]

theorem State.get_count_ne (s : State) {F G : Fld} (n : Nat) (h : G.key ≠ F.key) : (s.count F n).get G = s.get G :=
  s.get_set_ne _ h

theorem State.get_sets_ne (s : State) {l : List (Fld × Nat)} {G : Fld} (h : ∀ e ∈ l, G.key ≠ e.1.key) :
    (s.sets l).get G = s.get G := by
  induction l generalizing s with
  | nil => rfl
  | cons e l ih =>
    have := ih (s.set e.1 e.2) fun x hx => h x (List.mem_cons_of_mem _ hx)
    rw [State.get_set_ne s _ (h e (List.mem_cons_self ..))] at this
    exact this

/-- What an update of registers alone leaves: all the rest of the state. -/
theorem State.sets_rest (s : State) (l : List (Fld × Nat)) : { s.sets l with regs := s.regs } = s := by
  have : ∀ r, { s.sets l with regs := r } = { s with regs := r } := by
    induction l generalizing s with
    | nil => intro r; rfl
    | cons e l ih => intro r; exact ih (s.set e.1 e.2) r
  exact this s.regs

theorem State.putFld_eq (s : State) (w : Nat) (F : Fld) :
    s.putFld w F = s ∨ s.putFld w F = s.set F (bits w F.lo F.w) := by
  unfold State.putFld
  split <;> simp

end Sys2Proof.Machine

namespace Sys2Proof

open Machine

/-! ## Frames over registers -/

theorem Kept.rfl {l : List Fld} {s : State} : Kept l s s := fun _ _ => Eq.refl _

theorem Kept.trans {l : List Fld} {s t u : State} (h : Kept l s t) (k : Kept l t u) : Kept l s u :=
  fun F hF => (k F hF).trans (h F hF)

theorem Kept.mono {l m : List Fld} {s t : State} (hl : ∀ F ∈ l, F ∈ m) (h : Kept l s t) : Kept m s t :=
  fun F hF => h F fun G hG => hF G (hl G hG)

theorem Kept.of_regs {l : List Fld} {s t u : State} (h : Kept l s t) (e : u.regs = t.regs) : Kept l s u := by
  intro F hF
  rw [← h F hF, State.get, State.get, e]

theorem Kept.set {l : List Fld} {s t : State} (F : Fld) (v : Nat) (hF : F ∈ l) (h : Kept l s t) : Kept l s (t.set F v) :=
  fun G hG => (t.get_set_ne v (hG F hF)).trans (h G hG)

theorem Kept.setB {l : List Fld} {s t : State} (F : Fld) (b : Bool) (hF : F ∈ l) (h : Kept l s t) : Kept l s (t.setB F b) :=
  Kept.set F _ hF h

theorem Kept.count {l : List Fld} {s t : State} (F : Fld) (n : Nat) (hF : F ∈ l) (h : Kept l s t) : Kept l s (t.count F n) :=
  Kept.set F _ hF h

theorem Kept.sets {l : List Fld} {s t : State} (m : List (Fld × Nat)) (hm : ∀ e ∈ m, e.1 ∈ l) (h : Kept l s t) :
    Kept l s (t.sets m) := by
  induction m generalizing t with
  | nil => exact h
  | cons e m ih =>
    exact ih (fun x hx => hm x (List.mem_cons_of_mem _ hx)) (Kept.set e.1 e.2 (hm e (List.mem_cons_self ..)) h)

theorem OnlyRegs.rfl {l : List Fld} {s : State} : OnlyRegs l s s := ⟨Eq.refl s, Kept.rfl⟩

theorem OnlyRegs.trans {l : List Fld} {s t u : State} (h : OnlyRegs l s t) (k : OnlyRegs l t u) : OnlyRegs l s u := by
  refine ⟨?_, h.2.trans k.2⟩
  calc { u with regs := s.regs } = { ({ u with regs := t.regs } : State) with regs := s.regs } := Eq.refl _
    _ = { t with regs := s.regs } := by rw [k.1]
    _ = s := h.1

theorem OnlyRegs.mono {l m : List Fld} {s t : State} (hl : ∀ F ∈ l, F ∈ m) (h : OnlyRegs l s t) : OnlyRegs m s t :=
  ⟨h.1, h.2.mono hl⟩

theorem OnlyRegs.set {l : List Fld} {s t : State} (F : Fld) (v : Nat) (hF : F ∈ l) (h : OnlyRegs l s t) :
    OnlyRegs l s (t.set F v) := ⟨h.1, Kept.set F v hF h.2⟩

theorem OnlyRegs.sets {l : List Fld} {s t : State} (m : List (Fld × Nat)) (hm : ∀ e ∈ m, e.1 ∈ l) (h : OnlyRegs l s t) :
    OnlyRegs l s (t.sets m) := by
  refine h.trans ⟨t.sets_rest m, Kept.sets m hm Kept.rfl⟩

theorem OnlyRegs.sameMem {l : List Fld} {s t : State} (h : OnlyRegs l s t) : SameMem s t := by
  intro a
  rw [State.byte, State.byte, show s.mem = ({ t with regs := s.regs } : State).mem by rw [h.1]]

end Sys2Proof

namespace Sys2Proof.Machine

open Reg

/-! ## Memory -/

@[simp] theorem State.byte_setByte_same (s : State) (a : Nat) (b : Byte) : (s.setByte a b).byte a = b := by
  simp [State.byte, State.setByte]

theorem State.byte_setByte_ne (s : State) {a x : Nat} (b : Byte) (h : x ≠ a) : (s.setByte a b).byte x = s.byte x := by
  simp [State.byte, State.setByte, Tab.get_set_ne, h]

/-- A store reaches its octets and no other. -/
theorem State.byte_store (s : State) (a : Nat) (l : List Byte) (x : Nat) :
    (s.store a l).byte x = if h : a ≤ x ∧ x < a + l.length then l[x - a] else s.byte x := by
  induction l generalizing s a with
  | nil => simp [State.store, show ¬(a ≤ x ∧ x < a) by omega]
  | cons b l ih =>
    rw [State.store, ih]
    by_cases h1 : a + 1 ≤ x ∧ x < a + 1 + l.length
    · rw [dif_pos h1, dif_pos (by simp; omega)]
      obtain ⟨k, rfl⟩ : ∃ k, x = a + 1 + k := ⟨x - (a + 1), by omega⟩
      simp [show a + 1 + k - a = k + 1 by omega]
    · rw [dif_neg h1]
      by_cases h2 : x = a
      · subst h2
        simp
      · rw [s.byte_setByte_ne b h2, dif_neg (by simp; omega)]

/-- A store changes memory alone. -/
theorem State.store_rest (s : State) (a : Nat) (l : List Byte) : ∃ m, s.store a l = { s with mem := m } := by
  induction l generalizing s a with
  | nil => exact ⟨s.mem, Eq.refl _⟩
  | cons b l ih =>
    obtain ⟨m, h⟩ := ih (s.setByte a b) (a + 1)
    exact ⟨m, h⟩

@[simp] theorem State.store_regs (s : State) (a : Nat) (l : List Byte) : (s.store a l).regs = s.regs := by
  obtain ⟨m, h⟩ := s.store_rest a l
  rw [h]

theorem State.octs_length (s : State) (a n : Nat) : (s.octs a n).length = n := by
  induction n generalizing a with
  | zero => rfl
  | succ n ih => simp [State.octs, ih]

theorem State.octs_getElem (s : State) (a n i : Nat) (h : i < (s.octs a n).length) : (s.octs a n)[i] = s.byte (a + i) := by
  induction n generalizing a i with
  | zero => simp [State.octs] at h
  | succ n ih =>
    cases i with
    | zero => rfl
    | succ i =>
      have := ih (a + 1) i (by simpa [State.octs] using h)
      simpa [State.octs, show a + (i + 1) = a + 1 + i by omega] using this

/-- What was stored is read back. -/
theorem State.octs_store (s : State) (a : Nat) (l : List Byte) : (s.store a l).octs a l.length = l := by
  apply List.ext_getElem (by rw [State.octs_length])
  intro i h1 h2
  rw [State.octs_getElem, State.byte_store, dif_pos (by omega)]
  simp

/-- Zeroing reaches its octets and no other. -/
theorem State.byte_zero (s : State) (a n x : Nat) :
    (s.zero a n).byte x = if a ≤ x ∧ x < a + n then 0 else s.byte x := by
  unfold State.zero State.byte
  simp only
  induction s.mem with
  | nil => simp [memDefault]
  | cons e t ih =>
    obtain ⟨j, v⟩ := e
    by_cases hj : j < a ∨ a + n ≤ j
    · rw [List.filter_cons_of_pos (by simpa using hj), Tab.get, Tab.get]
      by_cases e : j = x
      · rw [if_pos e, if_pos e, if_neg (by omega)]
      · rw [if_neg e, if_neg e, ih]
    · rw [List.filter_cons_of_neg (by simpa using hj), ih, Tab.get]
      by_cases h : a ≤ x ∧ x < a + n
      · rw [if_pos h, if_pos h]
      · rw [if_neg h, if_neg h, if_neg (by omega)]

/-! ## The canonical form of memory: every memory operation keeps it -/

theorem State.wf_setByte {s : State} (a : Nat) (b : Byte) (h : Memory.wf s.mem = true) : Memory.wf (s.setByte a b).mem = true :=
  Tab.wf_set _ _ _ h

theorem State.wf_store {s : State} (a : Nat) (l : List Byte) (h : Memory.wf s.mem = true) : Memory.wf (s.store a l).mem = true := by
  induction l generalizing s a with
  | nil => exact h
  | cons b l ih => exact ih _ (State.wf_setByte a b h)

theorem State.wf_putNum {s : State} (a n v : Nat) (h : Memory.wf s.mem = true) : Memory.wf (s.putNum a n v).mem = true :=
  State.wf_store a _ h

theorem State.wf_zero {s : State} (a n : Nat) (h : Memory.wf s.mem = true) : Memory.wf (s.zero a n).mem = true :=
  Tab.wf_filter _ _ h

theorem State.wf_copy {s : State} (src dst n : Nat) (h : Memory.wf s.mem = true) : Memory.wf (s.copy src dst n).mem = true := by
  unfold State.copy
  generalize s.mem.filter _ = l
  suffices ∀ (t : State), Memory.wf t.mem = true →
      Memory.wf (l.foldl (fun s e => s.setByte (e.1 - src + dst) e.2) t).mem = true from this _ (State.wf_zero dst n h)
  induction l with
  | nil => exact fun t ht => ht
  | cons e l ih => exact fun t ht => ih _ (State.wf_setByte _ _ ht)

theorem State.wf_reset : Memory.wf State.reset.mem = true := by decide

/-! ## The canonical form of the register store -/

theorem Tab.rising_set {α : Type} [DecidableEq α] (d : α) {t : List (Nat × α)} (k : Nat) (v : α) (h : Tab.rising t = true) :
    Tab.rising (Tab.set d t k v) = true := by
  unfold Tab.set
  split
  · exact Tab.rising_del k h
  · exact Tab.rising_ins k v (Tab.del_no_key t k) (Tab.rising_del k h)

theorem Tab.rising_filter {α : Type} {t : List (Nat × α)} (p : Nat × α → Bool) (h : Tab.rising t = true) :
    Tab.rising (t.filter p) = true := by
  induction t with
  | nil => rfl
  | cons e t ih =>
    obtain ⟨j, v⟩ := e
    simp only [Tab.rising, Bool.and_eq_true] at h
    by_cases hp : p (j, v) = true
    · rw [List.filter_cons_of_pos hp]
      simp only [Tab.rising, Bool.and_eq_true]
      exact ⟨Tab.above_filter p h.1, ih h.2⟩
    · rw [List.filter_cons_of_neg hp]
      exact ih h.2

theorem State.Canonical.set {s : State} (F : Fld) (v : Nat) (h : s.Canonical) : (s.set F v).Canonical :=
  ⟨h.1, Tab.rising_set _ _ _ h.2⟩

theorem State.Canonical.sets {s : State} (l : List (Fld × Nat)) (h : s.Canonical) : (s.sets l).Canonical := by
  induction l generalizing s with
  | nil => exact h
  | cons e l ih => exact ih (h.set e.1 e.2)

theorem State.Canonical.store {s : State} (a : Nat) (l : List Byte) (h : s.Canonical) : (s.store a l).Canonical :=
  ⟨State.wf_store a l h.1, by simpa using h.2⟩

theorem State.Canonical.zero {s : State} (a n : Nat) (h : s.Canonical) : (s.zero a n).Canonical :=
  ⟨State.wf_zero a n h.1, h.2⟩

/-! ## Numbered parts -/

@[simp] theorem State.part_updPart_same (s : State) (p : Nat) (f : Part → Part) : (s.updPart p f).part p = f (s.part p) := by
  simp [State.part, State.updPart]
theorem State.part_updPart_ne (s : State) {p q : Nat} (f : Part → Part) (h : q ≠ p) : (s.updPart p f).part q = s.part q := by
  simp [State.part, State.updPart, Tab.get_upd_ne, h]
@[simp] theorem State.prog_updProg_same (s : State) (k : Nat) (f : Prog → Prog) : (s.updProg k f).prog k = f (s.prog k) := by
  simp [State.prog, State.updProg]
theorem State.prog_updProg_ne (s : State) {k j : Nat} (f : Prog → Prog) (h : j ≠ k) : (s.updProg k f).prog j = s.prog j := by
  simp [State.prog, State.updProg, Tab.get_upd_ne, h]
@[simp] theorem State.synth_updSynth_same (s : State) (x : Nat) (f : SynSt → SynSt) : (s.updSynth x f).synth x = f (s.synth x) := by
  simp [State.synth, State.updSynth]
theorem State.synth_updSynth_ne (s : State) {x y : Nat} (f : SynSt → SynSt) (h : y ≠ x) : (s.updSynth x f).synth y = s.synth y := by
  simp [State.synth, State.updSynth, Tab.get_upd_ne, h]
@[simp] theorem State.engine_updEngine_same (s : State) (e : Nat) (f : EngSt → EngSt) :
    (s.updEngine e f).engine e = f (s.engine e) := by simp [State.engine, State.updEngine]
theorem State.engine_updEngine_ne (s : State) {e j : Nat} (f : EngSt → EngSt) (h : j ≠ e) :
    (s.updEngine e f).engine j = s.engine j := by simp [State.engine, State.updEngine, Tab.get_upd_ne, h]
@[simp] theorem State.seqr_updSeqr_same (s : State) (x : Nat) (f : SeqSt → SeqSt) : (s.updSeqr x f).seqr x = f (s.seqr x) := by
  simp [State.seqr, State.updSeqr]
theorem State.seqr_updSeqr_ne (s : State) {x y : Nat} (f : SeqSt → SeqSt) (h : y ≠ x) : (s.updSeqr x f).seqr y = s.seqr y := by
  simp [State.seqr, State.updSeqr, Tab.get_upd_ne, h]
@[simp] theorem State.mb_updMb_same (s : State) (p : Nat) (f : Mbox → Mbox) : (s.updMb p f).mb p = f (s.mb p) := by
  simp [State.mb, State.updMb]
theorem State.mb_updMb_ne (s : State) {p q : Nat} (f : Mbox → Mbox) (h : q ≠ p) : (s.updMb p f).mb q = s.mb q := by
  simp [State.mb, State.updMb, Tab.get_upd_ne, h]
@[simp] theorem State.port_updPort_same (s : State) (x : Nat) (f : Port → Port) : (s.updPort x f).port x = f (s.port x) := by
  simp [State.port, State.updPort]
theorem State.port_updPort_ne (s : State) {x y : Nat} (f : Port → Port) (h : y ≠ x) : (s.updPort x f).port y = s.port y := by
  simp [State.port, State.updPort, Tab.get_upd_ne, h]

/-- The numbers of two contexts differ unless the contexts are the same. -/
theorem ctxNum_inj {c d : Ctx} (h : ctxNum c = ctxNum d) : c = d := by
  rcases c with ⟨p, _ | _⟩ | _ | _ | _ | _ <;> rcases d with ⟨q, _ | _⟩ | _ | _ | _ | _ <;> simp only [ctxNum] at h <;>
    first | rfl | omega | (rw [show p = q by omega])

/-! ## Free values -/

/-- A free value fits its width, and drawing it advances the model's counter alone. -/
theorem State.free_spec (s : State) (w : Nat) :
    (s.free w).1 < 2 ^ w ∧ (s.free w).2 = { s with fresh := s.fresh + 1 } :=
  ⟨Nat.mod_lt _ (Nat.two_pow_pos w), rfl⟩

/-- Octets of the DRBG: as many as asked for; drawing them advances its position alone. -/
theorem State.random_spec (s : State) (n : Nat) :
    (s.random n).1.length = n ∧ (s.random n).2 = { s with drbg := s.drbg + n } := by
  simp [State.random]

/-! ## Events (R277) -/

theorem State.raiseProg_pend (s : State) (b k : Nat) :
    (s.raiseProg b k).get (PEC_PEND_PEND.at b) = (s.get (PEC_PEND_PEND.at b) ||| 2 ^ k) % 2 ^ 32 := by
  simp only [State.raiseProg, State.get_set_same]; rfl

theorem State.raiseProg_only (s : State) (b k : Nat) : OnlyRegs [PEC_PEND_PEND.at b, PEC_OVF_OVF.at b] s (s.raiseProg b k) := by
  refine OnlyRegs.set _ _ (by simp) ?_
  split
  · exact OnlyRegs.set _ _ (by simp) OnlyRegs.rfl
  · exact OnlyRegs.rfl

/-- A latch set stays set, and the latches beside it are as they were (R277). -/
theorem State.raiseHost_bit (s : State) (p k j : Nat) (h : j < 32) :
    ((s.raiseHost p k).get (PEC_HPEND_HPEND.at p)).testBit j = (decide (k = j) || (s.get (PEC_HPEND_HPEND.at p)).testBit j) := by
  rw [State.raiseHost, State.get_set_same, show (PEC_HPEND_HPEND.at p).w = 32 from rfl, Nat.testBit_mod_two_pow,
    Nat.testBit_or, Nat.testBit_two_pow, decide_eq_true h, Bool.true_and, Bool.or_comm]

theorem State.raiseProg_bit (s : State) (b k j : Nat) (h : j < 32) :
    ((s.raiseProg b k).get (PEC_PEND_PEND.at b)).testBit j = (decide (k = j) || (s.get (PEC_PEND_PEND.at b)).testBit j) := by
  rw [State.raiseProg_pend, Nat.testBit_mod_two_pow, Nat.testBit_or, Nat.testBit_two_pow, decide_eq_true h, Bool.true_and,
    Bool.or_comm]

theorem State.raiseHost_only (s : State) (p k : Nat) : OnlyRegs [PEC_HPEND_HPEND.at p] s (s.raiseHost p k) :=
  OnlyRegs.set _ _ (by simp) OnlyRegs.rfl

theorem evFlds_mem {b : Nat} (h : b < 64) :
    PEC_PEND_PEND.at b ∈ evFlds ∧ PEC_OVF_OVF.at b ∈ evFlds ∧ PEC_HPEND_HPEND.at b ∈ evFlds := by
  simp only [evFlds, List.mem_flatMap, List.mem_range]
  exact ⟨⟨b, h, by simp⟩, ⟨b, h, by simp⟩, ⟨b, h, by simp⟩⟩

theorem State.raiseProg_ev (s : State) {b : Nat} (k : Nat) (h : b < 64) : OnlyRegs evFlds s (s.raiseProg b k) :=
  (s.raiseProg_only b k).mono (by simp [evFlds_mem h])

theorem State.raiseHost_ev (s : State) {p : Nat} (k : Nat) (h : p < 64) : OnlyRegs evFlds s (s.raiseHost p k) :=
  (s.raiseHost_only p k).mono (by simp [evFlds_mem h])

theorem State.pexists_lt {s : State} {p : Nat} (h : s.pexists p = true) : p < 32 := by
  simp only [State.pexists, decide_eq_true_eq] at h
  exact h.1

/-- Raising an event writes event latches alone. -/
theorem State.raise_only (s : State) (p : Nat) (e : Ev) : OnlyRegs evFlds s (s.raise p e) := by
  unfold State.raise
  split
  · rename_i h
    have hp := State.pexists_lt (Bool.and_eq_true_iff.1 h).1
    refine OnlyRegs.trans ?_ (State.raiseHost_ev _ _ (by omega))
    split
    · exact (s.raiseProg_ev _ (by omega)).trans (State.raiseProg_ev _ _ (by simp [latchBank]; omega))
    · exact s.raiseProg_ev _ (by omega)
  · exact OnlyRegs.rfl

theorem State.raiseImg_only (s : State) (p : Nat) (b : Bool) (e : Ev) : OnlyRegs evFlds s (s.raiseImg p b e) := by
  unfold State.raiseImg
  split
  · rename_i h
    have hp := State.pexists_lt (Bool.and_eq_true_iff.1 h).1
    refine OnlyRegs.trans (State.raiseProg_ev _ _ ?_) (State.raiseHost_ev _ _ (by omega))
    unfold latchBank
    split <;> omega
  · exact OnlyRegs.rfl

theorem State.each_only {l : List Fld} (s : State) (m : List Nat) (f : State → Nat → State)
    (h : ∀ t p, OnlyRegs l t (f t p)) : OnlyRegs l s (s.each m f) := by
  unfold State.each
  induction m generalizing s with
  | nil => exact OnlyRegs.rfl
  | cons p m ih => exact (h s p).trans (ih (f s p))

theorem Ev.bit_lt (e : Ev) : e.bit < 32 := by cases e <;> decide

theorem pend_ne_hpend (b p : Nat) : (PEC_PEND_PEND.at b).key ≠ (PEC_HPEND_HPEND.at p).key := by
  simp only [PEC_PEND_PEND, PEC_HPEND_HPEND, Reg.mk, Fld.mk', Fld.at, Fld.key]
  omega

/-- An event raised in a partition that has it is pending there, on both sides (R277). -/
theorem State.raise_pends (s : State) (p : Nat) (e : Ev) (h : s.pexists p = true) (he : evIn p e = true) :
    Pends (s.raise p e) p e := by
  have hp := State.pexists_lt h
  have hk := e.bit_lt
  have hne := pend_ne_hpend p p
  unfold State.raise
  rw [if_pos (by simp [h, he])]
  refine ⟨?_, ?_⟩
  · rw [State.raiseHost, State.get_set_ne _ _ hne]
    split
    · rw [latchBank, if_pos rfl]
      by_cases hb : 32 + p = p
      · omega
      · have : (State.raiseProg (s.raiseProg p e.bit) (32 + p) e.bit).get (PEC_PEND_PEND.at p) =
            (s.raiseProg p e.bit).get (PEC_PEND_PEND.at p) := by
          apply (State.raiseProg_only ..).2
          simp only [List.mem_cons, List.not_mem_nil, or_false, forall_eq_or_imp, forall_eq, PEC_PEND_PEND, PEC_OVF_OVF, Reg.mk, Fld.mk', Fld.at, Fld.key]
          omega
        rw [this, State.raiseProg_bit _ _ _ _ hk]
        simp
    · rw [State.raiseProg_bit _ _ _ _ hk]
      simp
  · rw [State.raiseHost_bit _ _ _ _ hk]
    simp

/-- Raising an event in every partition writes event latches alone. -/
theorem State.raiseAll_only (s : State) (e : Ev) : OnlyRegs evFlds s (s.raiseAll e) :=
  s.each_only _ _ fun t p => t.raise_only p e

theorem State.raiseMask_only (s : State) (m : Nat) (e : Ev) : OnlyRegs evFlds s (s.raiseMask m e) :=
  s.each_only _ _ fun t p => t.raise_only p e

end Sys2Proof.Machine
end

