-- ==== Sys2Proof/Laws/Isa.lean ====
section
/-!
SUPPORT. What issuing an instruction can do: nothing where the context may not issue, a fault, and for an
instruction whose effect is its context's own the result in the registers, PC and the cycles.
-/

namespace Sys2Proof.Machine

/-- A context that may not issue leaves the state. -/
theorem State.issue_not (s : State) (c : Ctx) (al : Allow) (legal : Bool) (f : State → Prog → Eff)
    (h : s.mayIssue c = false) : s.issue c al legal f = s := by
  simp [State.issue, h]

/-- Taking the turn changes the engines alone. -/
theorem State.takeTurn_eng (s : State) (c : Ctx) : ∃ e, s.takeTurn c = { s with eng := e } := by
  unfold State.takeTurn
  split
  · split
    · exact ⟨s.eng, rfl⟩
    · exact ⟨_, rfl⟩
  · exact ⟨s.eng, rfl⟩

/-- Where an access goes does not depend on whose turn it is. -/
theorem State.place_takeTurn (s : State) (c d : Ctx) (k : BusAcc) (a n : Nat) :
    (s.takeTurn c).place d k a n = s.place d k a n := by
  obtain ⟨e, h⟩ := s.takeTurn_eng c
  rw [h]
  cases d with
  | part p b => simp only [State.place, State.placeWin]; rfl
  | _ => rfl

theorem State.prog_takeTurn (s : State) (c : Ctx) (k : Nat) : (s.takeTurn c).prog k = s.prog k := by
  obtain ⟨e, h⟩ := s.takeTurn_eng c
  rw [h]
  rfl

/-- A context that issues is ready and not halted. -/
theorem State.mayIssue_going {s : State} {c : Ctx} (h : s.mayIssue c = true) : (s.prog (ctxNum c)).run = .ready := by
  simp only [State.mayIssue, Bool.and_eq_true, Prog.going, decide_eq_true_eq] at h
  exact h.1.1.1.1

/-- What an instruction does whose effect is its own context's: the profile and the encoding allow it, its effect leaves
the run state, the halts and the counts of the context, and touches no memory. -/
theorem State.issue_own {s : State} {c : Ctx} {al : Allow} {legal : Bool} {f : State → Prog → Eff} (h : Prog → Prog)
    (dest : Option Word) (n : Nat) (hr : Ready s c) (ha : al.on c = true) (hl : legal = true)
    (hf : ∀ t : State, t.prog (ctxNum c) = s.prog (ctxNum c) →
      f t (s.prog (ctxNum c)) = .inr { st := t.onProg c h, dest := dest, cyc := n })
    (hk : ∀ g, (h g).run = g.run ∧ (h g).stepping = g.stepping ∧ (h g).haltPend = g.haltPend ∧ (h g).cyc = g.cyc ∧
      (h g).wdog = g.wdog) :
    Ran s c (s.issue c al legal f) (h (s.prog (ctxNum c))) (dest.getD ((h (s.prog (ctxNum c))).pc + 4)) n := by
  obtain ⟨hm, hp, hs, hh⟩ := hr
  have hg := State.mayIssue_going hm
  obtain ⟨x, hx⟩ := Sum.isRight_iff.1 hp
  have hpl := (s.place_takeTurn c c .fetch (s.prog (ctxNum c)).pc.toNat 4).trans hx
  have hpr := s.prog_takeTurn c (ctxNum c)
  have hissue : s.issue c al legal f = State.retireIns c { st := (s.takeTurn c).onProg c h, dest := dest, cyc := n } := by
    have := hf (s.takeTurn c) hpr
    simp only [State.issue, hm, ha, hl, hpr, hpl, this, Bool.not_true, Bool.or_self, Bool.false_eq_true, if_false]
  obtain ⟨e, he⟩ := s.takeTurn_eng c
  obtain ⟨k1, k2, k3, k4, k5⟩ := hk (s.prog (ctxNum c))
  rw [hissue, State.retireIns]
  have hs' : (h (s.prog (ctxNum c))).stepping = false := k2.trans hs
  have hh' : (h (s.prog (ctxNum c))).haltPend = false := k3.trans hh
  have hr' : (h (s.prog (ctxNum c))).run = .ready := k1.trans hg
  simp only [State.onProg, State.prog_updProg_same, hpr, hr', RunSt.blocked, State.completed, State.watHits, hs', hh',
    reduceCtorEq, Bool.false_eq_true, if_false, Nat.or_zero, ne_eq, not_true_eq_false, Bool.false_and, Bool.and_false]
  refine ⟨?_, ?_, ?_⟩
  · simp only [State.prog_updProg_same, hpr, k4, k5]
  · intro j hj
    simp only [State.prog_updProg_ne _ _ hj, s.prog_takeTurn c]
  · simp only [he, State.updProg]

/-- Writing a result keeps what `issue_own` asks for. -/
theorem Prog.write_keeps (g : Prog) (d : Fin 16) (r : Word × Flg) :
    (g.write d r).run = g.run ∧ (g.write d r).stepping = g.stepping ∧ (g.write d r).haltPend = g.haltPend ∧
      (g.write d r).cyc = g.cyc ∧ (g.write d r).wdog = g.wdog := ⟨rfl, rfl, rfl, rfl, rfl⟩

/-- An operation whose result goes to a register. -/
theorem State.issue_opD {s : State} {c : Ctx} {al : Allow} {legal : Bool} (d : Fin 16) (n : Nat) (r : Prog → Word × Flg)
    (hr : Ready s c) (ha : al.on c = true) (hl : legal = true) :
    Ran s c (s.issue c al legal fun s _ => s.opD c d n r)
      ((s.prog (ctxNum c)).write d (r (s.prog (ctxNum c)))) ((s.prog (ctxNum c)).pc + 4) n :=
  State.issue_own (fun g => g.write d (r g)) none n hr ha hl (fun _ _ => rfl) fun g => g.write_keeps d _

/-- An operation that sets flags alone. -/
theorem State.issue_opF {s : State} {c : Ctx} {al : Allow} {legal : Bool} (r : Prog → Word × Flg)
    (hr : Ready s c) (ha : al.on c = true) (hl : legal = true) :
    Ran s c (s.issue c al legal fun s _ => s.opF c r)
      ((s.prog (ctxNum c)).withFlags (r (s.prog (ctxNum c))).2) ((s.prog (ctxNum c)).pc + 4) 1 :=
  State.issue_own (fun g => g.withFlags (r g).2) none 1 hr ha hl (fun _ _ => rfl) fun _ => ⟨rfl, rfl, rfl, rfl, rfl⟩

/-- A profile or an encoding that does not allow the instruction: the context faults with ILLEGAL at PC. -/
theorem State.issue_illegal {s : State} {c : Ctx} {al : Allow} {legal : Bool} (f : State → Prog → Eff)
    (hr : Ready s c) (h : al.on c = false ∨ legal = false) :
    s.issue c al legal f = (s.takeTurn c).ctxFault c .illegal (s.prog (ctxNum c)).pc.toNat := by
  obtain ⟨hm, hp, -, -⟩ := hr
  obtain ⟨x, hx⟩ := Sum.isRight_iff.1 hp
  have hpl := (s.place_takeTurn c c .fetch (s.prog (ctxNum c)).pc.toNat 4).trans hx
  have hpr := s.prog_takeTurn c (ctxNum c)
  rcases h with h | h <;> simp [State.issue, hm, h, hpr, hpl]

/-- The flags of a result, the carry and overflow given. -/
theorem Prog.write_result (g : Prog) (d : Fin 16) (r : Word) (c v : Option Bool) :
    g.write d (r, { zn r with c := c, v := v }) = g.result d r (c.getD g.c) (v.getD g.v) := rfl

end Sys2Proof.Machine
end

