-- ==== Sys2Proof/Laws/Shared.lean ====
section
/-!
SUPPORT. The laws of the other shared operations: numbers in memory, the numbered parts of the receive, check-value
and association blocks, and frames under a number.
-/

namespace Sys2Proof.Machine

open Reg

/-! ## Numbers in octets (R4) -/

@[simp] theorem octets_length (n v : Nat) : (octets n v).length = n := by
  induction n generalizing v with
  | zero => rfl
  | succ n ih => simp [octets, ih]

theorem ofOctets_octets (n v : Nat) : ofOctets (octets n v) = v % 256 ^ n := by
  induction n generalizing v with
  | zero => simp [octets, ofOctets, Nat.mod_one]
  | succ n ih =>
    rw [octets, ofOctets, ih, Nat.pow_succ', Nat.mod_mul, BitVec.toNat_ofNat]

/-- A number stored is read back, in the octets it has. -/
theorem State.num_putNum (s : State) (a n v : Nat) : (s.putNum a n v).num a n = v % 256 ^ n := by
  have h := s.octs_store a (octets n v)
  rw [octets_length] at h
  rw [State.num, State.putNum, h, ofOctets_octets]

/-- Octets away from a store read as before. -/
theorem State.octs_store_away (s : State) (a b n : Nat) (l : List Byte) (h : b + n ≤ a ∨ a + l.length ≤ b) :
    (s.store a l).octs b n = s.octs b n := by
  induction n generalizing b with
  | zero => rfl
  | succ n ih =>
    rw [State.octs, State.octs, ih (b + 1) (by omega), State.byte_store, dif_neg (by omega)]

theorem State.num_putNum_away (s : State) (a n v b m : Nat) (h : b + m ≤ a ∨ a + n ≤ b) : (s.putNum a n v).num b m = s.num b m := by
  rw [State.num, State.putNum, State.octs_store_away _ _ _ _ _ (by simpa using h), State.num]

/-- A field of a node-table entry written is read back (R240). -/
theorem State.ent_putEnt (s : State) (ph off n v : Nat) : (s.putEnt ph off n v).ent ph off n = v % 256 ^ n :=
  s.num_putNum ..

/-! ## Numbered parts -/

@[simp] theorem State.chn_updChain_same (s : State) (x : Nat) (f : Chain → Chain) : (s.updChain x f).chn x = f (s.chn x) := by
  simp [State.chn, State.updChain]
theorem State.chn_updChain_ne (s : State) {x y : Nat} (f : Chain → Chain) (h : y ≠ x) : (s.updChain x f).chn y = s.chn y := by
  simp [State.chn, State.updChain, Tab.get_upd_ne, h]
@[simp] theorem State.slot_updSlot_same (s : State) (k : Nat) (f : Slot → Slot) : (s.updSlot k f).slot k = f (s.slot k) := by
  simp [State.slot, State.updSlot]
theorem State.slot_updSlot_ne (s : State) {k j : Nat} (f : Slot → Slot) (h : j ≠ k) : (s.updSlot k f).slot j = s.slot j := by
  simp [State.slot, State.updSlot, Tab.get_upd_ne, h]
@[simp] theorem State.crcSlot_updCrc_same (s : State) (p l : Nat) (f : CrcSlot → CrcSlot) :
    (s.updCrc p l f).crcSlot p l = f (s.crcSlot p l) := by simp [State.crcSlot, State.updCrc]
theorem State.crcSlot_updCrc_ne (s : State) {p l q m : Nat} (f : CrcSlot → CrcSlot) (h : 8 * q + m ≠ 8 * p + l) :
    (s.updCrc p l f).crcSlot q m = s.crcSlot q m := by simp [State.crcSlot, State.updCrc, Tab.get_upd_ne, h]
@[simp] theorem State.ascEnt_updAsc_same (s : State) (ph : Nat) (f : AscEnt → AscEnt) :
    (s.updAsc ph f).ascEnt ph = f (s.ascEnt ph) := by simp [State.ascEnt, State.updAsc]
theorem State.ascEnt_updAsc_ne (s : State) {ph q : Nat} (f : AscEnt → AscEnt) (h : q ≠ ph) :
    (s.updAsc ph f).ascEnt q = s.ascEnt q := by simp [State.ascEnt, State.updAsc, Tab.get_upd_ne, h]
@[simp] theorem State.frame_setFrame_same (s : State) (fid : Nat) (f : Option RxFrame) : (s.setFrame fid f).frame fid = f := by
  simp [State.frame, State.setFrame]
theorem State.frame_setFrame_ne (s : State) {fid k : Nat} (f : Option RxFrame) (h : k ≠ fid) :
    (s.setFrame fid f).frame k = s.frame k := by simp [State.frame, State.setFrame, Tab.get_set_ne, h]

/-! ## Frames for transmission -/

/-- Removing a frame leaves the others, in their order. -/
theorem State.mem_txDel (s : State) (id : Nat) (t : Tx) : t ∈ (s.txDel id).txs ↔ t ∈ s.txs ∧ t.id ≠ id := by
  simp [State.txDel]

theorem State.txDel_rest (s : State) (id : Nat) : { s.txDel id with txs := s.txs } = s := rfl

/-- Changing a frame keeps the numbers and the order of all. -/
theorem State.txUpd_ids (s : State) (id : Nat) (f : Tx → Tx) (h : ∀ t, (f t).id = t.id) :
    (s.txUpd id f).txs.map Tx.id = s.txs.map Tx.id := by
  simp only [State.txUpd, List.map_map]
  apply List.map_congr_left
  intro t _
  by_cases e : t.id = id <;> simp [e, h]

theorem State.txUpd_rest (s : State) (id : Nat) (f : Tx → Tx) : { s.txUpd id f with txs := s.txs } = s := rfl

/-- A frame added stands last, under the next number. -/
theorem State.txAdd_spec (s : State) (t : Tx) :
    (s.txAdd t).txs = s.txs ++ [{ t with id := s.air.next }] ∧ (s.txAdd t).air.next = s.air.next + 1 := ⟨rfl, rfl⟩

end Sys2Proof.Machine
end

