-- ==== Sys2Proof/Tests/Slice0.lean ====
section
/-!
SUPPORT. Tests of the model: ill-formed terms that the checks refuse, words of the instruction set written out from the
spec's encodings, commands on small states, and for every statement with hypotheses a state and operands that meet
them (each clause of a statement has its own, at an end of its range where it has one).
-/

set_option linter.unusedVariables false
set_option Elab.async false

namespace Sys2Proof.Tests

open Machine Machine.Reg

/-- The state after reset with registers set, booted and with the XO running. -/
def st (l : List (Fld × Nat)) : State :=
  { State.reset.sets l with pwr := { State.reset.pwr with boot := false }, clk := { State.reset.clk with xo := .run } }

/-- The next state of an outcome, where it has one. -/
def nx (o : Host.Outcome State Fault Refusal) : Option State := match o with | .next t => some t | _ => none

/-- Both chains receive. -/
def stRx (l : List (Fld × Nat)) : State :=
  { st ((RXx_CTL_EN 0, 1) :: (RXx_CTL_EN 1, 1) :: l) with chain := [(0, { blRet := false }), (1, { blRet := false })] }

/-- A plan that enables slot 0 with one search of format 2. -/
def plan1 : Plan := { words := [(0, 1), (4, 0x82010000)] }

/-- The air access runs, with one band over every frequency and no other limit, and partition 0 has airtime. -/
def prof1 : RegProf := { bands := [{ flo := 0, fhi := 0x1FFFFFFF, duty := 1000 }] }

def stAir (l : List (Fld × Nat)) : State :=
  { st ((AIR_CTL_EN, 1) :: l) with air := { (st []).air with prof := some prof1 }, parts := [(0, { level := 1000000 })] }

/-- The supervisor's context is ready, at the start of its code. -/
def stSv (l : List (Fld × Nat)) : State := { st l with progs := [(32, { run := .ready })] }

/-- Partition 0's context is ready, at the start of its code. -/
def stP0 (l : List (Fld × Nat)) : State :=
  { st l with progs := [(0, { run := .ready })], parts := [(0, { desc := { codeG := 1, dataG := 1, txQ := 2, kslotQ := 2 }, gran := [0] })] }

/-- A service request in partition 0's data window: REQ and BUF, then its octets. -/
def stReq (n buf : Nat) (o : List Byte) (l : List (Fld × Nat)) : State :=
  let s : State := { stP0 l with progs := [(0, { run := .ready, g := [(0, 0x10000000)] })] }
  let s : State := { s with parts := [(0, { desc := { codeG := 1, dataG := 1, txQ := 2, kslotQ := 2 }, dataBase := 0x10000000 })] }
  s.store 0x10000000 (octets 2 n ++ octets 2 buf ++ o)

/-- Both sequencers are enabled and ready. -/
def stSeq (l : List (Fld × Nat)) : State :=
  { st ((ENG_SEQCTLx_EN 0, 1) :: (ENG_SEQCTLx_EN 1, 1) :: l) with progs := [(33, { run := .ready }), (34, { run := .ready })] }

/-- In COL, with the CE ready. -/
def stCe (l : List (Fld × Nat)) : State :=
  { st l with progs := [(35, { run := .ready })], pwr := { (st []).pwr with sleep := some .col } }

/-- `st`, where a variable bears its name. -/
abbrev st0 := st

/-- A debug session of vendor scope is open; partition 0 has a page of data. -/
def stDbg (l : List (Fld × Nat)) : State :=
  { st l with dbg := { scope := some 0x21 }, parts := [(0, { desc := { codeG := 1, dataG := 1 }, dataBase := 0x10000000 })] }

/-! ## Terms the checks refuse -/

/-- Operands out of the ranges the spec gives them are refused. -/
theorem test_ill_formed_events :
    (Instr.registerWrite 0 0 (2 ^ 32) 0).wf = false ∧ (Instr.syntCalStepStart 201).wf = false ∧
    (Instr.energySample [(128, 0)] []).wf = false ∧ (Instr.energySample [] [(128, 0)]).wf = false ∧
    (Instr.mhrDecoded 0 (List.replicate 2048 0)).wf = false ∧ (Instr.micVerdict 0 [] (List.replicate 2048 0)).wf = false ∧
    (Instr.frameEnd 0 (List.replicate 2048 0) 0).wf = false ∧ (Instr.wheelOffer 0 8192).wf = false ∧
    (Instr.colFrame 0 0 0 0 0 0 (List.replicate 2048 0)).wf = false ∧
    (Instr.receiveWindowVerdict 0 8192).wf = false ∧ (Instr.transmitWindowVerdict 0 8192).wf = false ∧
    (Instr.resyncFrameTimer 0 8192).wf = false ∧ (Instr.uartCharacterReceived 256 false false).wf = false ∧
    (Instr.nvmRefreshStep 0x100000 0).wf = false := by decide +kernel

/-- Instructions whose fields hold a value the spec gives no meaning are refused. -/
theorem test_ill_formed_instructions :
    (Instr.shlImmediate .sv 0 0 32).wf = false ∧ (Instr.shrImmediate .sv 0 0 32).wf = false ∧
    (Instr.sarImmediate .sv 0 0 32).wf = false ∧ (Instr.rotImmediate .sv 0 0 32).wf = false ∧
    (Instr.movhi .sv 0 65536).wf = false ∧ (Instr.ext .sv 0 0 0x210).wf = false ∧ (Instr.ext .sv 0 0 2048).wf = false ∧
    (Instr.ins .sv 0 0 0x210).wf = false ∧ (Instr.ins .sv 0 0 1024).wf = false ∧
    (Instr.waittCycles .sv 0).wf = false ∧ (Instr.mfs .sv 0 8).wf = false ∧ (Instr.mts .sv 0 0).wf = false ∧
    (Instr.tune .rsa 0 0 3).wf = false ∧ (Instr.rxarm .rsa 0 0 5).wf = false ∧ (Instr.rxarm .rsa 0 0 10).wf = false := by
  decide +kernel

/-- A debug request longer than a line carries is refused. -/
theorem test_ill_formed_debug :
    [Instr.dbgIdent, .dbgChallenge, .dbgOpen, .dbgClose, .dbgHalt, .dbgRun, .dbgStep, .dbgCstat, .dbgRead, .dbgWrite,
      .dbgCread, .dbgCwrite, .dbgBreak, .dbgWatch, .dbgReset].all
        (fun c => !(c (List.replicate 1025 0)).wf) = true := by decide +kernel

/-! ## Words of the instruction set -/

/-- Words put together from the formats of R295 and the rows of R298 and R299. -/
theorem test_words_of_the_register_and_branch_rows :
    decodeIh .rsa 0x0048C00A = some (.mul .rsa 1 2 3) ∧ decodeIh .rsa 0x0048C04B = some (.mulh .rsa 1 2 3 true) ∧
    decodeIh .rsa 0x04480005 = some (.addImmediate .rsa 1 2 5) ∧ decodeIh .rsa 0x54480008 = some (.stw .rsa 1 2 8) ∧
    decodeIh .rsa 0x8000000C = some (.br .rsa 0 12) ∧ decodeIh .rsa 0x843FFFFF = some (.callRelative .rsa 0x3FFFFF) ∧
    decodeIh .rsa 0x88080001 = some (.jmp .rsa 2) ∧ decodeIh .rsa 0x88000003 = some (.ret .rsa) := by decide +kernel

theorem test_words_of_the_system_rows :
    decodeIh .sv 0xC0004007 = some (.sig .sv 7) ∧ decodeIh .sv 0xC0003005 = some (.waittCycles .sv 5) ∧
    decodeIh (.part 0 false) 0xC0006002 = some (.trap (.part 0 false) 2) ∧
    decodeIh .sv 0xC0408000 = some (.mfs .sv 1 0) ∧ decodeIh .sv 0xC0089007 = some (.mts .sv 2 7) ∧
    decodeIh .rsa 0xC0082000 = some (.waitt .rsa 2) := by decide +kernel

theorem test_words_of_the_message_and_radio_rows :
    decodeIh (.part 0 false) 0xC8480001 = some (.collect (.part 0 false) 1 2 true) ∧
    decodeIh (.part 0 false) 0xCC480000 = some (.mpush (.part 0 false) 1 2 0) ∧
    decodeIh (.part 0 false) 0xD0400001 = some (.mpop (.part 0 false) 1 true) ∧
    decodeIh .rsa 0xD4480001 = some (.tune .rsa 1 2 1) ∧ decodeIh .rsa 0xD4481008 = some (.rxarm .rsa 1 2 8) ∧
    decodeIh .rsa 0xD4802000 = some (.txarm .rsa 2) ∧ decodeIh .rsa 0xD5003000 = some (.fire .rsa 4 false) ∧
    decodeIh .rsa 0xD4484000 = some (.lbtq .rsa 1 2) := by decide +kernel

/-! ## Worked examples of the spec -/

/-- The check values R398 prints for the octets of "123456789". -/
theorem test_check_values :
    (let o : List Byte := [0x31, 0x32, 0x33, 0x34, 0x35, 0x36, 0x37, 0x38, 0x39]
     crc 8 7 0 false false 0 o = 0xF4 ∧ crc 16 0x1021 0 true true 0 o = 0x2189 ∧
     crc 16 0x8005 0xFFFF false false 0 o = 0xAEE7 ∧ crc32 o = 0xCBF43926 ∧ crc32c o = 0xE3069283) := by decide +kernel

/-- The check of a PHR that the worked example of chapter 6 prints. -/
theorem test_phr_check : phrCrc 0x4818 = 0x81 := by decide +kernel

/-- The octets the worked example of chapter 6 prints: the PHR as it goes on air, and three whitened octets of the PSDU. -/
theorem test_phr_and_whitening :
    phrWord 24 1 0 true = 0x814818 ∧ psduBits 0 true [0xC8, 0x05, 0x2A] = [0x37, 0xE4, 0x37].flatMap (bitsUp 8) := by decide +kernel

/-- Bits on air of 24 octets by CODE, as the same example counts them, and of a format 1 block (R161). -/
theorem test_bits_on_air :
    ([1, 3, 4].map fun c => (psduBits c true (List.replicate 24 5)).length) = [396, 264, 512] ∧
    (afterPreamble 1 0 0 false 0 0 (List.replicate 8 1)).length = 32 + 16 * 8 + 28 := by decide +kernel

/-- Deviations of H12 and of the four symbols of H2000 in FREQ codes (R188 to R190). -/
theorem test_deviations :
    symbolDev 2 1 12000 300 1 = 629 ∧ [0, 1, 2, 3].map (symbolDev 2 4 1000000 12500) = [8738, 26214, -8738, -26214] := by
  decide +kernel

/-- A long run of one symbol passes a Gaussian filter at its own level (R191: G is 1). -/
theorem test_gaussian_gain : TxSnap.fir { taps := shape1 } (List.replicate 20 629) 100 = 629 := by decide +kernel

/-- Airtimes at 1200 symbols a second: those of 24 and of 13 octets at rate 1/2, and of a wake-up burst, are the worked examples of chapters 7, 8 and 9. -/
theorem test_airtimes :
    (let c : TxSnap := { profA := 2 ^ 29 + 12000, profB := 3 * 2 ^ 27, lead := 5, tail := 5 }
     ({ fmt := 2, pre := 48, codeF := 1, len := 24 } : Tx).airtime c = 446741 ∧
     ({ fmt := 2, pre := 48, codeF := 3, len := 24 } : Tx).ticks c = 336667 ∧
     ({ fmt := 2, pre := 48, codeF := 4, len := 24 } : Tx).ticks c = 543334 ∧
     ({ fmt := 2, pre := 32, codeF := 1, len := 13 } : Tx).airtime c = 286741 ∧
     ({ fmt := 2, pre := 48, codeF := 1, len := 24, wb := 1120 } : Tx).airtime c = 1380074) := by decide +kernel

/-- The inferred counter of the worked example of chapter 22. -/
theorem test_inferred_counter : rxCounter 1 3 0x12FE = 0x1303 := by decide +kernel

/-- A secured native header with short addresses is 14 octets long. -/
theorem test_native_header :
    (let r := mhrNative [0xC8, 0x05, 0x2A, 0x0B, 1, 2, 0, 3, 0, 5, 0x93, 1, 0, 0] 24 0
     r.1.hlen = 14 ∧ r.2 = false) := by decide +kernel

/-- The end of a frame stamped at 2 s. -/
theorem test_frame_end :
    RxFrame.endAt { stamp := 2000000 * 64, fmt := 2, code := 1, len := 24 } 1 12000 = 2380000 * 64 := by decide +kernel

/-! ## Commands on small states -/

/-- A step takes the command at the front and leaves the rest waiting. -/
theorem test_step_takes_the_front :
    (match Machine.step { st [] with pending := [.yield .sv, .nop .rsa] } with
      | .next t => t.pending | _ => []) = [.nop .rsa] := by decide +kernel

/-- On an empty queue the timebase counts one cycle. -/
theorem test_empty_queue_counts :
    (match Machine.step (st []) with | .next t => t.tbs.now | _ => 0) = (st []).tbs.now + 1 := by decide +kernel

/-- Reset's memory lists nothing. -/
theorem test_reset_memory : State.reset.mem = [] := by decide +kernel


/-! ## States that meet the hypotheses of the statements -/

theorem test_meets_CommandsLeaveTheQueueAlone : ∃ (i : Instr) (s t : State), exec i s = .next t :=
  ⟨.debugLineReset, st [], st [], rfl⟩

theorem test_meets_EveryStepKeepsMemoryCanonical : ∃ s t : State, s.Canonical ∧ step s = .next t :=
  ⟨{ st [] with mem := [(0x10000000, 1)], pending := [.debugLineReset] }, { st [] with mem := [(0x10000000, 1)] },
    by unfold Machine.State.Canonical; decide +kernel, rfl⟩

theorem test_meets_LossOfThePllEntersFallback :
    ∃ s : State, (s.pllRuns = true) :=
  ⟨st [(CLK_STAT_PLLLOCK, 1)], by decide +kernel⟩

theorem test_meets_RelockAttemptsAreNoNewLoss :
    (∃ s : State, (s.clk.relock = .waiting) ∧ (s.clk.since + 10000 ≤ s.tick)) ∧
    (∃ s : State, (s.clk.relock = .waiting) ∧ (s.tick < s.clk.since + 10000)) ∧
    (∃ s : State, (s.clk.relock = .recal)) ∧
    (∃ s : State, (s.clk.relock = .hold)) ∧
    (∃ s : State, (s.clk.relock = .switchDue)) :=
  ⟨⟨{ st [] with clk := { (st []).clk with relock := .waiting }, tbs := { (st []).tbs with now := 640000 } }, by decide +kernel⟩,
   ⟨{ st [] with clk := { (st []).clk with relock := .waiting }, tbs := { (st []).tbs with now := 639999 } }, by decide +kernel⟩,
   ⟨{ st [] with clk := { (st []).clk with relock := .recal } }, by decide +kernel⟩,
   ⟨{ st [] with clk := { (st []).clk with relock := .hold } }, by decide +kernel⟩,
   ⟨{ st [] with clk := { (st []).clk with relock := .switchDue } }, by decide +kernel⟩⟩

theorem test_meets_TimebaseWritesWaitForTheBoundary :
    (∃ s : State, (s.get TBS_STAT_DISCONT = 1)) ∧
    (∃ s : State, (s.get TBS_STAT_DISCONT = 0)) ∧
    (∃ s : State, (s.get CLK_STAT_FALLBACK = 1)) ∧
    (∃ s : State, (s.get CLK_STAT_FALLBACK = 0)) :=
  ⟨⟨st [(TBS_STAT_DISCONT, 1)], by decide +kernel⟩,
   ⟨st [(TBS_STAT_DISCONT, 0)], by decide +kernel⟩,
   ⟨st [(CLK_STAT_FALLBACK, 1)], by decide +kernel⟩,
   ⟨st [(CLK_STAT_FALLBACK, 0)], by decide +kernel⟩⟩

theorem test_meets_TheTimebaseCountsAndStepsKeepIt :
    (∃ s : State, (s.tbs.setPend = none) ∧ (s.tbs.adjPend = false) ∧ (s.clk.relock ≠ .switchDue) ∧ (s.tbs.psFirst = false) ∧ (s.clk.trim = none) ∧ (s.get SYNT_PHASE_STEPS = 0)) ∧
    (∃ s : State, (s.stepsRun = true) ∧ (s.tbs.psFirst = false) ∧ (s.tbs.psNext ≤ s.tick) ∧ (s.tbs.now < 2 ^ 62) ∧ (0 < sext 16 (s.get TBS_PSTEP_COUNT))) ∧
    (∃ s : State, (s.get TBS_TOCTL_EN = 1) ∧ (s.tbs.now % 64000000 = 0)) ∧
    (∃ s : State, (s.tbs.tickOut = true) ∧ (s.tbs.tickEnd ≤ s.tick)) ∧
    (∃ s : State, ∃ p : Fin 32, ∃ n : Fin 4, (s.timerDue p n = true) ∧ (s.pwr.sleep = none) ∧ (s.pwr.entry = none)) :=
  ⟨⟨{ st [(SYNT_PHASE_STEPS, 0)] with tbs := { (st []).tbs with setPend := none, adjPend := false, psFirst := false }, clk := { (st []).clk with trim := none } }, by decide +kernel⟩,
   ⟨{ st [(CLK_STAT_PLLLOCK, 1), (TBS_PSTEP_COUNT, 1)] with tbs := { (st []).tbs with psFirst := false } }, by decide +kernel⟩,
   ⟨st [(TBS_TOCTL_EN, 1), (TBS_TOCTL_EN, 1)], by decide +kernel⟩,
   ⟨{ st [] with tbs := { (st []).tbs with tickOut := true } }, by decide +kernel⟩,
   ⟨{ st [((TBS_TMRnC_ARM 3).at 31, 1)] with pwr := { (st []).pwr with sleep := none, entry := none } }, 31, 3, by decide +kernel⟩⟩

theorem test_meets_FrequencyCommandsStartOrAreRefused :
    (∃ s : State, ∃ x : Fin 3, ∃ w : Word, (freqOk (w.toNat % 2 ^ 29) = false ∨ (x = 1 ∧ s.combined = true))) ∧
    (∃ s : State, ∃ x : Fin 3, ∃ w : Word, (freqOk (w.toNat % 2 ^ 29) = true) ∧ (x = 2) ∧ (s.paDriven = true)) ∧
    (∃ s : State, ∃ x : Fin 3, ∃ w : Word, (freqOk (w.toNat % 2 ^ 29) = true) ∧ (¬(x = 2 ∧ s.paDriven = true)) ∧ (¬(x = 1 ∧ s.combined = true))) :=
  ⟨⟨st [], 0, 0x0C7FFFFF, by decide +kernel⟩,
   ⟨st [(TXM_STAT_PHASE, 4)], 2, 0x0C800000, by decide +kernel⟩,
   ⟨st [], 0, 0x1E000000, by decide +kernel⟩⟩

theorem test_meets_SynthesiserEnableAndLock :
    (∃ s : State, ∃ x : Fin 3, (s.get (SYNx_CTL_EN x) = 0)) ∧
    (∃ s : State, ∃ x : Fin 3, (¬(x = 2 ∧ s.paDriven = true))) ∧
    (∃ s : State, ∃ x : Fin 3, (x = 2) ∧ (s.paDriven = true)) ∧
    (∃ s : State, ∃ x : Fin 3, ((s.synth x).ph.seeking = true) ∧ (s.flag (SYNx_CTL_EN x) = true)) :=
  ⟨⟨st [((SYNx_CTL_EN 0), 0)], 0, by decide +kernel⟩,
   ⟨st [(TXM_STAT_PHASE, 1)], 2, by decide +kernel⟩,
   ⟨st [(TXM_STAT_PHASE, 2)], 2, by decide +kernel⟩,
   ⟨{ st [((SYNx_CTL_EN 0), 1)] with syn := [(0, { ph := .settling })] }, 0, by decide +kernel⟩⟩

theorem test_meets_LossOfLockRelocksThenFails :
    (∃ s : State, ∃ x : Fin 3, (s.flag (SYNx_STAT_LOCK x) = true)) ∧
    (∃ s : State, ∃ x : Fin 3, ((s.synth x).ph = .reacquire)) ∧
    (∃ s : State, ∃ x : Fin 3, ((s.synth x).ph.seeking = true) ∧ (s.flag (SYNx_CTL_EN x) = true)) :=
  ⟨⟨st [((SYNx_STAT_LOCK 0), 1)], 0, by decide +kernel⟩,
   ⟨{ st [] with syn := [(0, { ph := .reacquire })] }, 0, by decide +kernel⟩,
   ⟨{ st [((SYNx_CTL_EN 0), 1)] with syn := [(0, { ph := .settling })] }, 0, by decide +kernel⟩⟩

theorem test_meets_SyntStepsKeepTheTarget :
    (∃ s : State, ∃ d : Fin 16, (s.calStepOk d = true)) ∧
    (∃ s : State, ((s.synth 2).ph = .calStep)) ∧
    (∃ s : State, ∃ n : BitVec 12, (s.paDriven = false) ∧ (n ≠ 0)) ∧
    (∃ s : State, (s.paDriven = true)) :=
  ⟨⟨st [(SYNx_CTL_EN 2, 1)], 200, by decide +kernel⟩,
   ⟨{ st [] with syn := [(2, { ph := .calStep })] }, by decide +kernel⟩,
   ⟨st [], 1, by decide +kernel⟩,
   ⟨st [(TXM_STAT_PHASE, 2)], by decide +kernel⟩⟩

theorem test_meets_GainControlMovesOneStep :
    (∃ s : State, ∃ x : Fin 2, (s.agcActs x = true) ∧ (s.get (RXx_STAT_GAIN x) < 11)) ∧
    (∃ s : State, ∃ x : Fin 2, (s.agcActs x = true) ∧ (0 < s.get (RXx_STAT_GAIN x)) ∧ (s.get (RXx_STAT_GAIN x) ≤ 11)) ∧
    (∃ s : State, ∃ x : Fin 2, (s.agcActs x = false)) ∧
    (∃ s : State, ∃ x : Fin 2, (s.agcActs x = false)) :=
  ⟨⟨stRx [(RXx_STAT_GAIN 0, 10)], 0, by decide +kernel⟩,
   ⟨stRx [(RXx_STAT_GAIN 0, 11)], 0, by decide +kernel⟩,
   ⟨st [], 0, by decide +kernel⟩,
   ⟨st [], 0, by decide +kernel⟩⟩

theorem test_meets_ChainsLeaveAndReturn :
    (∃ s : State, ∃ x : Fin 2, (s.svc (1 - x.val) ≠ 0)) ∧
    (∃ s : State, ∃ x : Fin 2, (s.svc (1 - x.val) = 0) ∧ (s.svc x = 0) ∧ (s.combined = false)) ∧
    (∃ s : State, ∃ x : Fin 2, (s.svc (1 - x.val) = 0) ∧ (s.svc x = 0) ∧ (s.combined = true)) ∧
    (∃ s : State, ∃ x : Fin 2, (s.svc x = 1)) ∧
    (∃ s : State, ∃ x : Fin 2, (s.svc x = 2) ∧ (s.combined = false)) ∧
    (∃ s : State, (s.combined = true)) ∧
    (∃ s : State, ∃ b : Bool, (s.combined = true) ∧ (s.chainOff b.toNat = false) ∧ ((s.chn b.toNat).unrel = false)) :=
  ⟨⟨st [(RXx_STAT_SVC 1, 3)], 0, by decide +kernel⟩,
   ⟨st [], 0, by decide +kernel⟩,
   ⟨st [(RXx_STAT_COMBACT 0, 1)], 0, by decide +kernel⟩,
   ⟨st [(RXx_STAT_SVC 0, 1)], 0, by decide +kernel⟩,
   ⟨st [(RXx_STAT_SVC 0, 2)], 0, by decide +kernel⟩,
   ⟨st [(RXx_STAT_COMBACT 0, 1)], by decide +kernel⟩,
   ⟨stRx [(RXx_STAT_COMBACT 0, 1)], true, by decide +kernel⟩⟩

theorem test_meets_PlansLoadAndWait :
    (∃ s : State, (s.chb.load = none)) ∧
    (∃ s : State, (s.chb.load ≠ none)) ∧
    (∃ s : State, ∃ l : PlanLoad, (s.chb.load = some l) ∧ (l.ok = true) ∧ (l.plan.check.2 = 0) ∧ (l.now = false)) ∧
    (∃ s : State, ∃ l : PlanLoad, (s.chb.load = some l) ∧ (l.ok = false) ∧ (l.now = false)) ∧
    (∃ s : State, ∃ l : PlanLoad, (s.chb.load = some l) ∧ (l.ok = true) ∧ (l.plan.check.2 ≠ 0) ∧ (l.now = false)) ∧
    (∃ s : State, (s.chb.pend ≠ none) ∧ (allSlots.any s.slotEn = false)) ∧
    (∃ s : State, (s.chb.pend = none ∨ allSlots.any s.slotEn = true)) ∧
    (∃ s : State, ∃ pl : Plan, (s.chb.nowDue = true) ∧ (s.chb.pend = some pl) ∧ (bit (pl.word 0) 8 = s.combined)) ∧
    (∃ s : State, ∃ pl : Plan, (s.chb.nowDue = true) ∧ (s.chb.pend = some pl) ∧ (bit (pl.word 0) 8 ≠ s.combined)) :=
  ⟨⟨{ st [] with chb := { (st []).chb with load := none } }, by decide +kernel⟩,
   ⟨{ st [] with chb := { (st []).chb with load := some {} } }, by decide +kernel⟩,
   ⟨{ st [] with chb := { (st []).chb with load := some ({ plan := { words := [(0, 1), (1, 0x0C800000), (2, 0x1E000000)] } }) } }, { plan := { words := [(0, 1), (1, 0x0C800000), (2, 0x1E000000)] } }, by decide +kernel⟩,
   ⟨{ st [] with chb := { (st []).chb with load := some ({ ok := false }) } }, { ok := false }, by decide +kernel⟩,
   ⟨{ st [] with chb := { (st []).chb with load := some ({ }) } }, { }, by decide +kernel⟩,
   ⟨{ st [] with chb := { (st []).chb with pend := some {} } }, by decide +kernel⟩,
   ⟨st [], by decide +kernel⟩,
   ⟨{ st [] with chb := { (st []).chb with nowDue := true, pend := some ({}) } }, {}, by decide +kernel⟩,
   ⟨{ st [] with chb := { (st []).chb with nowDue := true, pend := some ({ words := [(0, 256)] }) } }, { words := [(0, 256)] }, by decide +kernel⟩⟩

theorem test_meets_SlotsSearchAndClaim :
    (∃ s : State, ∃ k : Fin 128, ∃ h : Fin 3, ∃ foff, (s.detecting k = true) ∧ (h.val < bits (s.desc k 0) 16 2) ∧ (s.nearer k h foff = false) ∧ (s.frame k = none)) ∧
    (∃ s : State, ∃ k : Fin 128, ∃ h : Fin 3, (((s.slot k).searches.any fun q => decide (q.hyp = h.val)) = true)) ∧
    (∃ s : State, ∃ k : Fin 128, ∃ h : Fin 3, ∃ stamp : BitVec 62, (s.detecting k = true) ∧ (((s.slot k).searches.any fun q => decide (q.hyp = h.val)) = true) ∧ (s.combined = true ∨ (s.chn (s.slotChain k)).lockAt ≤ stamp.toNat)) ∧
    (∃ s : State, ∃ k : Fin 128, ((s.slot k).sic ≠ none)) ∧
    (∃ s : State, ∃ k : Fin 128, ∃ c : Sic, ((s.slot k).sic = some c) ∧ (c.strongOk = true)) :=
  ⟨⟨{ stRx [(CHB_CTL_EN, 1)] with chb := { (st []).chb with active := some plan1 } }, 0, 0, 0, by decide +kernel⟩,
   ⟨{ st [] with slots := [(0, { searches := [{ hyp := 0, lam := 0, foff := 0 }] })] }, 0, 0, by decide +kernel⟩,
   ⟨{ stRx [(CHB_CTL_EN, 1)] with chb := { (st []).chb with active := some plan1 }, slots := [(0, { searches := [{ hyp := 0, lam := 0, foff := 0 }] })] }, 0, 0, 0, by decide +kernel⟩,
   ⟨{ st [] with slots := [(0, { sic := some { weaker := true, hyp := 0 } })] }, 0, by decide +kernel⟩,
   ⟨{ st [] with slots := [(0, { sic := some ({ weaker := true, hyp := 0, strongOk := true }) })] }, 0, { weaker := true, hyp := 0, strongOk := true }, by decide +kernel⟩⟩

theorem test_meets_EnergyAndDecoders :
    (∃ s : State, (s.get CHB_CTL_EN = 1)) ∧
    (∃ s : State, ∃ d : Fin 4, ((s.get TRL_SVC_OUT).testBit d = true ∨ s.get TRL_CTL_EN = 0)) ∧
    (∃ s : State, ∃ d : Fin 4, ∃ ready : List Nat, ∃ c : Nat, ((s.get TRL_SVC_OUT).testBit d = false) ∧ (s.get TRL_CTL_EN = 1) ∧ (s.trl.wait = [c]) ∧ (ready = [c]) ∧ (Tab.get none s.trl.dec d = none)) ∧
    (∃ out : BitVec 4, (out ≠ 15)) :=
  ⟨⟨st [(CHB_CTL_EN, 1)], by decide +kernel⟩,
   ⟨st [], 3, by decide +kernel⟩,
   ⟨{ st [(TRL_CTL_EN, 1)] with trl := { dec := [], wait := [0] } }, 3, [0], 0, by decide +kernel⟩,
   ⟨0, by decide +kernel⟩⟩

theorem test_meets_PhrAndHeaderChecks :
    (∃ s : State, ∃ fid : Fin 256, ∃ phr : BitVec 24, ∃ f : RxFrame, (s.frame fid = some f) ∧ (f.stage = .phr) ∧ (s.get PKT_CTL_EN = 1) ∧ (f.fmt = 2) ∧ (phrCrc phr.toNat ≠ bits phr.toNat 16 8)) ∧
    (∃ s : State, ∃ fid : Fin 256, ∃ phr : BitVec 24, ∃ f : RxFrame, (s.frame fid = some f) ∧ (f.stage = .phr) ∧ (s.get PKT_CTL_EN = 1) ∧ (f.fmt = 2) ∧ (phrCrc phr.toNat = bits phr.toNat 16 8) ∧ (5 ≤ bits phr.toNat 11 3 ∨ bits phr.toNat 0 11 < 5 + fcsLen 2 (bits phr.toNat 15 1))) ∧
    (∃ s : State, ∃ fid : Fin 256, ∃ phr : BitVec 24, ∃ f : RxFrame, (s.frame fid = some f) ∧ (f.stage = .phr) ∧ (s.get PKT_CTL_EN = 1) ∧ (f.fmt = 2 → phrCrc phr.toNat = bits phr.toNat 16 8 ∧ bits phr.toNat 11 3 ≤ 4 ∧ 5 + fcsLen 2 (bits phr.toNat 15 1) ≤ bits phr.toNat 0 11) ∧ (f.fmt = 1 → 8 ≤ bits phr.toNat 0 8) ∧ (f.fmt = 3 → bit phr.toNat 15 = false ∧ bits phr.toNat 0 11 ≠ 0) ∧ (s.get PKT_RXREG_INUSE + ceilDiv (phrLen f.fmt phr.toNat) 128 ≤ 1024) ∧ (s.combined = true)) ∧
    (∃ s : State, ∃ fid : Fin 256, ∃ f : RxFrame, (s.frame fid = some f) ∧ (f.stage = .header)) ∧
    (∃ s : State, ∃ fid : Fin 256, ∃ o : List Byte, ∃ f : RxFrame, (s.frame fid = some f) ∧ (f.stage = .header) ∧ (f.fmt = 2) ∧ ((mhrNative o f.len f.fcst).2 = true)) ∧
    (∃ s : State, ∃ fid : Fin 256, ∃ o : List Byte, ∃ f : RxFrame, (s.frame fid = some f) ∧ (f.stage = .header) ∧ (f.fmt = 2) ∧ ((mhrNative o f.len f.fcst).2 = false) ∧ (s.nidOwner (mhrNative o f.len f.fcst).1.nid = none)) :=
  ⟨⟨{ st [(PKT_CTL_EN, 1)] with rx := [(0, some ({}))] }, 0, 1, {}, by decide +kernel⟩,
   ⟨{ st [(PKT_CTL_EN, 1)] with rx := [(0, some ({}))] }, 0, 0, {}, by decide +kernel⟩,
   ⟨{ st [(PKT_CTL_EN, 1), (PKT_RXREG_INUSE, 1023), (RXx_STAT_COMBACT 0, 1)] with rx := [(0, some ({ fmt := 1 }))] }, 0, 8, { fmt := 1 }, by decide +kernel⟩,
   ⟨{ st [] with rx := [(0, some ({ stage := .header }))] }, 0, { stage := .header }, by decide +kernel⟩,
   ⟨{ st [] with rx := [(0, some ({ stage := .header }))] }, 0, [6, 0], { stage := .header }, by decide +kernel⟩,
   ⟨{ st [] with rx := [(0, some ({ stage := .header, len := 7 }))] }, 0, [0, 0, 0xFF, 0xFF, 1], { stage := .header, len := 7 }, by decide +kernel⟩⟩

theorem test_meets_FrameEndsDecideDiscardOrRelease :
    (∃ s : State, ∃ fid : Fin 256, ∃ psdu : List Byte, ∃ f : RxFrame, (s.frame fid = some f) ∧ (f.stage = .body) ∧ (psdu.length = f.len) ∧ (fcsOk f.fmt f.fcst f.len psdu = false)) ∧
    (∃ s : State, ∃ fid : Fin 256, ∃ psdu : List Byte, ∃ f : RxFrame, (s.frame fid = some f) ∧ (f.stage = .body) ∧ (psdu.length = f.len) ∧ (fcsOk f.fmt f.fcst f.len psdu = true) ∧ (f.badHdr = true)) ∧
    (∃ s : State, ∃ fid : Fin 256, ∃ psdu : List Byte, ∃ f : RxFrame, (s.frame fid = some f) ∧ (f.stage = .body) ∧ (psdu.length = f.len) ∧ (fcsOk f.fmt f.fcst f.len psdu = true) ∧ (f.badHdr = false)) ∧
    (∃ s : State, ∃ fid : Nat, ∃ f : RxFrame, ∃ p : Nat, ∃ li : Nat, (s.frame fid = some f) ∧ (f.part = some p) ∧ (f.entry = some li) ∧ (f.secured = true) ∧ (f.stop = none) ∧ (f.badHdr = false) ∧ (f.verdict = none) ∧ (f.stage = .body) ∧ (s.rxKey p li f = some (.cur li) → s.useHolds p li = false)) ∧
    (∃ s : State, ∃ q : Nat, ∃ f : RxFrame, ∃ p : Nat, (s.frame q = some f) ∧ (f.part = some p) ∧ (f.stage = .done)) ∧
    (∃ s : State, ∃ id : Nat, ∃ x : Tx, ∃ fid : Nat, (s.txFind id = some x) ∧ (x.kind = .ack fid) ∧ (x.stage = .fixed) ∧ (x.ok = false) ∧ (x.t0 ≤ s.tbs.now + 6400)) ∧
    (∃ s : State, ∃ id : Nat, ∃ x : Tx, ∃ fid : Nat, (s.txFind id = some x) ∧ (x.kind = .ack fid) ∧ (x.ok = true)) :=
  ⟨⟨{ st [] with rx := [(0, some ({ stage := .body, len := 2 }))] }, 0, [1, 0], { stage := .body, len := 2 }, by decide +kernel⟩,
   ⟨{ st [] with rx := [(0, some ({ stage := .body, len := 2, badHdr := true }))] }, 0, [0, 0], { stage := .body, len := 2, badHdr := true }, by decide +kernel⟩,
   ⟨{ st [] with rx := [(0, some ({ stage := .body, len := 2 }))] }, 0, [0, 0], { stage := .body, len := 2 }, by decide +kernel⟩,
   ⟨{ st [] with rx := [(0, some ({ stage := .body, hdr := { sec := true, lvl := 1 }, part := some 31, entry := some 0 }))] }, 0, { stage := .body, hdr := { sec := true, lvl := 1 }, part := some 31, entry := some 0 }, 31, 0, by decide +kernel⟩,
   ⟨{ st [] with rx := [(0, some ({ stage := .done, part := some 31 }))] }, 0, { stage := .done, part := some 31 }, 31, by decide +kernel⟩,
   ⟨{ st [] with txs := [({ kind := .ack 0, stage := .fixed, t0 := 6400 })] }, 0, { kind := .ack 0, stage := .fixed, t0 := 6400 }, 0, by decide +kernel⟩,
   ⟨{ st [] with txs := [({ kind := .ack 0, stage := .fixed, ok := true })] }, 0, { kind := .ack 0, stage := .fixed, ok := true }, 0, by decide +kernel⟩⟩

/-- Hypotheses of each clause, at an end of its range: CODE 4; LEN 2047, CODE 7, FCST 1; the last bit of a block. -/
theorem test_meets_NativeCodingHasItsLengthsAndUndoesItself : (∃ code : Nat, code ≤ 4 ∧ code = 4) ∧ (∃ len code fcst : Nat, len < 2048 ∧ code < 8 ∧ fcst < 2 ∧ len = 2047 ∧ code = 7 ∧ fcst = 1) ∧
    (∃ (l : List Bool) (i : Nat), i < 128 ∧ l.length = 128 ∧ i = 127) :=
  ⟨⟨4, by decide⟩, ⟨2047, 7, 1, by decide⟩, ⟨List.replicate 128 true, 127, by decide +kernel⟩⟩

theorem test_meets_TransmitSettingsAreCheckedWhole :
    (∃ s : State, ∃ w : Word, ∃ n : Fin 16, ∃ k : Fin 3, (if k = 2 then w.toNat ≠ 0 else s.get (TXM_PROFnC_PARTMASK n) ≠ 0) ∧ (s.profReason (if k = 0 then w.toNat else s.profA n) (if k = 1 then w.toNat else s.profB n) ≠ 0)) ∧
    (∃ s : State, ∃ w : Word, ∃ n : Fin 16, (w.toNat = 0 ∨ s.profReason (s.profA n) (s.profB n) = 0)) ∧
    (∃ s : State, ∃ w : Word, ∃ n : Fin 16, (s.get (TXM_PROFnC_PARTMASK n) = 0) ∧ (bits w.toNat 29 3 ≤ 4) ∧ (bits w.toNat 26 3 ≤ 5)) ∧
    (∃ s : State, ∃ w : Word, (w.toNat % 4 = 1) ∧ (s.tapsFit 0 (peakGain (bit w.toNat 8) (s.tapsWritten 0)) = true)) ∧
    (∃ s : State, ∃ w : Word, (w.toNat % 4 = 1) ∧ (s.tapsFit 0 (peakGain (bit w.toNat 8) (s.tapsWritten 0)) = false)) :=
  ⟨⟨st [], 0, 0, 0, by decide +kernel⟩,
   ⟨st [], 0, 0, by decide +kernel⟩,
   ⟨st [((TXM_PROFnC_PARTMASK 0), 0)], 0, 0, by decide +kernel⟩,
   ⟨st [], 1, by decide +kernel⟩,
   ⟨st [(TXM_TAPsw_CEVEN 0 0, 0x7FF), (TXM_PROFnC_PARTMASK 15, 1), (TXM_PROFnA_SHAPE 15, 4), (TXM_PROFnB_DEV 15, 0x7FFF)], 1, by decide +kernel⟩⟩

theorem test_meets_TheTransmitIntervalRunsItsSteps :
    (∃ s : State, ∃ x : Tx, (s.txAir = some x) ∧ (s.get TXM_STAT_PHASE = 1) ∧ (x.start + x.snap.lead * 64 ≤ s.tbs.now) ∧ (s.gateFor x.freq = true)) ∧
    (∃ s : State, ∃ x : Tx, (s.txAir = some x) ∧ (s.gateFor x.freq = false)) ∧
    (∃ s : State, ∃ x : Tx, (s.txAir = some x) ∧ (s.get TXM_STAT_PHASE = 2) ∧ (x.symEnd ≤ s.tbs.now)) ∧
    (∃ s : State, ∃ x : Tx, (s.txAir = some x) ∧ (s.get TXM_STAT_PHASE = 4) ∧ (x.symEnd + x.snap.ramp * 64 ≤ s.tbs.now)) ∧
    (∃ s : State, ∃ x : Tx, (s.txAir = some x) ∧ (s.get TXM_STAT_PHASE = 5) ∧ (x.ended + x.snap.tail * 64 ≤ s.tbs.now) ∧ (s.pwr.sleep = none)) ∧
    (∃ s : State, (s.txm.blank = true) ∧ (s.get TXM_STAT_ACTIVE = 0) ∧ (s.txm.ivEnd + 768 ≤ s.tbs.now)) ∧
    (∃ s : State, (s.txm.mon = false)) ∧
    (∃ s : State, ∃ x : Tx, (s.txAir = some x) ∧ (s.txm.mon = true) ∧ (s.get RXB_MONCTL_EN = 1) ∧ (2 ≤ s.get TXM_STAT_PHASE) ∧ (s.txm.perEnd ≤ s.tbs.now) ∧ (bits x.snap.maskCtl 8 2 = 0) ∧ (s.air.prof = none)) :=
  ⟨⟨{ st [(TXM_STAT_PHASE, 1), (SYNx_STAT_LOCK 2, 1), (SYNx_FREQ_FREQ 2, 0x1B200000)] with txs := [({ stage := .onAir, freq := 0x1B200000 })], syn := [(2, { ph := .locked })] }, { stage := .onAir, freq := 0x1B200000 }, by decide +kernel⟩,
   ⟨{ st [] with txs := [({ stage := .onAir })] }, { stage := .onAir }, by decide +kernel⟩,
   ⟨{ st [(TXM_STAT_PHASE, 2)] with txs := [({ stage := .onAir })], tbs := { (st []).tbs with now := 100000000 } }, { stage := .onAir }, by decide +kernel⟩,
   ⟨{ st [(TXM_STAT_PHASE, 4)] with txs := [({ stage := .onAir })], tbs := { (st []).tbs with now := 100000000 } }, { stage := .onAir }, by decide +kernel⟩,
   ⟨{ st [(TXM_STAT_PHASE, 5)] with pwr := { (st []).pwr with sleep := none }, txs := [({ stage := .onAir })] }, { stage := .onAir }, by decide +kernel⟩,
   ⟨{ st [(TXM_STAT_ACTIVE, 0), (TXM_STAT_ACTIVE, 0)] with txm := { (st []).txm with blank := true }, tbs := { (st []).tbs with now := 768 } }, by decide +kernel⟩,
   ⟨{ st [] with txm := { (st []).txm with mon := false } }, by decide +kernel⟩,
   ⟨{ st [(RXB_MONCTL_EN, 1), (TXM_STAT_PHASE, 2)] with txm := { (st []).txm with mon := true }, air := { (st []).air with prof := none }, txs := [({ stage := .onAir })] }, { stage := .onAir }, by decide +kernel⟩⟩

theorem test_meets_RegulatoryProfilesLoadAndActivate :
    (∃ s : State, (s.air.load = none)) ∧
    (∃ s : State, (s.air.load ≠ none)) ∧
    (∃ s : State, (s.svHalted = true)) ∧
    (∃ s : State, ∃ l : RegLoad, (s.svHalted = false) ∧ (s.air.load = some l) ∧ (s.regVerdict l ≠ 0)) ∧
    (∃ s : State, (s.air.prof = none) ∧ (s.air.pend ≠ none)) ∧
    (∃ s : State, (s.air.prof ≠ none ∨ s.air.pend = none)) ∧
    (∃ s : State, (s.air.nowDue = false)) ∧
    (∃ s : State, ∃ r : RegProf, (s.air.nowDue = true) ∧ (s.air.pend = some r)) :=
  ⟨⟨{ st [] with air := { (st []).air with load := none } }, by decide +kernel⟩,
   ⟨{ st [] with air := { (st []).air with load := some {} } }, by decide +kernel⟩,
   ⟨{ st [] with progs := [(32, { halted := true })] }, by decide +kernel⟩,
   ⟨{ st [] with air := { (st []).air with load := some ({ verdict := 1 }) } }, { verdict := 1 }, by decide +kernel⟩,
   ⟨{ st [] with air := { (st []).air with pend := some {} } }, by decide +kernel⟩,
   ⟨st [], by decide +kernel⟩,
   ⟨{ st [] with air := { (st []).air with nowDue := false } }, by decide +kernel⟩,
   ⟨{ st [] with air := { (st []).air with nowDue := true, pend := some ({ seqno := 1 }) } }, { seqno := 1 }, by decide +kernel⟩⟩

theorem test_meets_RegulatoryProfilesLoadAndActivate_c4 (h : ∀ k m g, Config.ecdsaVerify k m g = true) : ∃ s : State, ∃ l : RegLoad, s.svHalted = false ∧ s.air.load = some l ∧
    s.regVerdict l = 0 ∧ l.now = false :=
  ⟨{ st [] with air := { (st []).air with load := some { octs := [1, 0, 0, 0, 0, 0, 0, 0] } } }, { octs := [1, 0, 0, 0, 0, 0, 0, 0] },
    by decide +kernel, rfl, by unfold State.regVerdict regReason; simp only [h]; decide +kernel, rfl⟩

theorem test_meets_FramesDrawListenAndWait :
    (∃ s : State, ∃ id : Nat, ∃ x : Tx, (s.txFind id = some x) ∧ (x.stage = .bucket) ∧ (s.txWaits x = false) ∧ (x.airtime (s.txSnap x.prof) ≤ s.get ((SAD_ACAPp_CAP x.p).at 200)) ∧ ((s.part x.p).level < ((x.airtime (s.txSnap x.prof) : Nat) : Rat))) ∧
    (∃ s : State, ∃ id : Nat, ∃ x : Tx, (s.txFind id = some x) ∧ (x.stage = .bucket) ∧ (s.txWaits x = false) ∧ (x.airtime (s.txSnap x.prof) ≤ s.get ((SAD_ACAPp_CAP x.p).at 200)) ∧ (¬ (s.part x.p).level < ((x.airtime (s.txSnap x.prof) : Nat) : Rat)) ∧ (s.airOn = false)) ∧
    (∃ s : State, ∃ id : Nat, ∃ x : Tx, (s.txFind id = some x) ∧ (x.stage = .held) ∧ (x.until_ ≤ s.tick) ∧ (s.airOn = true) ∧ (s.grant x.freq x.air s.tick x.latest = .grant)) ∧
    (∃ s : State, ∃ id : Nat, ∃ x : Tx, (s.txFind id = some x) ∧ (x.stage = .backoff) ∧ (x.until_ ≤ s.tick) ∧ (s.airOn = true) ∧ (s.grant x.freq x.air s.tick x.latest = .grant)) ∧
    (∃ s : State, ∃ id : Nat, ∃ x : Tx, (s.txFind id = some x) ∧ (x.stage = .backoff) ∧ (s.tick < x.until_)) ∧
    (∃ s : State, ∃ id : Nat, ∃ x : Tx, ∃ thr, ∃ n, ∃ w, ∃ k, (s.txFind id = some x) ∧ (x.stage = .listen) ∧ (s.air.lbtRet = none) ∧ (s.lbtParams x.freq = some (thr, n)) ∧ (profWidth (s.profA x.prof) (s.profB x.prof) = some w) ∧ (s.monSlot x.freq w = some k) ∧ (n ≤ (s.slot k).valid) ∧ ((s.slot k).busy thr n = false)) ∧
    (∃ s : State, ∃ id : Nat, ∃ x : Tx, ∃ thr, ∃ n, ∃ w, ∃ k, (s.txFind id = some x) ∧ (x.stage = .listen) ∧ (s.air.lbtRet = none) ∧ (s.lbtParams x.freq = some (thr, n)) ∧ (profWidth (s.profA x.prof) (s.profB x.prof) = some w) ∧ (s.monSlot x.freq w = some k) ∧ ((s.slot k).valid < n)) ∧
    (∃ s : State, ∃ id : Nat, ∃ x : Tx, (s.txFind id = some x) ∧ (x.fixed = false) ∧ (x.stage = .clear) ∧ (s.airOn = true) ∧ (s.cal.step = none) ∧ (s.lapsed x = true)) ∧
    (∃ s : State, ∃ id : Nat, ∃ x : Tx, (s.txFind id = some x) ∧ (x.fixed = false) ∧ (s.tick ≤ x.latest)) ∧
    (∃ s : State, ∃ id : Nat, ∃ x : Tx, (s.txFind id = some x) ∧ (x.fixed = false) ∧ (x.kind = .resync) ∧ (x.stage = .bucket) ∧ (s.air.lbtRet = none) ∧ (x.latest < s.tick)) ∧
    (∃ s : State, ∃ id : Nat, ∃ x : Tx, (s.txFind id = some x) ∧ (x.stage = .retry) ∧ (x.until_ ≤ s.tick)) ∧
    (∃ s : State, ∃ id : Nat, ∃ x : Tx, (s.txFind id = some x) ∧ (x.stage = .acked) ∧ (x.ended + 1000 * x.ackWait ≤ s.tick)) ∧
    (∃ s : State, ∃ id : Nat, ∃ x : Tx, (s.txFind id = some x) ∧ (x.stage = .acked) ∧ (s.tick < x.ended + 1000 * x.ackWait)) :=
  ⟨⟨{ st [(TXM_PROFnA_RATE 0, 1000000), ((SAD_ACAPp_CAP 0).at 200, 1000000)] with txs := [({})] }, 0, {}, by decide +kernel⟩,
   ⟨{ st [(TXM_PROFnA_RATE 0, 1000000), ((SAD_ACAPp_CAP 0).at 200, 1000000)] with txs := [({})], parts := [(0, { level := 1000000 })] }, 0, {}, by decide +kernel⟩,
   ⟨{ stAir [] with txs := [({ stage := .held, freq := 0x0C800000 })] }, 0, { stage := .held, freq := 0x0C800000 }, by decide +kernel⟩,
   ⟨{ stAir [] with txs := [({ stage := .backoff, freq := 0x0C800000 })] }, 0, { stage := .backoff, freq := 0x0C800000 }, by decide +kernel⟩,
   ⟨{ st [] with txs := [({ stage := .backoff, until_ := 1 })] }, 0, { stage := .backoff, until_ := 1 }, by decide +kernel⟩,
   ⟨{ st [(AIR_LBTCFG_EN, 1), (AIR_LBTCFG_WIN, 40), (TXM_PROFnA_RATE 0, 3000)] with txs := [({ stage := .listen, freq := 454033408 })], chb := { (st []).chb with active := some plan1 }, slots := [(0, { valid := 1 })] }, 0, { stage := .listen, freq := 454033408 }, 85, 1, 1, 0, by decide +kernel⟩,
   ⟨{ st [(AIR_LBTCFG_EN, 1), (AIR_LBTCFG_WIN, 40), (TXM_PROFnA_RATE 0, 3000)] with txs := [({ stage := .listen, freq := 454033408 })], chb := { (st []).chb with active := some plan1 } }, 0, { stage := .listen, freq := 454033408 }, 85, 1, 1, 0, by decide +kernel⟩,
   ⟨{ stAir [(AIR_LBTCFG_EN, 1), (AIR_LBTCFG_WIN, 40), (TXM_PROFnA_RATE 0, 3000)] with txs := [({ stage := .clear })], tbs := { (st []).tbs with now := 1344 } }, 0, { stage := .clear }, by decide +kernel⟩,
   ⟨{ st [] with txs := [({})] }, 0, {}, by decide +kernel⟩,
   ⟨{ stAir [] with txs := [({ kind := .resync, drawn := 5 })], tbs := { (st []).tbs with now := 64 } }, 0, { kind := .resync, drawn := 5 }, by decide +kernel⟩,
   ⟨{ st [] with txs := [({ stage := .retry, until_ := 1 })], tbs := { (st []).tbs with now := 64 } }, 0, { stage := .retry, until_ := 1 }, by decide +kernel⟩,
   ⟨{ st [] with txs := [({ stage := .acked, ackWait := 1 })], tbs := { (st []).tbs with now := 64000 } }, 0, { stage := .acked, ackWait := 1 }, by decide +kernel⟩,
   ⟨{ st [] with txs := [({ stage := .acked, ackWait := 1 })], tbs := { (st []).tbs with now := 63999 } }, 0, { stage := .acked, ackWait := 1 }, by decide +kernel⟩⟩

theorem test_meets_FixedStartsKeepTheirTimes :
    (∃ s : State, ∃ id : Nat, ∃ x : Tx, (s.txFind id = some x) ∧ (x.fixed = true) ∧ (x.kind = .beacon) ∧ (x.stage = .fixed) ∧ (x.t0 ≤ s.tbs.now + 6400) ∧ (s.pwr.sleep = none) ∧ (s.looseAtRsa = []) ∧ (s.grant x.freq x.air (x.t0 / 64) (x.t0 / 64) = .grant)) ∧
    (∃ s : State, ∃ id : Nat, ∃ x : Tx, (s.txFind id = some x) ∧ (x.fixed = true) ∧ (s.tbs.now + 6400 < x.t0)) ∧
    (∃ s : State, ∃ id : Nat, ∃ x : Tx, (s.txFind id = some x) ∧ (x.fixed = true) ∧ (x.stage = .fixed ∨ x.stage = .atRsa ∨ x.stage = .bound) ∧ (s.fixedDue.contains x = true) ∧ (x.t0 ≤ s.tbs.now + 22400) ∧ (s.gateFor x.freq = false) ∧ (s.inCol = false) ∧ (s.paDriven = false) ∧ (freqOk x.freq = true)) ∧
    (∃ s : State, ∃ id : Nat, ∃ x : Tx, (s.txFind id = some x) ∧ (s.gateFor x.freq = true)) ∧
    (∃ s : State, ∃ id : Nat, ∃ x : Tx, (s.txFind id = some x) ∧ (s.fixedDue.contains x = true) ∧ (x.decided = false) ∧ (x.t0 ≤ s.tbs.now + 1280) ∧ (s.pwr.sleep = none) ∧ (s.fixedLbt x = false ∨ s.fixedClear x = true)) ∧
    (∃ s : State, ∃ id : Nat, ∃ x : Tx, (s.txFind id = some x) ∧ (s.tbs.now + 1280 < x.t0)) ∧
    (∃ s : State, ∃ id : Nat, ∃ x : Tx, ∃ y : Tx, (s.txFind id = some x) ∧ (s.looseAtRsa = [y]) ∧ (s.meetsNext y = true)) ∧
    (∃ s : State, ∃ id : Nat, ∃ x : Tx, ∃ y : Tx, (s.txFind id = some x) ∧ (s.looseAtRsa = [y]) ∧ (y.stage = .atRsa) ∧ (s.meetsNext y = false) ∧ (s.txFind y.id = some y)) ∧
    (∃ s : State, ∃ id : Nat, ∃ x : Tx, (s.txFind id = some x) ∧ (s.looseAtRsa = [])) ∧
    (∃ s : State, ∃ id : Nat, ∃ x : Tx, ∃ y : Tx, (s.txFind id = some x) ∧ (s.txBound = some y) ∧ (y.fixed = false) ∧ (y.until_ + s.get AIR_TXLOCKWAIT_WAIT ≤ s.tick)) ∧
    (∃ s : State, ∃ id : Nat, ∃ x : Tx, ∃ y : Tx, (s.txFind id = some x) ∧ (s.txBound = some y) ∧ (s.tick < y.until_ + s.get AIR_TXLOCKWAIT_WAIT)) :=
  ⟨⟨{ stAir [] with txs := [({ kind := .beacon, fixed := true, stage := .fixed, t0 := 6400 })] }, 0, { kind := .beacon, fixed := true, stage := .fixed, t0 := 6400 }, by decide +kernel⟩,
   ⟨{ st [] with txs := [({ fixed := true, t0 := 6401 })] }, 0, { fixed := true, t0 := 6401 }, by decide +kernel⟩,
   ⟨{ st [] with txs := [({ fixed := true, stage := .fixed, t0 := 22400, freq := 0x0C800000 })] }, 0, { fixed := true, stage := .fixed, t0 := 22400, freq := 0x0C800000 }, by decide +kernel⟩,
   ⟨{ st [(SYNx_STAT_LOCK 2, 1), (SYNx_FREQ_FREQ 2, 0x1B200000)] with txs := [({ freq := 0x1B200000 })], syn := [(2, { ph := .locked })] }, 0, { freq := 0x1B200000 }, by decide +kernel⟩,
   ⟨{ st [] with txs := [({ fixed := true, stage := .fixed, t0 := 1280 })] }, 0, { fixed := true, stage := .fixed, t0 := 1280 }, by decide +kernel⟩,
   ⟨{ st [] with txs := [({ t0 := 1281 })] }, 0, { t0 := 1281 }, by decide +kernel⟩,
   ⟨{ st [] with txs := [({}), ({ stage := .atRsa, id := 1 })] }, 0, {}, { stage := .atRsa, id := 1 }, by decide +kernel⟩,
   ⟨{ st [] with txs := [({}), ({ stage := .atRsa, id := 1 }), { id := 2, fixed := true, stage := .fixed, t0 := 767 }] }, 0, {}, { stage := .atRsa, id := 1 }, by decide +kernel⟩,
   ⟨{ st [] with txs := [({})] }, 0, {}, by decide +kernel⟩,
   ⟨{ st [] with txs := [({}), ({ stage := .bound, id := 1 })], tbs := { (st []).tbs with now := 128000 } }, 0, {}, { stage := .bound, id := 1 }, by decide +kernel⟩,
   ⟨{ st [(AIR_TXLOCKWAIT_WAIT, 1000)] with txs := [({}), ({ stage := .bound, id := 1 })], tbs := { (st []).tbs with now := 63999 } }, 0, {}, { stage := .bound, id := 1 }, by decide +kernel⟩⟩

theorem test_meets_BeaconBoundariesApplyWhatWaits :
    (∃ s : State, (s.tick < s.air.nextB)) ∧
    (∃ s : State, (s.air.nextB ≤ s.tick) ∧ (s.pwr.sleep = none)) ∧
    (∃ s : State, (s.air.nextB ≤ s.tick) ∧ (s.pwr.sleep = some .sleep)) ∧
    (∃ s : State, ∃ w : Word, ∃ p : Fin 32, (AIR_BPER_PER.allows w.toNat = true) ∧ (((allParts.all fun p => bperOk w.toNat (s.get (AIR_BCNP_BDIV.at p))) && bperOk w.toNat (s.get COL_TX_BDIV)) = true)) ∧
    (∃ s : State, ∃ w : Word, ∃ p : Fin 32, (AIR_BPER_PER.allows w.toNat = true) ∧ (((allParts.all fun p => bperOk w.toNat (s.get (AIR_BCNP_BDIV.at p))) && bperOk w.toNat (s.get COL_TX_BDIV)) = false)) ∧
    (∃ s : State, ∃ p : Fin 32, (s.tick + 1000 < s.groupAt p)) ∧
    (∃ s : State, ∃ p : Fin 32, (s.pwr.sleep = none) ∧ (s.groupAt p ≤ s.tick + 1000) ∧ (Tab.get 0 s.air.gbuilt p ≠ s.groupAt p) ∧ (s.air.gents = [])) ∧
    (∃ s : State, ∃ p : Fin 32, ∃ b : Nat, ∃ body : List Byte, ((s.air.bcnDue.find? fun e => e.1 = p.val) = some (p.val, b, body)) ∧ (s.pwr.sleep = none) ∧ ((s.beaconFrame p b body).ts / 64 ≤ s.tick + 1000) ∧ (s.airOn = false)) ∧
    (∃ s : State, ∃ p : Fin 32, ∃ b : Nat, ∃ body : List Byte, ∃ u : State, ((s.air.bcnDue.find? fun e => e.1 = p.val) = some (p.val, b, body)) ∧ (s.pwr.sleep = none) ∧ ((s.beaconFrame p b body).ts / 64 ≤ s.tick + 1000) ∧ (syncOk 2 (s.get ((AIR_TXSYNCn_SYNC (s.beaconFrame p b body).sync).at p)) = true) ∧ ((s.get (TXM_PROFnC_PARTMASK (s.beaconFrame p b body).prof)).testBit p = true) ∧ (({ s with air := { s.air with bcnDue := s.air.bcnDue.filter fun e => e.1 ≠ p.val } } : State).reserve (s.beaconFrame p b body) ((s.beaconFrame p b body).airtime (s.txSnap (s.beaconFrame p b body).prof)) = some u)) ∧
    (∃ s : State, ∃ p : Fin 32, ((s.air.bcnDue.find? fun e => e.1 = p.val) = none)) ∧
    (∃ s : State, ∃ p : Fin 32, ∃ x : Tx, ∃ l : List GEnt, ∃ u : State, (s.pwr.sleep = none) ∧ (s.groupAt p ≤ s.tick + 1000) ∧ (Tab.get 0 s.air.gbuilt p ≠ s.groupAt p) ∧ (({ s with air := { s.air with gbuilt := Tab.set 0 s.air.gbuilt p (s.groupAt p) } } : State).groupTx p (s.groupAt p) = some (x, l)) ∧ (syncOk 2 (s.get ((AIR_TXSYNCn_SYNC x.sync).at p)) = true) ∧ (({ s with air := { s.air with gbuilt := Tab.set 0 s.air.gbuilt p (s.groupAt p) } } : State).reserve x (x.airtime (s.txSnap x.prof) - (l.map GEnt.air).sum) = some u)) :=
  ⟨⟨st [], by decide +kernel⟩,
   ⟨{ st [] with tbs := { (st []).tbs with now := 1920000000 } }, by decide +kernel⟩,
   ⟨{ st [] with pwr := { (st []).pwr with sleep := some .sleep }, tbs := { (st []).tbs with now := 1920000000 } }, by decide +kernel⟩,
   ⟨st [], 3600000000, 0, by decide +kernel⟩,
   ⟨st [(COL_TX_BDIV, 2)], 3600000000, 0, by decide +kernel⟩,
   ⟨st [(AIR_GOFS_OFS.at 31, 1001)], 31, by decide +kernel⟩,
   ⟨{ st [] with tbs := { (st []).tbs with now := 127936000 } }, 31, by decide +kernel⟩,
   ⟨{ st [] with air := { (st []).air with bcnDue := [(0, 0, [])] } }, 0, 0, [], by decide +kernel⟩,
   ⟨{ stAir [(TXM_PROFnA_RATE 0, 1000000), (TXM_PROFnC_PARTMASK 0, 1), (AIR_TXSYNCn_SYNC 0, 0x12345678)] with air := { (stAir []).air with bcnDue := [(0, 0, [])] } }, 0, 0, [], (({ ({ stAir [(TXM_PROFnA_RATE 0, 1000000), (TXM_PROFnC_PARTMASK 0, 1), (AIR_TXSYNCn_SYNC 0, 0x12345678)] with air := { (stAir []).air with bcnDue := [(0, 0, [])] } }) with air := { ({ stAir [(TXM_PROFnA_RATE 0, 1000000), (TXM_PROFnC_PARTMASK 0, 1), (AIR_TXSYNCn_SYNC 0, 0x12345678)] with air := { (stAir []).air with bcnDue := [(0, 0, [])] } }).air with bcnDue := ({ stAir [(TXM_PROFnA_RATE 0, 1000000), (TXM_PROFnC_PARTMASK 0, 1), (AIR_TXSYNCn_SYNC 0, 0x12345678)] with air := { (stAir []).air with bcnDue := [(0, 0, [])] } }).air.bcnDue.filter fun e => e.1 ≠ (0 : Fin 32).val } } : State).reserve (({ stAir [(TXM_PROFnA_RATE 0, 1000000), (TXM_PROFnC_PARTMASK 0, 1), (AIR_TXSYNCn_SYNC 0, 0x12345678)] with air := { (stAir []).air with bcnDue := [(0, 0, [])] } }).beaconFrame 0 0 []) ((({ stAir [(TXM_PROFnA_RATE 0, 1000000), (TXM_PROFnC_PARTMASK 0, 1), (AIR_TXSYNCn_SYNC 0, 0x12345678)] with air := { (stAir []).air with bcnDue := [(0, 0, [])] } }).beaconFrame 0 0 []).airtime (({ stAir [(TXM_PROFnA_RATE 0, 1000000), (TXM_PROFnC_PARTMASK 0, 1), (AIR_TXSYNCn_SYNC 0, 0x12345678)] with air := { (stAir []).air with bcnDue := [(0, 0, [])] } }).txSnap (({ stAir [(TXM_PROFnA_RATE 0, 1000000), (TXM_PROFnC_PARTMASK 0, 1), (AIR_TXSYNCn_SYNC 0, 0x12345678)] with air := { (stAir []).air with bcnDue := [(0, 0, [])] } }).beaconFrame 0 0 []).prof))).getD (st []), by decide +kernel⟩,
   ⟨st [], 0, by decide +kernel⟩,
   ⟨{ stAir [(TXM_PROFnA_RATE 0, 1000000), (TXM_PROFnB_DEV 0, 0), (TXM_PROFnA_MOD 0, 0), (TXM_PROFnC_PARTMASK 0, 1), (AIR_TXSYNCn_SYNC 0, 0x12345678)] with air := { (stAir []).air with gents := [{ p := 0, fid := 0, saddr := 1, seq := 7, rate := 1000000, air := 5, ok := true }] }, tbs := { (st []).tbs with now := 127936000 } }, 0, (({ ({ stAir [(TXM_PROFnA_RATE 0, 1000000), (TXM_PROFnB_DEV 0, 0), (TXM_PROFnA_MOD 0, 0), (TXM_PROFnC_PARTMASK 0, 1), (AIR_TXSYNCn_SYNC 0, 0x12345678)] with air := { (stAir []).air with gents := [{ p := 0, fid := 0, saddr := 1, seq := 7, rate := 1000000, air := 5, ok := true }] }, tbs := { (st []).tbs with now := 127936000 } }) with air := { ({ stAir [(TXM_PROFnA_RATE 0, 1000000), (TXM_PROFnB_DEV 0, 0), (TXM_PROFnA_MOD 0, 0), (TXM_PROFnC_PARTMASK 0, 1), (AIR_TXSYNCn_SYNC 0, 0x12345678)] with air := { (stAir []).air with gents := [{ p := 0, fid := 0, saddr := 1, seq := 7, rate := 1000000, air := 5, ok := true }] }, tbs := { (st []).tbs with now := 127936000 } }).air with gbuilt := Tab.set 0 ({ stAir [(TXM_PROFnA_RATE 0, 1000000), (TXM_PROFnB_DEV 0, 0), (TXM_PROFnA_MOD 0, 0), (TXM_PROFnC_PARTMASK 0, 1), (AIR_TXSYNCn_SYNC 0, 0x12345678)] with air := { (stAir []).air with gents := [{ p := 0, fid := 0, saddr := 1, seq := 7, rate := 1000000, air := 5, ok := true }] }, tbs := { (st []).tbs with now := 127936000 } }).air.gbuilt (0 : Fin 32) (({ stAir [(TXM_PROFnA_RATE 0, 1000000), (TXM_PROFnB_DEV 0, 0), (TXM_PROFnA_MOD 0, 0), (TXM_PROFnC_PARTMASK 0, 1), (AIR_TXSYNCn_SYNC 0, 0x12345678)] with air := { (stAir []).air with gents := [{ p := 0, fid := 0, saddr := 1, seq := 7, rate := 1000000, air := 5, ok := true }] }, tbs := { (st []).tbs with now := 127936000 } }).groupAt (0 : Fin 32)) } } : State).groupTx (0 : Fin 32) (({ stAir [(TXM_PROFnA_RATE 0, 1000000), (TXM_PROFnB_DEV 0, 0), (TXM_PROFnA_MOD 0, 0), (TXM_PROFnC_PARTMASK 0, 1), (AIR_TXSYNCn_SYNC 0, 0x12345678)] with air := { (stAir []).air with gents := [{ p := 0, fid := 0, saddr := 1, seq := 7, rate := 1000000, air := 5, ok := true }] }, tbs := { (st []).tbs with now := 127936000 } }).groupAt (0 : Fin 32))).elim ({ id := 0 } : Tx) Prod.fst, (({ ({ stAir [(TXM_PROFnA_RATE 0, 1000000), (TXM_PROFnB_DEV 0, 0), (TXM_PROFnA_MOD 0, 0), (TXM_PROFnC_PARTMASK 0, 1), (AIR_TXSYNCn_SYNC 0, 0x12345678)] with air := { (stAir []).air with gents := [{ p := 0, fid := 0, saddr := 1, seq := 7, rate := 1000000, air := 5, ok := true }] }, tbs := { (st []).tbs with now := 127936000 } }) with air := { ({ stAir [(TXM_PROFnA_RATE 0, 1000000), (TXM_PROFnB_DEV 0, 0), (TXM_PROFnA_MOD 0, 0), (TXM_PROFnC_PARTMASK 0, 1), (AIR_TXSYNCn_SYNC 0, 0x12345678)] with air := { (stAir []).air with gents := [{ p := 0, fid := 0, saddr := 1, seq := 7, rate := 1000000, air := 5, ok := true }] }, tbs := { (st []).tbs with now := 127936000 } }).air with gbuilt := Tab.set 0 ({ stAir [(TXM_PROFnA_RATE 0, 1000000), (TXM_PROFnB_DEV 0, 0), (TXM_PROFnA_MOD 0, 0), (TXM_PROFnC_PARTMASK 0, 1), (AIR_TXSYNCn_SYNC 0, 0x12345678)] with air := { (stAir []).air with gents := [{ p := 0, fid := 0, saddr := 1, seq := 7, rate := 1000000, air := 5, ok := true }] }, tbs := { (st []).tbs with now := 127936000 } }).air.gbuilt (0 : Fin 32) (({ stAir [(TXM_PROFnA_RATE 0, 1000000), (TXM_PROFnB_DEV 0, 0), (TXM_PROFnA_MOD 0, 0), (TXM_PROFnC_PARTMASK 0, 1), (AIR_TXSYNCn_SYNC 0, 0x12345678)] with air := { (stAir []).air with gents := [{ p := 0, fid := 0, saddr := 1, seq := 7, rate := 1000000, air := 5, ok := true }] }, tbs := { (st []).tbs with now := 127936000 } }).groupAt (0 : Fin 32)) } } : State).groupTx (0 : Fin 32) (({ stAir [(TXM_PROFnA_RATE 0, 1000000), (TXM_PROFnB_DEV 0, 0), (TXM_PROFnA_MOD 0, 0), (TXM_PROFnC_PARTMASK 0, 1), (AIR_TXSYNCn_SYNC 0, 0x12345678)] with air := { (stAir []).air with gents := [{ p := 0, fid := 0, saddr := 1, seq := 7, rate := 1000000, air := 5, ok := true }] }, tbs := { (st []).tbs with now := 127936000 } }).groupAt (0 : Fin 32))).elim [] Prod.snd, ((({ ({ stAir [(TXM_PROFnA_RATE 0, 1000000), (TXM_PROFnB_DEV 0, 0), (TXM_PROFnA_MOD 0, 0), (TXM_PROFnC_PARTMASK 0, 1), (AIR_TXSYNCn_SYNC 0, 0x12345678)] with air := { (stAir []).air with gents := [{ p := 0, fid := 0, saddr := 1, seq := 7, rate := 1000000, air := 5, ok := true }] }, tbs := { (st []).tbs with now := 127936000 } }) with air := { ({ stAir [(TXM_PROFnA_RATE 0, 1000000), (TXM_PROFnB_DEV 0, 0), (TXM_PROFnA_MOD 0, 0), (TXM_PROFnC_PARTMASK 0, 1), (AIR_TXSYNCn_SYNC 0, 0x12345678)] with air := { (stAir []).air with gents := [{ p := 0, fid := 0, saddr := 1, seq := 7, rate := 1000000, air := 5, ok := true }] }, tbs := { (st []).tbs with now := 127936000 } }).air with gbuilt := Tab.set 0 ({ stAir [(TXM_PROFnA_RATE 0, 1000000), (TXM_PROFnB_DEV 0, 0), (TXM_PROFnA_MOD 0, 0), (TXM_PROFnC_PARTMASK 0, 1), (AIR_TXSYNCn_SYNC 0, 0x12345678)] with air := { (stAir []).air with gents := [{ p := 0, fid := 0, saddr := 1, seq := 7, rate := 1000000, air := 5, ok := true }] }, tbs := { (st []).tbs with now := 127936000 } }).air.gbuilt (0 : Fin 32) (({ stAir [(TXM_PROFnA_RATE 0, 1000000), (TXM_PROFnB_DEV 0, 0), (TXM_PROFnA_MOD 0, 0), (TXM_PROFnC_PARTMASK 0, 1), (AIR_TXSYNCn_SYNC 0, 0x12345678)] with air := { (stAir []).air with gents := [{ p := 0, fid := 0, saddr := 1, seq := 7, rate := 1000000, air := 5, ok := true }] }, tbs := { (st []).tbs with now := 127936000 } }).groupAt (0 : Fin 32)) } } : State).reserve ((({ ({ stAir [(TXM_PROFnA_RATE 0, 1000000), (TXM_PROFnB_DEV 0, 0), (TXM_PROFnA_MOD 0, 0), (TXM_PROFnC_PARTMASK 0, 1), (AIR_TXSYNCn_SYNC 0, 0x12345678)] with air := { (stAir []).air with gents := [{ p := 0, fid := 0, saddr := 1, seq := 7, rate := 1000000, air := 5, ok := true }] }, tbs := { (st []).tbs with now := 127936000 } }) with air := { ({ stAir [(TXM_PROFnA_RATE 0, 1000000), (TXM_PROFnB_DEV 0, 0), (TXM_PROFnA_MOD 0, 0), (TXM_PROFnC_PARTMASK 0, 1), (AIR_TXSYNCn_SYNC 0, 0x12345678)] with air := { (stAir []).air with gents := [{ p := 0, fid := 0, saddr := 1, seq := 7, rate := 1000000, air := 5, ok := true }] }, tbs := { (st []).tbs with now := 127936000 } }).air with gbuilt := Tab.set 0 ({ stAir [(TXM_PROFnA_RATE 0, 1000000), (TXM_PROFnB_DEV 0, 0), (TXM_PROFnA_MOD 0, 0), (TXM_PROFnC_PARTMASK 0, 1), (AIR_TXSYNCn_SYNC 0, 0x12345678)] with air := { (stAir []).air with gents := [{ p := 0, fid := 0, saddr := 1, seq := 7, rate := 1000000, air := 5, ok := true }] }, tbs := { (st []).tbs with now := 127936000 } }).air.gbuilt (0 : Fin 32) (({ stAir [(TXM_PROFnA_RATE 0, 1000000), (TXM_PROFnB_DEV 0, 0), (TXM_PROFnA_MOD 0, 0), (TXM_PROFnC_PARTMASK 0, 1), (AIR_TXSYNCn_SYNC 0, 0x12345678)] with air := { (stAir []).air with gents := [{ p := 0, fid := 0, saddr := 1, seq := 7, rate := 1000000, air := 5, ok := true }] }, tbs := { (st []).tbs with now := 127936000 } }).groupAt (0 : Fin 32)) } } : State).groupTx (0 : Fin 32) (({ stAir [(TXM_PROFnA_RATE 0, 1000000), (TXM_PROFnB_DEV 0, 0), (TXM_PROFnA_MOD 0, 0), (TXM_PROFnC_PARTMASK 0, 1), (AIR_TXSYNCn_SYNC 0, 0x12345678)] with air := { (stAir []).air with gents := [{ p := 0, fid := 0, saddr := 1, seq := 7, rate := 1000000, air := 5, ok := true }] }, tbs := { (st []).tbs with now := 127936000 } }).groupAt (0 : Fin 32))).elim ({ id := 0 } : Tx) Prod.fst) (((({ ({ stAir [(TXM_PROFnA_RATE 0, 1000000), (TXM_PROFnB_DEV 0, 0), (TXM_PROFnA_MOD 0, 0), (TXM_PROFnC_PARTMASK 0, 1), (AIR_TXSYNCn_SYNC 0, 0x12345678)] with air := { (stAir []).air with gents := [{ p := 0, fid := 0, saddr := 1, seq := 7, rate := 1000000, air := 5, ok := true }] }, tbs := { (st []).tbs with now := 127936000 } }) with air := { ({ stAir [(TXM_PROFnA_RATE 0, 1000000), (TXM_PROFnB_DEV 0, 0), (TXM_PROFnA_MOD 0, 0), (TXM_PROFnC_PARTMASK 0, 1), (AIR_TXSYNCn_SYNC 0, 0x12345678)] with air := { (stAir []).air with gents := [{ p := 0, fid := 0, saddr := 1, seq := 7, rate := 1000000, air := 5, ok := true }] }, tbs := { (st []).tbs with now := 127936000 } }).air with gbuilt := Tab.set 0 ({ stAir [(TXM_PROFnA_RATE 0, 1000000), (TXM_PROFnB_DEV 0, 0), (TXM_PROFnA_MOD 0, 0), (TXM_PROFnC_PARTMASK 0, 1), (AIR_TXSYNCn_SYNC 0, 0x12345678)] with air := { (stAir []).air with gents := [{ p := 0, fid := 0, saddr := 1, seq := 7, rate := 1000000, air := 5, ok := true }] }, tbs := { (st []).tbs with now := 127936000 } }).air.gbuilt (0 : Fin 32) (({ stAir [(TXM_PROFnA_RATE 0, 1000000), (TXM_PROFnB_DEV 0, 0), (TXM_PROFnA_MOD 0, 0), (TXM_PROFnC_PARTMASK 0, 1), (AIR_TXSYNCn_SYNC 0, 0x12345678)] with air := { (stAir []).air with gents := [{ p := 0, fid := 0, saddr := 1, seq := 7, rate := 1000000, air := 5, ok := true }] }, tbs := { (st []).tbs with now := 127936000 } }).groupAt (0 : Fin 32)) } } : State).groupTx (0 : Fin 32) (({ stAir [(TXM_PROFnA_RATE 0, 1000000), (TXM_PROFnB_DEV 0, 0), (TXM_PROFnA_MOD 0, 0), (TXM_PROFnC_PARTMASK 0, 1), (AIR_TXSYNCn_SYNC 0, 0x12345678)] with air := { (stAir []).air with gents := [{ p := 0, fid := 0, saddr := 1, seq := 7, rate := 1000000, air := 5, ok := true }] }, tbs := { (st []).tbs with now := 127936000 } }).groupAt (0 : Fin 32))).elim ({ id := 0 } : Tx) Prod.fst).airtime (({ stAir [(TXM_PROFnA_RATE 0, 1000000), (TXM_PROFnB_DEV 0, 0), (TXM_PROFnA_MOD 0, 0), (TXM_PROFnC_PARTMASK 0, 1), (AIR_TXSYNCn_SYNC 0, 0x12345678)] with air := { (stAir []).air with gents := [{ p := 0, fid := 0, saddr := 1, seq := 7, rate := 1000000, air := 5, ok := true }] }, tbs := { (st []).tbs with now := 127936000 } }).txSnap ((({ ({ stAir [(TXM_PROFnA_RATE 0, 1000000), (TXM_PROFnB_DEV 0, 0), (TXM_PROFnA_MOD 0, 0), (TXM_PROFnC_PARTMASK 0, 1), (AIR_TXSYNCn_SYNC 0, 0x12345678)] with air := { (stAir []).air with gents := [{ p := 0, fid := 0, saddr := 1, seq := 7, rate := 1000000, air := 5, ok := true }] }, tbs := { (st []).tbs with now := 127936000 } }) with air := { ({ stAir [(TXM_PROFnA_RATE 0, 1000000), (TXM_PROFnB_DEV 0, 0), (TXM_PROFnA_MOD 0, 0), (TXM_PROFnC_PARTMASK 0, 1), (AIR_TXSYNCn_SYNC 0, 0x12345678)] with air := { (stAir []).air with gents := [{ p := 0, fid := 0, saddr := 1, seq := 7, rate := 1000000, air := 5, ok := true }] }, tbs := { (st []).tbs with now := 127936000 } }).air with gbuilt := Tab.set 0 ({ stAir [(TXM_PROFnA_RATE 0, 1000000), (TXM_PROFnB_DEV 0, 0), (TXM_PROFnA_MOD 0, 0), (TXM_PROFnC_PARTMASK 0, 1), (AIR_TXSYNCn_SYNC 0, 0x12345678)] with air := { (stAir []).air with gents := [{ p := 0, fid := 0, saddr := 1, seq := 7, rate := 1000000, air := 5, ok := true }] }, tbs := { (st []).tbs with now := 127936000 } }).air.gbuilt (0 : Fin 32) (({ stAir [(TXM_PROFnA_RATE 0, 1000000), (TXM_PROFnB_DEV 0, 0), (TXM_PROFnA_MOD 0, 0), (TXM_PROFnC_PARTMASK 0, 1), (AIR_TXSYNCn_SYNC 0, 0x12345678)] with air := { (stAir []).air with gents := [{ p := 0, fid := 0, saddr := 1, seq := 7, rate := 1000000, air := 5, ok := true }] }, tbs := { (st []).tbs with now := 127936000 } }).groupAt (0 : Fin 32)) } } : State).groupTx (0 : Fin 32) (({ stAir [(TXM_PROFnA_RATE 0, 1000000), (TXM_PROFnB_DEV 0, 0), (TXM_PROFnA_MOD 0, 0), (TXM_PROFnC_PARTMASK 0, 1), (AIR_TXSYNCn_SYNC 0, 0x12345678)] with air := { (stAir []).air with gents := [{ p := 0, fid := 0, saddr := 1, seq := 7, rate := 1000000, air := 5, ok := true }] }, tbs := { (st []).tbs with now := 127936000 } }).groupAt (0 : Fin 32))).elim ({ id := 0 } : Tx) Prod.fst).prof) - (((({ ({ stAir [(TXM_PROFnA_RATE 0, 1000000), (TXM_PROFnB_DEV 0, 0), (TXM_PROFnA_MOD 0, 0), (TXM_PROFnC_PARTMASK 0, 1), (AIR_TXSYNCn_SYNC 0, 0x12345678)] with air := { (stAir []).air with gents := [{ p := 0, fid := 0, saddr := 1, seq := 7, rate := 1000000, air := 5, ok := true }] }, tbs := { (st []).tbs with now := 127936000 } }) with air := { ({ stAir [(TXM_PROFnA_RATE 0, 1000000), (TXM_PROFnB_DEV 0, 0), (TXM_PROFnA_MOD 0, 0), (TXM_PROFnC_PARTMASK 0, 1), (AIR_TXSYNCn_SYNC 0, 0x12345678)] with air := { (stAir []).air with gents := [{ p := 0, fid := 0, saddr := 1, seq := 7, rate := 1000000, air := 5, ok := true }] }, tbs := { (st []).tbs with now := 127936000 } }).air with gbuilt := Tab.set 0 ({ stAir [(TXM_PROFnA_RATE 0, 1000000), (TXM_PROFnB_DEV 0, 0), (TXM_PROFnA_MOD 0, 0), (TXM_PROFnC_PARTMASK 0, 1), (AIR_TXSYNCn_SYNC 0, 0x12345678)] with air := { (stAir []).air with gents := [{ p := 0, fid := 0, saddr := 1, seq := 7, rate := 1000000, air := 5, ok := true }] }, tbs := { (st []).tbs with now := 127936000 } }).air.gbuilt (0 : Fin 32) (({ stAir [(TXM_PROFnA_RATE 0, 1000000), (TXM_PROFnB_DEV 0, 0), (TXM_PROFnA_MOD 0, 0), (TXM_PROFnC_PARTMASK 0, 1), (AIR_TXSYNCn_SYNC 0, 0x12345678)] with air := { (stAir []).air with gents := [{ p := 0, fid := 0, saddr := 1, seq := 7, rate := 1000000, air := 5, ok := true }] }, tbs := { (st []).tbs with now := 127936000 } }).groupAt (0 : Fin 32)) } } : State).groupTx (0 : Fin 32) (({ stAir [(TXM_PROFnA_RATE 0, 1000000), (TXM_PROFnB_DEV 0, 0), (TXM_PROFnA_MOD 0, 0), (TXM_PROFnC_PARTMASK 0, 1), (AIR_TXSYNCn_SYNC 0, 0x12345678)] with air := { (stAir []).air with gents := [{ p := 0, fid := 0, saddr := 1, seq := 7, rate := 1000000, air := 5, ok := true }] }, tbs := { (st []).tbs with now := 127936000 } }).groupAt (0 : Fin 32))).elim [] Prod.snd).map GEnt.air).sum))).getD (st []), by decide +kernel⟩⟩

theorem test_meets_WakeWindowsAreOfferedAndJudged :
    (∃ s : State, ∃ p : Fin 32, ∃ li : Nat, (s.wheelRuns = true) ∧ ((s.ascEnt (s.entOf p li)).armed = true) ∧ ((s.ascEnt (s.entOf p li)).offered = false) ∧ (s.clsTx p (s.entClass (s.entOf p li)) = true) ∧ (s.windowFrame p li = none) ∧ ((s.ascEnt (s.entOf p li)).w - (s.ascEnt (s.entOf p li)).h - ((s.get ASC_WHL_LEAD * 1000 : Nat) : Int) ≤ (s.tick : Int))) ∧
    (∃ s : State, (s.wheelRuns = false)) ∧
    (∃ s : State, (s.wheelRuns = false)) ∧
    (∃ s : State, (s.wheelRuns = false)) ∧
    (∃ s : State, (s.wheelRuns = false)) ∧
    (∃ s : State, ∃ p : Fin 32, ∃ li : Nat, (s.verdictDue (s.entOf p li) = true) ∧ (s.clsTx p (s.entClass (s.entOf p li)) = false) ∧ (s.entFrs (s.entOf p li) = false)) ∧
    (∃ s : State, ∃ p : Fin 32, ∃ li : Nat, (s.verdictDue (s.entOf p li) = true) ∧ (s.clsTx p (s.entClass (s.entOf p li)) = true) ∧ ((s.entFrs (s.entOf p li) && (s.ascEnt (s.entOf p li)).hit) = false)) ∧
    (∃ s : State, ∃ p : Fin 32, ∃ li : Nat, (s.wheelRuns = true) ∧ (s.entSt (s.entOf p li) = 2) ∧ (s.entFrs (s.entOf p li) = false) ∧ (s.get (ASC_LOSTCFG_RPER.at p) ≠ 0) ∧ ((s.ascEnt (s.entOf p li)).resync ≤ s.tick) ∧ (s.txQueued p < (s.part p).desc.txQ) ∧ (s.txSecCheck p li = none) ∧ (syncOk 2 (s.get ((AIR_TXSYNCn_SYNC (s.resyncFrame p li).sync).at p)) = true) ∧ ((s.get (TXM_PROFnC_PARTMASK (s.resyncFrame p li).prof)).testBit p = true)) ∧
    (∃ p : Fin 32, ∃ w : Word, (1 ≤ bits w.toNat (ASC_SARNGp_FIRST p).lo 16) ∧ (bits w.toNat (ASC_SARNGp_FIRST p).lo 16 ≤ bits w.toNat (ASC_SARNGp_LAST p).lo 16) ∧ (bits w.toNat (ASC_SARNGp_LAST p).lo 16 ≤ 0xFFFD)) ∧
    (∃ p : Fin 32, ∃ w : Word, (bits w.toNat (ASC_SARNGp_LAST p).lo 16 < bits w.toNat (ASC_SARNGp_FIRST p).lo 16)) ∧
    (∃ s : State, (s.get TBS_STAT_DISCONT = 0)) :=
  ⟨⟨{ st [(ASC_CTL_EN, 1), (TBS_STAT_DISCONT, 0), ((ASC_WCLSnA_KIND 0).at 0, 1)] with asc := [(0, { armed := true, w := 10000 })] }, 0, 0, by decide +kernel⟩,
   ⟨st [], by decide +kernel⟩,
   ⟨st [], by decide +kernel⟩,
   ⟨st [], by decide +kernel⟩,
   ⟨st [], by decide +kernel⟩,
   ⟨{ st [(ASC_CTL_EN, 1), (TBS_STAT_DISCONT, 0)] with asc := [(0, { armed := true, w := -100000000, h := 0 })] }, 0, 0, by decide +kernel⟩,
   ⟨{ st [(ASC_CTL_EN, 1), (TBS_STAT_DISCONT, 0), ((ASC_WCLSnA_KIND 0).at 0, 1)] with asc := [(0, { armed := true, w := -1, h := 1 })] }, 0, 0, by decide +kernel⟩,
   ⟨{ st [((ASC_LOSTCFG_RPER.at 0), 1), (ASC_CTL_EN, 1), (TBS_STAT_DISCONT, 0), (KEY_CTL_EN, 1), (ASC_LOSTCFG_RPER.at 0, 1), (AIR_TXSYNCn_SYNC 0, 0x12345678), (TXM_PROFnC_PARTMASK 0, 1)] with mem := [(ntFirst + 35, 0x80)], parts := [(0, { desc := { txQ := 1, kslotQ := 2 } })] }, 0, 0, by decide +kernel⟩,
   ⟨0, 0xFFFD0001, by decide +kernel⟩,
   ⟨0, 1, by decide +kernel⟩,
   ⟨st [(TBS_STAT_DISCONT, 0)], by decide +kernel⟩⟩

theorem test_meets_PartitionsAreCreatedResetAndPurged_1 :
    (∃ s : State, (s.get PRT_CRSTAT_BUSY ≠ 0)) ∧
    (∃ s : State, (s.get PRT_CRSTAT_BUSY = 0)) ∧
    (∃ s : State, ∃ c : Creation, (s.svHalted = false) ∧ (s.creation = some c) ∧ (c.purge = none) ∧ (c.byReg = true) ∧ (c.code ≠ .done)) ∧
    (∃ s : State, ∃ c : Creation, (s.svHalted = false) ∧ (s.creation = some c) ∧ (c.purge = none) ∧ (c.byReg = true) ∧ (c.code = .done) ∧ (c.desc.pnum ≠ 0) ∧ (c.desc.pnum < 32)) ∧
    (∃ s : State, ∃ p : Fin 32, (p ≠ 0) ∧ (s.pexists p = true) ∧ (s.get PRT_CRSTAT_BUSY = 0)) ∧
    (∃ s : State, (s.get PRT_CRSTAT_BUSY ≠ 0)) ∧
    (∃ s : State, ∃ p : Fin 32, ∃ w : Word, (s.pexists p = true) ∧ (s.pstate p ≠ PState.purging.num) ∧ ((s.part p).rst = none) ∧ (bits w.toNat 0 2 = 1)) ∧
    (∃ s : State, ∃ p : Fin 32, ∃ w : Word, (s.pexists p = true) ∧ (s.pstate p ≠ PState.purging.num) ∧ ((s.part p).rst = none) ∧ (bits w.toNat 0 2 = 2)) ∧
    (∃ w : Word, (bits w.toNat 0 2 = 0 ∨ bits w.toNat 0 2 = 3)) ∧
    (∃ w : Word, (bits w.toNat 4 2 = 0 ∨ bits w.toNat 4 2 = 3)) ∧
    (∃ s : State, ∃ p : Fin 32, ∃ w : Word, (s.pexists p = true) ∧ (s.pstate p ≠ PState.purging.num) ∧ ((s.part p).rst = none) ∧ (bits w.toNat 4 2 = 1)) ∧
    (∃ s : State, ∃ p : Fin 32, (s.svHalted = false) ∧ ((s.part p).rst = some .soft ∨ (s.part p).rst = some .hard)) ∧
    (∃ s : State, ∃ p : Fin 32, (s.svHalted = false) ∧ ((s.part p).rst = some .purge)) ∧
    (∃ s : State, ∃ p : Fin 32, (s.svHalted = false) ∧ ((s.part p).rst = none)) :=
  ⟨⟨st [(PRT_CRSTAT_BUSY, 1)], by decide +kernel⟩,
   ⟨st [(PRT_CRSTAT_BUSY, 0)], by decide +kernel⟩,
   ⟨{ st [] with creation := some ({ code := .refusedQuota }) }, { code := .refusedQuota }, by decide +kernel⟩,
   ⟨{ st [] with creation := some ({ desc := { pnum := 31 } }) }, { desc := { pnum := 31 } }, by decide +kernel⟩,
   ⟨st [(PRT_PSTATp_STATE 31, 2), (PRT_CRSTAT_BUSY, 0), (PRT_PSTATp_STATE 31, 2)], 31, by decide +kernel⟩,
   ⟨st [(PRT_CRSTAT_BUSY, 1)], by decide +kernel⟩,
   ⟨st [(PRT_PSTATp_STATE 31, 2), (PRT_PSTATp_STATE 31, 2)], 31, 1, by decide +kernel⟩,
   ⟨st [(PRT_PSTATp_STATE 31, 2), (PRT_PSTATp_STATE 31, 2)], 31, 2, by decide +kernel⟩,
   ⟨0, by decide +kernel⟩,
   ⟨0, by decide +kernel⟩,
   ⟨st [(PRT_PSTATp_STATE 31, 2), (PRT_PSTATp_STATE 31, 2)], 31, 0x10, by decide +kernel⟩,
   ⟨{ st [] with parts := [(0, { rst := some .hard })] }, 0, by decide +kernel⟩,
   ⟨{ st [] with parts := [(0, { rst := some .purge })] }, 0, by decide +kernel⟩,
   ⟨st [], 0, by decide +kernel⟩⟩

theorem test_meets_PartitionsAreCreatedResetAndPurged_2 :
    (∃ s : State, ∃ p : Fin 32, (s.svHalted = false) ∧ ((s.part p).erase = true) ∧ (s.pexists p = false)) ∧
    (∃ s : State, ∃ p : Fin 32, ∃ f : Nat, (s.svHalted = false) ∧ (s.pstate p = PState.faulted.num) ∧ ((s.part p).faultAt = some f) ∧ (f + 10000 ≤ s.tick) ∧ (s.get (PRT_PCTLp_AUTORST p) = 1) ∧ ((s.part p).rst = none) ∧ (((s.part p).autoTicks.filter fun u => decide (s.tick < u + 3600000000)).length < 3)) ∧
    (∃ s : State, ∃ p : Fin 32, ∃ f : Nat, (s.svHalted = false) ∧ (s.pstate p = PState.faulted.num) ∧ ((s.part p).faultAt = some f) ∧ (f + 10000 ≤ s.tick) ∧ (s.get (PRT_PCTLp_AUTORST p) = 1) ∧ (3 ≤ ((s.part p).autoTicks.filter fun u => decide (s.tick < u + 3600000000)).length)) :=
  ⟨⟨{ st [] with parts := [(1, { erase := true })] }, 1, by decide +kernel⟩,
   ⟨{ st [((PRT_PCTLp_AUTORST 0), 1), (PRT_PSTATp_STATE 0, 3)] with parts := [(0, { faultAt := some 0 })], tbs := { (st []).tbs with now := 640000 } }, 0, 0, by decide +kernel⟩,
   ⟨{ st [((PRT_PCTLp_AUTORST 0), 1), (PRT_PSTATp_STATE 0, 3)] with parts := [(0, { faultAt := some 0, autoTicks := [1, 2, 3] })], tbs := { (st []).tbs with now := 640000 } }, 0, 0, by decide +kernel⟩⟩

theorem test_meets_EventsSharesAndPacketMemory :
    (∃ s : State, ∃ p : Fin 32, ∃ w : Word, (s.get SAD_AIRTOT_TOT < s.sadSum SAD_AFLRp_FLOOR s.live p (s.asked w.toNat (SAD_AFLRp_FLOOR p)))) ∧
    (∃ s : State, ∃ p : Fin 32, ∃ w : Word, (s.sadSum SAD_AFLRp_FLOOR s.live p (s.asked w.toNat (SAD_AFLRp_FLOOR p)) ≤ s.get SAD_AIRTOT_TOT)) ∧
    (∃ s : State, ∃ p : Fin 32, ∃ w : Word, (s.engPlan s.engIn p (s.asked w.toNat (SAD_ENGp_WSLICE p)) (s.asked w.toNat (SAD_ENGp_FLOOR p)) = none)) ∧
    (∃ s : State, ∃ p : Fin 32, ∃ w : Word, (100 < s.sadSum SAD_SECp_FLOOR s.live p (s.asked w.toNat (SAD_SECp_FLOOR p)))) ∧
    (∃ s : State, ∃ p : Fin 32, ∃ w : Word, (100 < s.sadSum SAD_HIFp_FLOOR (s.live.filter fun q => s.portOf q = s.portOf p) p (s.asked w.toNat (SAD_HIFp_FLOOR p)))) ∧
    (∃ s : State, (s.tbs.refill < 1000)) ∧
    (∃ s : State, (1000 ≤ s.tbs.refill)) ∧
    (∃ s : State, ∃ p : Fin 32, ∃ w : Word, (bit w.toNat 31 = false) ∧ ((s.part p).gran.length + bits w.toNat 0 8 ≤ s.pktCap p) ∧ (bits w.toNat 0 8 ≤ s.poolFree)) ∧
    (∃ s : State, ∃ p : Fin 32, ∃ w : Word, (bit w.toNat 31 = false) ∧ (s.pktCap p < (s.part p).gran.length + bits w.toNat 0 8 ∨ s.poolFree < bits w.toNat 0 8)) ∧
    (∃ w : Word, (bit w.toNat 31 = true)) ∧
    (∃ s : State, ∃ p : Fin 32, ∃ w : Word, (s.asked w.toNat (PRT_RXRING_SIZE.at p) ≠ 0) ∧ (4096 * (s.part p).gran.length < 128 * (bits w.toNat 0 12 + s.asked w.toNat (PRT_RXRING_SIZE.at p)))) ∧
    (∃ s : State, ∃ p : Fin 32, ∃ w : Word, (128 * (bits w.toNat 0 12 + s.asked w.toNat (PRT_RXRING_SIZE.at p)) ≤ 4096 * (s.part p).gran.length)) :=
  ⟨⟨st [(SAD_AIRTOT_TOT, 0), (PRT_PSTATp_STATE 0, 2)], 0, 0xFFFFFFFF, by decide +kernel⟩,
   ⟨st [], 0, 0, by decide +kernel⟩,
   ⟨st [(PRT_PSTATp_STATE 1, 2), (PRT_PSTATp_STATE 2, 2), (PRT_PSTATp_STATE 3, 2), (PRT_PSTATp_STATE 4, 2), (PRT_PSTATp_STATE 5, 2), (SAD_ENGp_FLOOR 1, 100), (SAD_ENGp_FLOOR 2, 100), (SAD_ENGp_FLOOR 3, 100), (SAD_ENGp_FLOOR 4, 100)], 5, 0x01000064, by decide +kernel⟩,
   ⟨st [(PRT_PSTATp_STATE 1, 2), (SAD_SECp_FLOOR 0, 1)], 1, 0x01000064, by decide +kernel⟩,
   ⟨st [(PRT_PSTATp_STATE 1, 2), (SAD_HIFp_FLOOR 0, 1)], 1, 0x01000064, by decide +kernel⟩,
   ⟨st [], by decide +kernel⟩,
   ⟨{ st [] with tbs := { (st []).tbs with refill := 1000 } }, by decide +kernel⟩,
   ⟨st [], 0, 0, by decide +kernel⟩,
   ⟨st [], 0, 0xFF, by decide +kernel⟩,
   ⟨0x80000000, by decide +kernel⟩,
   ⟨st [], 0, 0x00020000, by decide +kernel⟩,
   ⟨st [], 0, 0, by decide +kernel⟩⟩

theorem test_meets_RegisterArithmeticAndFlags :
    (∃ s : State, ∃ c : Ctx, (Ready s c)) ∧
    (∃ s : State, ∃ c : Ctx, (Ready s c)) ∧
    (∃ s : State, ∃ c : Ctx, (Ready s c)) ∧
    (∃ s : State, ∃ c : Ctx, (Ready s c)) ∧
    (∃ s : State, ∃ c : Ctx, (Ready s c)) ∧
    (∃ s : State, ∃ c : Ctx, (Ready s c)) ∧
    (∃ s : State, ∃ c : Ctx, (Ready s c)) :=
  ⟨⟨stSv [], .sv, by unfold Ready; decide +kernel⟩,
   ⟨stSv [], .sv, by unfold Ready; decide +kernel⟩,
   ⟨stSv [], .sv, by unfold Ready; decide +kernel⟩,
   ⟨stSv [], .sv, by unfold Ready; decide +kernel⟩,
   ⟨stSv [], .sv, by unfold Ready; decide +kernel⟩,
   ⟨stSv [], .sv, by unfold Ready; decide +kernel⟩,
   ⟨stSv [], .sv, by unfold Ready; decide +kernel⟩⟩

theorem test_meets_ShiftsKeepTheLastBitOut :
    (∃ s : State, ∃ c : Ctx, (Ready s c)) ∧
    (∃ s : State, ∃ c : Ctx, (Ready s c)) ∧
    (∃ s : State, ∃ c : Ctx, (Ready s c)) ∧
    (∃ s : State, ∃ c : Ctx, (Ready s c) ∧ (c ≠ .ce)) ∧
    (∃ s : State, ∃ c : Ctx, ∃ i : BitVec 18, (Ready s c) ∧ (i.toNat < 32)) ∧
    (∃ s : State, ∃ c : Ctx, ∃ i : BitVec 18, (Ready s c) ∧ (i.toNat < 32)) ∧
    (∃ s : State, ∃ c : Ctx, ∃ i : BitVec 18, (Ready s c) ∧ (i.toNat < 32)) ∧
    (∃ s : State, ∃ c : Ctx, ∃ i : BitVec 18, (Ready s c) ∧ (i.toNat < 32) ∧ (c ≠ .ce)) :=
  ⟨⟨stSv [], .sv, by unfold Ready; decide +kernel⟩,
   ⟨stSv [], .sv, by unfold Ready; decide +kernel⟩,
   ⟨stSv [], .sv, by unfold Ready; decide +kernel⟩,
   ⟨stSv [], .sv, by unfold Ready; decide +kernel⟩,
   ⟨stSv [], .sv, 0, by unfold Ready; decide +kernel⟩,
   ⟨stSv [], .sv, 0, by unfold Ready; decide +kernel⟩,
   ⟨stSv [], .sv, 0, by unfold Ready; decide +kernel⟩,
   ⟨stSv [], .sv, 0, by unfold Ready; decide +kernel⟩⟩

theorem test_meets_ProductsQuotientsAndBitCounts :
    (∃ s : State, ∃ c : Ctx, (Ready s c) ∧ (c ≠ .ce)) ∧
    (∃ s : State, ∃ c : Ctx, (Ready s c) ∧ (ctxFull c = true)) ∧
    (∃ s : State, ∃ c : Ctx, (Ready s c) ∧ (ctxFull c = true)) ∧
    (∃ s : State, ∃ c : Ctx, (Ready s c) ∧ (ctxFull c = true)) ∧
    (∃ s : State, ∃ c : Ctx, (Ready s c)) ∧
    (∃ s : State, ∃ c : Ctx, (Ready s c) ∧ (c ≠ .ce)) ∧
    (∃ s : State, ∃ c : Ctx, (Ready s c) ∧ (c ≠ .ce)) ∧
    (∃ s : State, ∃ c : Ctx, (Ready s c) ∧ (c ≠ .ce)) :=
  ⟨⟨stSv [], .sv, by unfold Ready; decide +kernel⟩,
   ⟨stSv [], .sv, by unfold Ready; decide +kernel⟩,
   ⟨stSv [], .sv, by unfold Ready; decide +kernel⟩,
   ⟨stSv [], .sv, by unfold Ready; decide +kernel⟩,
   ⟨stSv [], .sv, by unfold Ready; decide +kernel⟩,
   ⟨stSv [], .sv, by unfold Ready; decide +kernel⟩,
   ⟨stSv [], .sv, by unfold Ready; decide +kernel⟩,
   ⟨stSv [], .sv, by unfold Ready; decide +kernel⟩⟩

theorem test_meets_ImmediatesAndBitFields :
    (∃ s : State, ∃ c : Ctx, (Ready s c)) ∧
    (∃ s : State, ∃ c : Ctx, (Ready s c)) ∧
    (∃ s : State, ∃ c : Ctx, (Ready s c)) ∧
    (∃ s : State, ∃ c : Ctx, (Ready s c)) ∧
    (∃ s : State, ∃ c : Ctx, (Ready s c)) ∧
    (∃ s : State, ∃ c : Ctx, (Ready s c)) ∧
    (∃ s : State, ∃ c : Ctx, (Ready s c)) ∧
    (∃ s : State, ∃ c : Ctx, (Ready s c)) ∧
    (∃ s : State, ∃ c : Ctx, ∃ i : BitVec 18, (Ready s c) ∧ (i.toNat < 65536)) ∧
    (∃ s : State, ∃ c : Ctx, ∃ i : BitVec 18, (Ready s c) ∧ (i.toNat < 2048) ∧ (fldPos i + fldW i ≤ 32)) ∧
    (∃ s : State, ∃ c : Ctx, ∃ i : BitVec 18, (Ready s c) ∧ (i.toNat < 1024) ∧ (fldPos i + fldW i ≤ 32)) :=
  ⟨⟨stSv [], .sv, by unfold Ready; decide +kernel⟩,
   ⟨stSv [], .sv, by unfold Ready; decide +kernel⟩,
   ⟨stSv [], .sv, by unfold Ready; decide +kernel⟩,
   ⟨stSv [], .sv, by unfold Ready; decide +kernel⟩,
   ⟨stSv [], .sv, by unfold Ready; decide +kernel⟩,
   ⟨stSv [], .sv, by unfold Ready; decide +kernel⟩,
   ⟨stSv [], .sv, by unfold Ready; decide +kernel⟩,
   ⟨stSv [], .sv, by unfold Ready; decide +kernel⟩,
   ⟨stSv [], .sv, 0, by unfold Ready; decide +kernel⟩,
   ⟨stSv [], .sv, 0, by unfold Ready; decide +kernel⟩,
   ⟨stSv [], .sv, 0, by unfold Ready; decide +kernel⟩⟩

theorem test_meets_BranchesFollowTheirConditions_1 :
    (∃ s : State, ∃ c : Ctx, ∃ k : Fin 16, (Ready s c) ∧ ((s.prog (ctxNum c)).cond k = true)) ∧
    (∃ s : State, ∃ c : Ctx, ∃ k : Fin 16, (Ready s c) ∧ ((s.prog (ctxNum c)).cond k = false)) ∧
    (∃ s : State, ∃ c : Ctx, (Ready s c)) ∧
    (∃ s : State, ∃ c : Ctx, (Ready s c)) ∧
    (∃ s : State, ∃ c : Ctx, (Ready s c)) ∧
    (∃ s : State, ∃ c : Ctx, (Ready s c)) ∧
    (∃ s : State, ∃ c : Ctx, (Ready s c)) ∧
    (∃ s : State, ∃ c : Ctx, (Ready s c)) ∧
    (∃ s : State, ∃ c : Ctx, (Ready s c)) ∧
    (∃ s : State, ∃ c : Ctx, (Ready s c)) ∧
    (∃ s : State, ∃ c : Ctx, (Ready s c)) ∧
    (∃ s : State, ∃ c : Ctx, (Ready s c)) ∧
    (∃ s : State, ∃ c : Ctx, (Ready s c)) ∧
    (∃ s : State, ∃ c : Ctx, (Ready s c)) :=
  ⟨⟨stSv [], .sv, 14, by unfold Ready; decide +kernel⟩,
   ⟨stSv [], .sv, 0, by unfold Ready; decide +kernel⟩,
   ⟨stSv [], .sv, by unfold Ready; decide +kernel⟩,
   ⟨stSv [], .sv, by unfold Ready; decide +kernel⟩,
   ⟨stSv [], .sv, by unfold Ready; decide +kernel⟩,
   ⟨stSv [], .sv, by unfold Ready; decide +kernel⟩,
   ⟨stSv [], .sv, by unfold Ready; decide +kernel⟩,
   ⟨stSv [], .sv, by unfold Ready; decide +kernel⟩,
   ⟨stSv [], .sv, by unfold Ready; decide +kernel⟩,
   ⟨stSv [], .sv, by unfold Ready; decide +kernel⟩,
   ⟨stSv [], .sv, by unfold Ready; decide +kernel⟩,
   ⟨stSv [], .sv, by unfold Ready; decide +kernel⟩,
   ⟨stSv [], .sv, by unfold Ready; decide +kernel⟩,
   ⟨stSv [], .sv, by unfold Ready; decide +kernel⟩⟩

theorem test_meets_BranchesFollowTheirConditions_2 :
    (∃ s : State, ∃ c : Ctx, (Ready s c)) ∧
    (∃ s : State, ∃ c : Ctx, (Ready s c)) ∧
    (∃ s : State, ∃ c : Ctx, (Ready s c)) ∧
    (∃ s : State, ∃ c : Ctx, (Ready s c)) ∧
    (∃ s : State, ∃ c : Ctx, (Ready s c)) ∧
    (∃ s : State, ∃ c : Ctx, (Ready s c)) ∧
    (∃ s : State, ∃ c : Ctx, (Ready s c)) ∧
    (∃ s : State, ∃ c : Ctx, ∃ a : Fin 16, (Ready s c) ∧ (((s.prog (ctxNum c)).reg a).toNat % 4 = 0)) ∧
    (∃ s : State, ∃ c : Ctx, ∃ a : Fin 16, (Ready s c) ∧ (((s.prog (ctxNum c)).reg a).toNat % 4 = 0)) ∧
    (∃ s : State, ∃ c : Ctx, (Ready s c) ∧ (((s.prog (ctxNum c)).reg 15).toNat % 4 = 0)) ∧
    (∃ s : State, ∃ c : Ctx, ∃ a : Fin 16, (Ready s c) ∧ (((s.prog (ctxNum c)).reg a).toNat % 4 ≠ 0)) ∧
    (∃ s : State, ∃ c : Ctx, ∃ a : Fin 16, (Ready s c) ∧ (((s.prog (ctxNum c)).reg a).toNat % 4 ≠ 0)) :=
  ⟨⟨stSv [], .sv, by unfold Ready; decide +kernel⟩,
   ⟨stSv [], .sv, by unfold Ready; decide +kernel⟩,
   ⟨stSv [], .sv, by unfold Ready; decide +kernel⟩,
   ⟨stSv [], .sv, by unfold Ready; decide +kernel⟩,
   ⟨stSv [], .sv, by unfold Ready; decide +kernel⟩,
   ⟨stSv [], .sv, by unfold Ready; decide +kernel⟩,
   ⟨stSv [], .sv, by unfold Ready; decide +kernel⟩,
   ⟨stSv [], .sv, 0, by unfold Ready; decide +kernel⟩,
   ⟨stSv [], .sv, 0, by unfold Ready; decide +kernel⟩,
   ⟨stSv [], .sv, by unfold Ready; decide +kernel⟩,
   ⟨{ stSv [] with progs := [(32, { run := .ready, g := [(0, 2)] })] }, .sv, 0, by unfold Ready; decide +kernel⟩,
   ⟨{ stSv [] with progs := [(32, { run := .ready, g := [(0, 2)] })] }, .sv, 0, by unfold Ready; decide +kernel⟩⟩

theorem test_meets_LoadsAndStoresReachTheirPlace :
    (∃ s : State, ∃ c : Ctx, ∃ a : Fin 16, ∃ i : BitVec 18, ∃ m, (Ready s c) ∧ (s.dbg.wat = []) ∧ (s.place c .load ((s.prog (ctxNum c)).ea a i) 1 = .inr (.mem m)) ∧ (memOpen m = false) ∧ (memDark m = false)) ∧
    (∃ s : State, ∃ c : Ctx, ∃ a : Fin 16, ∃ i : BitVec 18, ∃ m, (Ready s c) ∧ (s.dbg.wat = []) ∧ (s.place c .load ((s.prog (ctxNum c)).ea a i) 2 = .inr (.mem m)) ∧ (memOpen m = false) ∧ (memDark m = false)) ∧
    (∃ s : State, ∃ c : Ctx, ∃ a : Fin 16, ∃ i : BitVec 18, ∃ m, (Ready s c) ∧ (s.dbg.wat = []) ∧ (s.place c .load ((s.prog (ctxNum c)).ea a i) 4 = .inr (.mem m)) ∧ (memOpen m = false) ∧ (memDark m = false)) ∧
    (∃ s : State, ∃ c : Ctx, ∃ a : Fin 16, ∃ i : BitVec 18, ∃ m, (Ready s c) ∧ (s.dbg.wat = []) ∧ (s.place c .store ((s.prog (ctxNum c)).ea a i) 1 = .inr (.mem m)) ∧ (memDark m = false) ∧ (∀ p b, c = .part p b → s.locked p ((s.prog (ctxNum c)).ea a i) 1 = false)) ∧
    (∃ s : State, ∃ c : Ctx, ∃ a : Fin 16, ∃ i : BitVec 18, ∃ m, (Ready s c) ∧ (s.dbg.wat = []) ∧ (s.place c .store ((s.prog (ctxNum c)).ea a i) 2 = .inr (.mem m)) ∧ (memDark m = false) ∧ (∀ p b, c = .part p b → s.locked p ((s.prog (ctxNum c)).ea a i) 2 = false)) ∧
    (∃ s : State, ∃ c : Ctx, ∃ a : Fin 16, ∃ i : BitVec 18, ∃ m, (Ready s c) ∧ (s.dbg.wat = []) ∧ (s.place c .store ((s.prog (ctxNum c)).ea a i) 4 = .inr (.mem m)) ∧ (memDark m = false) ∧ (∀ p b, c = .part p b → s.locked p ((s.prog (ctxNum c)).ea a i) 4 = false)) ∧
    (∃ s : State, ∃ c : Ctx, ∃ a : Fin 16, ∃ i : BitVec 18, ∃ e : FCause, (Ready s c) ∧ (s.dbg.wat = []) ∧ (s.place c .load ((s.prog (ctxNum c)).ea a i) 4 = .inl e)) ∧
    (∃ s : State, ∃ c : Ctx, ∃ a : Fin 16, ∃ i : BitVec 18, ∃ e : FCause, (Ready s c) ∧ (s.dbg.wat = []) ∧ (s.place c .store ((s.prog (ctxNum c)).ea a i) 4 = .inl e)) ∧
    (∃ s : State, ∃ c : Ctx, ∃ a : Fin 16, ∃ i : BitVec 18, ∃ p : Fin 32, (Ready s c) ∧ (s.dbg.wat = []) ∧ (c = .part p false) ∧ (0x10000000 ≤ (s.prog (ctxNum c)).ea a i) ∧ ((s.prog (ctxNum c)).ea a i < 0x1003C000) ∧ ((s.prog (ctxNum c)).ea a i % 4 ≠ 0) ∧ ((s.part p).rst = none) ∧ ((s.part p).dual = none)) ∧
    (∃ s : State, ∃ c : Ctx, ∃ p : Fin 32, ∃ x : Nat, ∃ n : Nat, (Ready s c) ∧ (s.dbg.wat = []) ∧ (0x10000000 ≤ x) ∧ (x + n ≤ 0x10000000 + 4096 * (s.part p).desc.dataG) ∧ (x + n ≤ 0x1003C000) ∧ (n ≠ 0) ∧ (x % n = 0)) :=
  ⟨⟨{ stSv [] with dbg := { (st []).dbg with wat := [] } }, .sv, 0, 0, 0, by unfold Ready; decide +kernel⟩,
   ⟨{ stSv [] with dbg := { (st []).dbg with wat := [] } }, .sv, 0, 0, 0, by unfold Ready; decide +kernel⟩,
   ⟨{ stSv [] with dbg := { (st []).dbg with wat := [] } }, .sv, 0, 0, 0, by unfold Ready; decide +kernel⟩,
   ⟨{ stSv [] with progs := [(32, { run := .ready, g := [(0, 0x10000000)] })] }, .sv, 0, 0, 0x10000000, by unfold Ready; decide +kernel⟩,
   ⟨{ stSv [] with progs := [(32, { run := .ready, g := [(0, 0x10000000)] })] }, .sv, 0, 0, 0x10000000, by unfold Ready; decide +kernel⟩,
   ⟨{ stSv [] with progs := [(32, { run := .ready, g := [(0, 0x10000000)] })] }, .sv, 0, 0, 0x10000000, by unfold Ready; decide +kernel⟩,
   ⟨{ stSv [] with progs := [(32, { run := .ready, g := [(0, 0x10000002)] })] }, .sv, 0, 0, .align, by unfold Ready; decide +kernel⟩,
   ⟨stSv [], .sv, 0, 0, .access, by unfold Ready; decide +kernel⟩,
   ⟨{ stP0 [] with progs := [(0, { run := .ready, g := [(0, 0x10000000)] })] }, .part 0 false, 0, 1, 0, by unfold Ready; decide +kernel⟩,
   ⟨{ stP0 [] with progs := [(32, { run := .ready })] }, .sv, 0, 0x10000FFC, 4, by unfold Ready; decide +kernel⟩⟩

theorem test_meets_WaitsSignalsAndSpecialRegisters_1 :
    (∃ s : State, ∃ c : Ctx, (Ready s c)) ∧
    (∃ s : State, ∃ c : Ctx, (Ready s c) ∧ (s.evs c ≠ 0)) ∧
    (∃ s : State, ∃ c : Ctx, (Ready s c) ∧ (s.evs c = 0)) ∧
    (∃ s : State, ∃ c : Ctx, ∃ a : Fin 16, (Ready s c) ∧ (waitAhead s.tbs.now ((s.prog (ctxNum c)).reg a) ≤ 0)) ∧
    (∃ s : State, ∃ c : Ctx, ∃ a : Fin 16, (Ready s c) ∧ (0 < waitAhead s.tbs.now ((s.prog (ctxNum c)).reg a))) ∧
    (∃ s : State, ∃ c : Ctx, ∃ n : BitVec 12, (Ready s c) ∧ (n ≠ 0)) ∧
    (∃ s : State, ∃ c : Ctx, ∃ p : Fin 32, ∃ b : Bool, (Ready s c) ∧ (c = .part p b) ∧ (s.evs c ≠ 0)) ∧
    (∃ s : State, ∃ c : Ctx, ∃ p : Fin 32, ∃ b : Bool, (Ready s c) ∧ (c = .part p b) ∧ (s.evs c = 0)) ∧
    (∃ s : State, ∃ c : Ctx, ∃ n : BitVec 12, (Ready s c) ∧ (c = .sv) ∧ (n.toNat < 64)) ∧
    (∃ s : State, ∃ c : Ctx, ∃ n : BitVec 12, (Ready s c) ∧ (c = .rsa) ∧ (n.toNat < 8)) ∧
    (∃ s : State, ∃ c : Ctx, ∃ n : BitVec 12, (Ready s c) ∧ (c = .ce) ∧ (2 ≤ n.toNat) ∧ (n.toNat < 16)) ∧
    (∃ s : State, ∃ c : Ctx, ∃ p : Fin 32, ∃ b : Bool, ∃ n : BitVec 12, (Ready s c) ∧ (c = .part p b) ∧ (n ≠ 2)) ∧
    (∃ s : State, ∃ c : Ctx, (Ready s c) ∧ (s.dbg.scope = none)) ∧
    (∃ s : State, ∃ c : Ctx, (Ready s c)) :=
  ⟨⟨stSv [], .sv, by unfold Ready; decide +kernel⟩,
   ⟨{ stSv [] with progs := [(32, { run := .ready, evp := 2 ^ 31, evm := 2 ^ 31 })] }, .sv, by unfold Ready; decide +kernel⟩,
   ⟨stSv [], .sv, by unfold Ready; decide +kernel⟩,
   ⟨stSv [], .sv, 0, by unfold Ready; decide +kernel⟩,
   ⟨{ stSv [] with progs := [(32, { run := .ready, g := [(0, 1)] })] }, .sv, 0, by unfold Ready; decide +kernel⟩,
   ⟨stSv [], .sv, 1, by unfold Ready; decide +kernel⟩,
   ⟨stP0 [(PEC_PEND_PEND.at 0, 1), (PEC_EEN_EEN.at 0, 1)], .part 0 false, 0, false, by unfold Ready; decide +kernel⟩,
   ⟨stP0 [], .part 0 false, 0, false, by unfold Ready; decide +kernel⟩,
   ⟨stSv [], .sv, 63, by unfold Ready; decide +kernel⟩,
   ⟨{ stSv [(ENG_SEQCTLx_EN 0, 1)] with progs := [(33, { run := .ready })] }, .rsa, 7, by unfold Ready; decide +kernel⟩,
   ⟨{ stSv [] with progs := [(35, { run := .ready })], pwr := { (st []).pwr with sleep := some .col } }, .ce, 15, by unfold Ready; decide +kernel⟩,
   ⟨stP0 [], .part 0 false, 0, false, 3, by unfold Ready; decide +kernel⟩,
   ⟨{ stSv [] with dbg := { (st []).dbg with scope := none } }, .sv, by unfold Ready; decide +kernel⟩,
   ⟨stSv [], .sv, by unfold Ready; decide +kernel⟩⟩

theorem test_meets_WaitsSignalsAndSpecialRegisters_2 :
    (∃ s : State, ∃ c : Ctx, (Ready s c)) ∧
    (∃ s : State, ∃ c : Ctx, (Ready s c)) ∧
    (∃ s : State, ∃ c : Ctx, (Ready s c)) ∧
    (∃ s : State, ∃ c : Ctx, (Ready s c) ∧ (c = .sv)) ∧
    (∃ s : State, ∃ c : Ctx, ∃ p : Fin 32, ∃ b : Bool, (Ready s c) ∧ (c = .part p b) ∧ ((s.part p).dual = none)) :=
  ⟨⟨stSv [], .sv, by unfold Ready; decide +kernel⟩,
   ⟨stSv [], .sv, by unfold Ready; decide +kernel⟩,
   ⟨stSv [], .sv, by unfold Ready; decide +kernel⟩,
   ⟨stSv [], .sv, by unfold Ready; decide +kernel⟩,
   ⟨stP0 [], .part 0 false, 0, false, by unfold Ready; decide +kernel⟩⟩

theorem test_meets_SubmissionsTakeATicketOrAreRefused :
    (∃ s : State, ∃ p : Fin 32, ∃ b : Bool, ∃ d : Fin 16, ∃ a : Fin 16, ∃ i : Instr, ∃ n : Nat, let k := ctxNum (.part p b); let addr := ((s.prog k).reg a).toNat; let req := ofOctets (s.winOcts p addr 4) % 65536; let buf := ofOctets (s.winOcts p addr 4) / 65536; let o := s.winOcts p (addr + 4) req; (Ready s (.part p b)) ∧ ((i, n) ∈ [(Instr.submitTransmit (.part p b) d a, 0), (.submitTxCancel (.part p b) d a, 1), (.submitAssocAdd (.part p b) d a, 2), (.submitAssocDrop (.part p b) d a, 3), (.submitAssocInfo (.part p b) d a, 4), (.submitKeyLoad (.part p b) d a, 5), (.submitKeyRotate (.part p b) d a, 6), (.submitCipherOp (.part p b) d a, 7), (.submitCrcOp (.part p b) d a, 8), (.submitDirectDecode (.part p b) d a, 9)])) ∧
    (∃ s : State, ∃ p : Fin 32, ∃ b : Bool, ∃ d : Fin 16, ∃ a : Fin 16, ∃ i : Instr, ∃ n : Nat, let k := ctxNum (.part p b); let addr := ((s.prog k).reg a).toNat; let req := ofOctets (s.winOcts p addr 4) % 65536; let buf := ofOctets (s.winOcts p addr 4) / 65536; let o := s.winOcts p (addr + 4) req; (Ready s (.part p b)) ∧ ((i, n) ∈ [(Instr.submitTransmit (.part p b) d a, 0), (.submitTxCancel (.part p b) d a, 1), (.submitAssocAdd (.part p b) d a, 2), (.submitAssocDrop (.part p b) d a, 3), (.submitAssocInfo (.part p b) d a, 4), (.submitKeyLoad (.part p b) d a, 5), (.submitKeyRotate (.part p b) d a, 6), (.submitCipherOp (.part p b) d a, 7), (.submitCrcOp (.part p b) d a, 8), (.submitDirectDecode (.part p b) d a, 9)]) ∧ (addr % 4 = 0) ∧ (s.inWin p addr (max buf 4) = true) ∧ (buf < req ∨ buf < 4 + svcReport n o)) ∧
    (∃ s : State, ∃ p : Fin 32, ∃ b : Bool, ∃ d : Fin 16, ∃ a : Fin 16, ∃ i : Instr, ∃ n : Nat, let k := ctxNum (.part p b); let addr := ((s.prog k).reg a).toNat; let req := ofOctets (s.winOcts p addr 4) % 65536; let buf := ofOctets (s.winOcts p addr 4) / 65536; let o := s.winOcts p (addr + 4) req; (Ready s (.part p b)) ∧ ((i, n) ∈ [(Instr.submitTransmit (.part p b) d a, 0), (.submitTxCancel (.part p b) d a, 1), (.submitAssocAdd (.part p b) d a, 2), (.submitAssocDrop (.part p b) d a, 3), (.submitAssocInfo (.part p b) d a, 4), (.submitKeyLoad (.part p b) d a, 5), (.submitKeyRotate (.part p b) d a, 6), (.submitCipherOp (.part p b) d a, 7), (.submitCrcOp (.part p b) d a, 8), (.submitDirectDecode (.part p b) d a, 9)]) ∧ (n ≠ 0) ∧ (addr % 4 = 0) ∧ (s.inWin p addr (max buf 4) = true) ∧ (req ≤ buf) ∧ (4 + svcReport n o ≤ buf) ∧ (32 ≤ s.ticketsOut p false)) ∧
    (∃ s : State, ∃ p : Fin 32, ∃ b : Bool, ∃ d : Fin 16, ∃ a : Fin 16, ∃ i : Instr, ∃ n : Nat, let k := ctxNum (.part p b); let addr := ((s.prog k).reg a).toNat; let req := ofOctets (s.winOcts p addr 4) % 65536; let buf := ofOctets (s.winOcts p addr 4) / 65536; let o := s.winOcts p (addr + 4) req; (Ready s (.part p b)) ∧ ((i, n) ∈ [(Instr.submitTransmit (.part p b) d a, 0), (.submitTxCancel (.part p b) d a, 1), (.submitAssocAdd (.part p b) d a, 2), (.submitAssocDrop (.part p b) d a, 3), (.submitAssocInfo (.part p b) d a, 4), (.submitKeyLoad (.part p b) d a, 5), (.submitKeyRotate (.part p b) d a, 6), (.submitCipherOp (.part p b) d a, 7), (.submitCrcOp (.part p b) d a, 8), (.submitDirectDecode (.part p b) d a, 9)]) ∧ (n ≠ 0) ∧ (addr % 4 = 0) ∧ (s.inWin p addr (max buf 4) = true) ∧ (req ≤ buf) ∧ (4 + svcReport n o ≤ buf) ∧ (s.ticketsOut p false < 32)) ∧
    (∃ s : State, ∃ p : Fin 32, ∃ b : Bool, ∃ d : Fin 16, ∃ a : Fin 16, ∃ i : Instr, ∃ n : Nat, ∃ x : Tx, let k := ctxNum (.part p b); let addr := ((s.prog k).reg a).toNat; let req := ofOctets (s.winOcts p addr 4) % 65536; let buf := ofOctets (s.winOcts p addr 4) / 65536; let o := s.winOcts p (addr + 4) req; (Ready s (.part p b)) ∧ ((i, n) ∈ [(Instr.submitTransmit (.part p b) d a, 0), (.submitTxCancel (.part p b) d a, 1), (.submitAssocAdd (.part p b) d a, 2), (.submitAssocDrop (.part p b) d a, 3), (.submitAssocInfo (.part p b) d a, 4), (.submitKeyLoad (.part p b) d a, 5), (.submitKeyRotate (.part p b) d a, 6), (.submitCipherOp (.part p b) d a, 7), (.submitCrcOp (.part p b) d a, 8), (.submitDirectDecode (.part p b) d a, 9)]) ∧ (n = 0) ∧ (addr % 4 = 0) ∧ (s.inWin p addr (max buf 4) = true) ∧ (req ≤ buf) ∧ (28 ≤ buf) ∧ (s.ticketsOut p true < (s.part p).desc.txQ) ∧ (s.subJudge p b false o = .inr x)) :=
  ⟨⟨stP0 [], 0, false, 1, 0, .submitTransmit (.part 0 false) 1 0, 0, by unfold Ready; decide +kernel⟩,
   ⟨stReq 24 23 [] [], 0, false, 1, 0, .submitTransmit (.part 0 false) 1 0, 0, by unfold Ready; decide +kernel⟩,
   ⟨let u := stReq 0 8 [] []; { u with parts := u.parts.map fun e => (e.1, { e.2 with tickets := (List.range 32).map fun j => { num := j + 1, service := 1 } }) }, 0, false, 1, 0, .submitDirectDecode (.part 0 false) 1 0, 9, by unfold Ready; decide +kernel⟩,
   ⟨let u := stReq 0 8 [] []; { u with parts := u.parts.map fun e => (e.1, { e.2 with tickets := (List.range 31).map fun j => { num := j + 1, service := 1 } }) }, 0, false, 1, 0, .submitDirectDecode (.part 0 false) 1 0, 9, by unfold Ready; decide +kernel⟩,
   ⟨stReq 24 28 [0, 2, 0, 0, 0, 0, 0, 0, 0, 0, 0, 0, 0, 0, 0, 0, 0, 0, 16, 0, 0, 0, 0, 0] [(TXM_PROFnC_PARTMASK 0, 1), (TXM_PROFnA_RATE 0, 3000), (AIR_TXSYNCn_SYNC 0, 0x12345678)], 0, false, 1, 0, .submitTransmit (.part 0 false) 1 0, 0, ((stReq 24 28 [0, 2, 0, 0, 0, 0, 0, 0, 0, 0, 0, 0, 0, 0, 0, 0, 0, 0, 16, 0, 0, 0, 0, 0] [(TXM_PROFnC_PARTMASK 0, 1), (TXM_PROFnA_RATE 0, 3000), (AIR_TXSYNCn_SYNC 0, 0x12345678)]).subJudge 0 false false ((stReq 24 28 [0, 2, 0, 0, 0, 0, 0, 0, 0, 0, 0, 0, 0, 0, 0, 0, 0, 0, 16, 0, 0, 0, 0, 0] [(TXM_PROFnC_PARTMASK 0, 1), (TXM_PROFnA_RATE 0, 3000), (AIR_TXSYNCn_SYNC 0, 0x12345678)]).winOcts 0 0x10000004 24)).elim (fun _ => { id := 0 }) id, by unfold Ready; decide +kernel⟩⟩

theorem test_meets_TicketsAndMessagesOfAProgram :
    (∃ s : State, ∃ p : Fin 32, ∃ b : Bool, ∃ a : Fin 16, (Ready s (.part p b)) ∧ (s.collectTake p b ((s.prog (ctxNum (.part p b))).reg a).toNat = none)) ∧
    (∃ s : State, ∃ p : Fin 32, ∃ b : Bool, ∃ a : Fin 16, (Ready s (.part p b)) ∧ (s.collectTake p b ((s.prog (ctxNum (.part p b))).reg a).toNat = none)) ∧
    (∃ s : State, ∃ p : Fin 32, ∃ b : Bool, ∃ a : Fin 16, ∃ tk : Ticket, ∃ st : Nat, (Ready s (.part p b)) ∧ (((s.prog (ctxNum (.part p b))).reg a).toNat = tk.num) ∧ (tk.num ≠ 0) ∧ (((s.part p).tickets.filter fun t => t.imgB = b).find? (fun t => t.num = tk.num) = some tk) ∧ (tk.status = some st)) ∧
    (∃ s : State, ∃ p : Fin 32, ∃ b : Bool, ∃ fn : BitVec 3, (Ready s (.part p b)) ∧ (fn.toNat < 3)) ∧
    (∃ s : State, ∃ p : Fin 32, ∃ b : Bool, (Ready s (.part p b)) ∧ ((s.prog (ctxNum (.part p b))).out.length + 4 ≤ 2048) ∧ ((s.mb p).wait = []) ∧ ((s.mb p).room ((s.prog (ctxNum (.part p b))).out.length + 4) = true)) ∧
    (∃ s : State, ∃ p : Fin 32, ∃ b : Bool, (Ready s (.part p b)) ∧ (4 ≤ (s.prog (ctxNum (.part p b))).out.length) ∧ ((s.prog (ctxNum (.part p b))).out.length + 4 ≤ 2048) ∧ ((s.mb p).wait = []) ∧ ((s.mb p).room ((s.prog (ctxNum (.part p b))).out.length + 4) = true)) ∧
    (∃ s : State, ∃ p : Fin 32, ∃ b : Bool, (Ready s (.part p b)) ∧ ((s.part p).dual = none) ∧ ((s.mb p).tq = [])) ∧
    (∃ s : State, ∃ p : Fin 32, ∃ b : Bool, ∃ m : Msg, ∃ l : List Msg, (Ready s (.part p b)) ∧ ((s.part p).dual = none) ∧ ((s.mb p).tq = m :: l) ∧ ((s.mb p).taken + 4 < m.size)) ∧
    (∃ s : State, ∃ p : Fin 32, ∃ b : Bool, ∃ m : Msg, ∃ l : List Msg, (Ready s (.part p b)) ∧ ((s.part p).dual = none) ∧ ((s.mb p).tq = m :: l)) ∧
    (∃ s : State, ∃ p : Fin 32, ∃ b : Bool, (s.svHalted = false) ∧ (s.pstate p = PState.running.num) ∧ ((s.prog (ctxNum (.part p b))).run = .trap 0)) ∧
    (∃ s : State, ∃ p : Fin 32, ∃ b : Bool, ∃ n : Nat, (4 ≤ n) ∧ (s.svHalted = false) ∧ (s.pstate p = PState.running.num) ∧ ((s.prog (ctxNum (.part p b))).run = .trap n)) ∧
    (∃ s : State, ∃ c : Ctx, ∃ v : Nat, (s.ctxUp c = true) ∧ ((s.prog (ctxNum c)).run = .waitT v) ∧ (v ≤ s.tbs.now)) ∧
    (∃ s : State, ∃ c : Ctx, ∃ v : Nat, ((s.prog (ctxNum c)).run = .waitT v) ∧ (s.tbs.now < v)) :=
  ⟨⟨{ stP0 [] with progs := [(0, { run := .ready })] }, 0, false, 0, by unfold Ready; decide +kernel⟩,
   ⟨{ stP0 [] with progs := [(0, { run := .ready })] }, 0, false, 0, by unfold Ready; decide +kernel⟩,
   ⟨{ stP0 [] with progs := [(0, { run := .ready, g := [(0, 65535)] })], parts := [(0, { desc := { codeG := 1 }, tickets := [{ num := 7 }, { num := 65535, status := some 1 }] })] }, 0, false, 0, { num := 65535, status := some 1 }, 1, by unfold Ready; decide +kernel⟩,
   ⟨stP0 [], 0, false, 2, by unfold Ready; decide +kernel⟩,
   ⟨{ stP0 [] with progs := [(0, { run := .ready, out := List.replicate 2044 0 })] }, 0, false, by unfold Ready; decide +kernel⟩,
   ⟨{ stP0 [] with progs := [(0, { run := .ready, out := List.replicate 2044 0 })] }, 0, false, by unfold Ready; decide +kernel⟩,
   ⟨stP0 [], 0, false, by unfold Ready; decide +kernel⟩,
   ⟨{ stP0 [] with mbox := [(0, { tq := [({ body := [1] })] })] }, 0, false, { body := [1] }, [], by unfold Ready; decide +kernel⟩,
   ⟨{ stP0 [] with mbox := [(0, { tq := [({})] })] }, 0, false, {}, [], by unfold Ready; decide +kernel⟩,
   ⟨{ stP0 [] with progs := [(0, { run := .trap 0 })] }, 0, false, by decide +kernel⟩,
   ⟨{ stP0 [] with progs := [(0, { run := .trap 4095 })] }, 0, false, 4095, by decide +kernel⟩,
   ⟨{ stP0 [] with progs := [(0, { run := .waitT 0 })] }, .part 0 false, 0, by decide +kernel⟩,
   ⟨{ stP0 [] with progs := [(0, { run := .waitT 1 })] }, .part 0 false, 1, by decide +kernel⟩⟩

theorem test_meets_RadioInstructionsOfTheSequencers :
    (∃ s : State, ∃ a : Fin 16, (Ready s .rsa) ∧ (freqOk ((s.prog 33).reg a).toNat = false)) ∧
    (∃ s : State, ∃ a : Fin 16, (Ready s .rsb) ∧ (s.combined = false) ∧ (freqOk ((s.prog 34).reg a).toNat = true) ∧ (s.get (SYNx_CTL_EN 1) = 0)) ∧
    (∃ s : State, (Ready s .rsa)) ∧
    (∃ s : State, (Ready s .rsa)) ∧
    (∃ s : State, (Ready s .ce)) ∧
    (∃ s : State, (Ready s .rsa) ∧ (s.txBound = none) ∧ (s.txReleased = none)) ∧
    (∃ s : State, ∃ x : Tx, (Ready s .rsa) ∧ (s.txBound = none) ∧ (s.txReleased = some x)) ∧
    (∃ s : State, (Ready s .rsa) ∧ (s.txBound = none)) ∧
    (∃ s : State, ∃ x : Tx, (Ready s .rsa) ∧ (s.txBound = some x) ∧ (s.fireGate = false)) ∧
    (∃ s : State, ∃ x : Tx, (Ready s .rsa) ∧ (s.txBound = some x) ∧ (s.fireGate = true) ∧ (fireStamp .rsa x s.tbs.now = true)) ∧
    (∃ s : State, ∃ a : Fin 16, ∃ c : Ctx, (Ready s c) ∧ (c ≠ .ce) ∧ (s.monSlot ((s.prog (ctxNum c)).reg a).toNat 1 = none)) ∧
    (∃ s : State, ∃ p : Fin 32, ∃ b : Bool, (Ready s (.part p b))) :=
  ⟨⟨{ stSeq [] with progs := [(33, { run := .ready, g := [(0, 0x0F000001)] })] }, 0, by unfold Ready; decide +kernel⟩,
   ⟨{ stSeq [((SYNx_CTL_EN 1), 0)] with progs := [(34, { run := .ready, g := [(0, 0x0F000000)] })] }, 0, by unfold Ready; decide +kernel⟩,
   ⟨stSeq [], by unfold Ready; decide +kernel⟩,
   ⟨stSeq [], by unfold Ready; decide +kernel⟩,
   ⟨stCe [], by unfold Ready; decide +kernel⟩,
   ⟨stSeq [], by unfold Ready; decide +kernel⟩,
   ⟨{ stSeq [] with txs := [({ stage := .atRsa })] }, { stage := .atRsa }, by unfold Ready; decide +kernel⟩,
   ⟨stSeq [], by unfold Ready; decide +kernel⟩,
   ⟨{ stSeq [] with txs := [({ stage := .bound })] }, { stage := .bound }, by unfold Ready; decide +kernel⟩,
   ⟨{ stSeq [(TXM_CTL_EN, 1), (PKT_CTL_EN, 1), (SYNx_STAT_LOCK 2, 1), (SYNx_FREQ_FREQ 2, 0)] with txs := [({ stage := .bound, t0 := 0, fixed := true })], syn := [(2, { ph := .locked })] }, { stage := .bound, t0 := 0, fixed := true }, by unfold Ready; decide +kernel⟩,
   ⟨stSeq [], 0, .rsb, by unfold Ready; decide +kernel⟩,
   ⟨stP0 [], 0, false, by unfold Ready; decide +kernel⟩⟩

theorem test_meets_DecodingUndoesEncoding :
    (∃ i : Instr, ∃ c : Ctx, ∃ w : Nat, (ihCtx i = some c) ∧ (i.wf = true) ∧ (encodeIh i = some w)) ∧
    (∃ i : Instr, ∃ c : Ctx, ∃ w : Nat, (ihCtx i = some c) ∧ (i.wf = true) ∧ (encodeIh i = some w)) :=
  ⟨⟨.sig .rsa 7, .rsa, 0xC0004007, by decide +kernel⟩,
   ⟨.sig .rsa 7, .rsa, 0xC0004007, by decide +kernel⟩⟩

theorem test_meets_IllegalWordsAndFetchesFault :
    (∃ s : State, (s.mayIssue .ce = true) ∧ ((s.place .ce .fetch (s.prog 35).pc.toNat 4).isRight = true)) ∧
    (∃ s : State, ∃ c : Ctx, ∃ i : BitVec 18, (s.mayIssue c = true) ∧ ((s.place c .fetch (s.prog (ctxNum c)).pc.toNat 4).isRight = true) ∧ (32 ≤ i.toNat)) ∧
    (∃ s : State, ∃ c : Ctx, ∃ e : FCause, (s.mayIssue c = true) ∧ (s.place c .fetch (s.prog (ctxNum c)).pc.toNat 4 = .inl e)) ∧
    (∃ s : State, ∃ c : Ctx, ∃ e : FCause, (s.mayIssue c = true) ∧ (s.place c .fetch (s.prog (ctxNum c)).pc.toNat 4 = .inl e)) ∧
    (∃ s : State, ∃ c : Ctx, (s.mayIssue c = false)) ∧
    (∃ s : State, ∃ c : Ctx, (s.mayIssue c = false)) ∧
    (∃ s : State, ∃ p : Fin 32, ∃ b : Bool, ∃ m : Nat, (s.mayIssue (.part p b) = true) ∧ (s.place (.part p b) .fetch (s.prog (ctxNum (.part p b))).pc.toNat 4 = .inr (.mem m)) ∧ (memOpen m = false) ∧ (memDark m = false) ∧ (wordOk (.part p b) (s.num m 4) = false)) ∧
    (∃ s : State, ∃ p : Fin 32, ∃ b : Bool, ∃ m : Nat, (s.mayIssue (.part p b) = true) ∧ (s.place (.part p b) .fetch (s.prog (ctxNum (.part p b))).pc.toNat 4 = .inr (.mem m)) ∧ (memOpen m = false) ∧ (memDark m = false) ∧ (wordOk (.part p b) (s.num m 4) = true)) ∧
    (∃ s : State, ∃ p : Fin 32, ((s.part p).rst = none) ∧ ((s.part p).dual = none)) ∧
    (∃ s : State, ∃ p : Fin 32, ((s.part p).rst = none) ∧ ((s.part p).dual = none)) ∧
    (∃ s : State, ∃ p : Fin 32, ((s.part p).rst = none) ∧ ((s.part p).dual = none)) ∧
    (∃ s : State, ∃ p : Fin 32, ((s.part p).rst = none) ∧ ((s.part p).dual = none)) ∧
    (∃ s : State, ∃ p : Fin 32, ((s.part p).rst = none) ∧ ((s.part p).dual = none)) ∧
    (∃ s : State, ∃ p : Fin 32, ((s.part p).rst = none) ∧ ((s.part p).dual = none) ∧ (s.pexists p = true)) :=
  ⟨⟨{ stCe [] with progs := [(35, { run := .ready, pc := 0xFFC })] }, by decide +kernel⟩,
   ⟨stSv [], .sv, 32, by decide +kernel⟩,
   ⟨{ st [] with progs := [(32, { run := .ready, pc := 2 })] }, .sv, .align, by decide +kernel⟩,
   ⟨{ st [] with progs := [(32, { run := .ready, pc := 0x100000 })] }, .sv, .access, by decide +kernel⟩,
   ⟨st [], .sv, by decide +kernel⟩,
   ⟨st [], .sv, by decide +kernel⟩,
   ⟨stP0 [], 0, false, 0, by decide +kernel⟩,
   ⟨{ stP0 [] with mem := [(3, 0xC0)] }, 0, false, 0, by decide +kernel⟩,
   ⟨st [(PRT_PSTATp_STATE 31, 2)], 31, by decide +kernel⟩,
   ⟨st [(PRT_PSTATp_STATE 31, 2)], 31, by decide +kernel⟩,
   ⟨st [(PRT_PSTATp_STATE 31, 2)], 31, by decide +kernel⟩,
   ⟨st [(PRT_PSTATp_STATE 31, 2)], 31, by decide +kernel⟩,
   ⟨st [(PRT_PSTATp_STATE 31, 2)], 31, by decide +kernel⟩,
   ⟨st [(PRT_PSTATp_STATE 31, 2), (PRT_PSTATp_STATE 31, 2)], 31, by decide +kernel⟩⟩

theorem test_meets_EnginesAndSequencersTakeTheirTurns :
    (∃ s : State, ∃ e : Fin 4, ∃ k : Nat, ((s.engine e).cur = some k) ∧ ((s.get ENG_STAT_DRAIN).testBit e = false) ∧ ((s.engIn.find? fun d => (s.engine d).back) = none) ∧ ((s.engine e).slices + 1 < s.get (SAD_ENGp_WSLICE (ctxPart k)))) ∧
    (∃ s : State, ∃ e : Fin 4, ∃ k : Nat, ∃ j : Nat, ((s.engine e).cur = some k) ∧ ((s.get ENG_STAT_DRAIN).testBit e = false) ∧ ((s.engIn.find? fun d => (s.engine d).back) = none) ∧ (s.get (SAD_ENGp_WSLICE (ctxPart k)) ≤ (s.engine e).slices + 1) ∧ (s.nextTurn e k = some j)) ∧
    (∃ s : State, ∃ e : Fin 4, ∃ out : BitVec 4, (s.engPlan ((List.range 4).filter fun e => !out.toNat.testBit e) 32 0 0 ≠ none) ∧ (out ≠ 15)) ∧
    (∃ s : State, ∃ p : Fin 32, (s.get (ENG_WDOGp_LIMIT p) ≠ 0) ∧ (s.get (ENG_WDOGp_LIMIT p) * 1000 ≤ (s.prog p).wdog) ∧ ((s.prog p).going = true) ∧ ((s.part p).rst = none) ∧ ((s.part p).dual = none)) ∧
    (∃ s : State, ∃ p : Fin 32, (s.get (ENG_WDOGp_LIMIT p) = 0)) ∧
    (∃ s : State, ∃ x : Fin 2, ((s.sysSlot (2 + x) (s.get (ENG_SEQCTLx_SRC x))).st ≠ .verified ∨ s.get (ENG_SEQSTATx_SWPEND x) ≠ 0)) ∧
    (∃ s : State, ∃ x : Fin 2, ((s.sysSlot (2 + x) (s.get (ENG_SEQCTLx_SRC x))).st = .verified) ∧ (s.get (ENG_SEQSTATx_SWPEND x) = 0) ∧ (s.sealOk 0 (2 + x) (s.get (ENG_SEQCTLx_SRC x)) = true)) ∧
    (∃ s : State, ∃ x : Fin 2, ((s.seqr x).loading = true)) ∧
    (∃ s : State, ∃ x : Fin 2, ∃ d : Nat, (s.get (ENG_SEQSTATx_SWPEND x) ≠ 0) ∧ ((s.prog (seqCtx x)).run = .waitE d) ∧ ((s.seqr x).loading = false) ∧ (s.get TXM_STAT_ACTIVE = 0) ∧ (s.get ENG_TXBIND_BOUND = 0) ∧ ((s.seqr x).swap = true) ∧ (s.get (ENG_SEQCTLx_BASIC x) = 0)) ∧
    (∃ s : State, ∃ x : Fin 2, ((s.prog (seqCtx x)).run = .ready ∨ s.get TXM_STAT_ACTIVE ≠ 0)) ∧
    (∃ s : State, ∃ x : Fin 2, (s.svHalted = false) ∧ ((s.seqr x).stopped = true)) ∧
    (∃ s : State, ∃ x : Fin 2, ((s.seqr x).stopped = false)) ∧
    (∃ s : State, ((s.prog 34).going = true) ∧ ((s.prog 34).wdog + s.get ENG_SEQWD_RSBWD * 1000 ≤ s.tick) ∧ (s.get (ENG_SEQCTLx_EN 1) ≠ 0)) ∧
    (∃ s : State, ((s.prog 33).going = false)) :=
  ⟨⟨{ st [(SAD_ENGp_WSLICE 0, 2)] with eng := [(0, { cur := some 0 })] }, 0, 0, by decide +kernel⟩,
   ⟨{ st [(PRT_PSTATp_STATE 1, 2)] with eng := [(0, { cur := some 0 })], progs := [(1, { run := .ready })] }, 0, 0, 1, by decide +kernel⟩,
   ⟨st [], 0, 7, by decide +kernel⟩,
   ⟨{ st [((ENG_WDOGp_LIMIT 0), 1)] with progs := [(0, { run := .ready, wdog := 1000 })] }, 0, by decide +kernel⟩,
   ⟨st [((ENG_WDOGp_LIMIT 0), 0), (ENG_WDOGp_LIMIT 0, 0)], 0, by decide +kernel⟩,
   ⟨st [], 0, by decide +kernel⟩,
   ⟨{ st [((ENG_SEQSTATx_SWPEND 0), 0)] with sysImg := [(sysKey 2 0, { st := .verified, sealD := some ((st []).imgDigest ((st []).sysSlot 2 0)) })] }, 0, ⟨by decide +kernel, by decide +kernel, decide_eq_true rfl⟩⟩,
   ⟨{ st [] with seqs := [(0, { loading := true })] }, 0, by decide +kernel⟩,
   ⟨{ st [((ENG_SEQSTATx_SWPEND 0), 1), (TXM_STAT_ACTIVE, 0), (ENG_TXBIND_BOUND, 0), ((ENG_SEQCTLx_BASIC 0), 0), (ENG_SEQCTLx_BASIC 0, 0)] with seqs := [(0, { swap := true })], progs := [(33, { run := .waitE 0 })] }, 0, 0, by decide +kernel⟩,
   ⟨{ st [] with progs := [(33, { run := .ready })] }, 0, by decide +kernel⟩,
   ⟨{ st [] with seqs := [(0, { stopped := true })] }, 0, by decide +kernel⟩,
   ⟨st [], 0, by decide +kernel⟩,
   ⟨{ st [((ENG_SEQCTLx_EN 1), 1)] with progs := [(34, { run := .ready })], tbs := { (st []).tbs with now := 64000 * (st []).get ENG_SEQWD_RSBWD } }, by decide +kernel⟩,
   ⟨st [], by decide +kernel⟩⟩

theorem test_meets_ImagesAreVerifiedAndActivated :
    (∃ s : State, (s.svHalted = true)) ∧
    (∃ s : State, ∃ p : Fin 32, ∃ kind : Fin 5, ∃ i : Nat, (s.svHalted = false) ∧ (([0, 1].find? fun i => (s.imgSlot p kind i).verify) = some i) ∧ (s.tick < (s.imgSlot p kind i).lastAt + 40000)) ∧
    (∃ s : State, ∃ p : Fin 32, ∃ kind : Fin 5, ∃ i : Nat, (s.svHalted = false) ∧ (([0, 1].find? fun i => (s.imgSlot p kind i).verify) = some i) ∧ ((s.imgSlot p kind i).lastAt + 40000 ≤ s.tick) ∧ (s.imgBusy p kind i = false) ∧ (s.imgVerdict p kind i (s.imgSlot p kind i).lastBy ≠ .refusedAccess)) ∧
    (∃ s : State, ∃ p : Fin 32, ∃ i : Nat, (s.svHalted = false) ∧ ((s.part p).act = some (.start i)) ∧ (s.pstate p = PState.stopped.num) ∧ (((s.part p).slot i).st = .verified) ∧ (s.sealHolds ((s.part p).slot i) = true)) ∧
    (∃ s : State, ∃ p : Fin 32, ((s.part p).act = none)) ∧
    (∃ s : State, (s.get ENG_STAT_SVPEND = 0)) ∧
    (∃ s : State, (s.svHalted = false) ∧ (s.get ENG_STAT_SVPEND ≠ 0) ∧ (s.sealOk 0 0 (1 - s.svArea) = true)) ∧
    (∃ s : State, (s.svHalted = false) ∧ (s.sv.confirmBy ≠ none)) ∧
    (∃ s : State, (s.sv.confirmBy = none)) ∧
    (∃ s : State, (s.sv.confirmBy = none)) ∧
    (∃ s : State, ∃ u : Nat, (s.sv.confirmBy = some u) ∧ (u ≤ s.tick)) ∧
    (∃ s : State, ∃ u : Nat, (s.sv.confirmBy = some u) ∧ (s.tick < u)) ∧
    (∃ s : State, ∃ p : Fin 32, ∃ tk : BitVec 16, ∃ x : Ticket, (tk ≠ 0) ∧ (x.service = 4) ∧ (x.status = none) ∧ (x.num = tk.toNat) ∧ (((s.part p).tickets.find? fun t => t.num = tk.toNat) = some x) ∧ (2 ≤ x.reqLen) ∧ ((s.part p).desc.assocQ ≤ fld (s.winOcts p (x.buf + 4) x.reqLen) 0 2)) ∧
    (∃ s : State, ∃ p : Fin 32, ∃ tk : BitVec 16, (tk ≠ 0) ∧ ((s.part p).tickets = [])) :=
  ⟨⟨{ st [] with progs := [(32, { halted := true })] }, by decide +kernel⟩,
   ⟨{ st [] with parts := [(0, { slot0 := { verify := true, lastAt := 1 } })], tbs := { (st []).tbs with now := 2560000 } }, 0, 1, 0, by decide +kernel⟩,
   ⟨{ st [] with parts := [(0, { slot1 := { verify := true } })], tbs := { (st []).tbs with now := 2560000 } }, 0, 1, 1, by decide +kernel⟩,
   ⟨{ st [(PRT_PSTATp_STATE 0, 1)] with parts := [(0, { act := some (.start 0), slot0 := { st := .verified, sealD := some ((st []).imgDigest {}) } })] }, 0, 0, ⟨by decide +kernel, by decide +kernel, by decide +kernel, by decide +kernel, decide_eq_true rfl⟩⟩,
   ⟨st [], 0, by decide +kernel⟩,
   ⟨st [(ENG_STAT_SVPEND, 0)], by decide +kernel⟩,
   ⟨{ st [(ENG_STAT_SVPEND, 1)] with sysImg := [(sysKey 0 1, { st := .verified, sealD := some ((st []).imgDigest ((st []).sysSlot 0 1)) })] }, ⟨by decide +kernel, by decide +kernel, decide_eq_true rfl⟩⟩,
   ⟨{ st [] with sv := { (st []).sv with confirmBy := some 5 } }, by decide +kernel⟩,
   ⟨{ st [] with sv := { (st []).sv with confirmBy := none } }, by decide +kernel⟩,
   ⟨{ st [] with sv := { (st []).sv with confirmBy := none } }, by decide +kernel⟩,
   ⟨{ st [] with sv := { (st []).sv with confirmBy := some 0 } }, 0, by decide +kernel⟩,
   ⟨{ st [] with sv := { (st []).sv with confirmBy := some 1 } }, 1, by decide +kernel⟩,
   ⟨{ st [] with parts := [(0, { tickets := [({ num := 9, service := 4, reqLen := 2 })] })] }, 0, 9, { num := 9, service := 4, reqLen := 2 }, by decide +kernel⟩,
   ⟨st [], 0, 1, by decide +kernel⟩⟩

theorem test_meets_KeysCoresAndTheirCounts :
    (∃ out : BitVec 4, (out ≠ 15)) ∧
    (∃ s : State, (s.tick < s.key.trngAt + 1000000 ∨ s.get SEC_STAT_TRNGERR = 0)) ∧
    (∃ s : State, (s.get SEC_STAT_TRNGERR ≠ 0) ∧ (s.key.trngAt + 1000000 ≤ s.tick)) ∧
    (∃ s : State, ∃ p : Fin 32, ∃ w : Word, (976 < ((allParts.filter (· ≠ p.val)).map fun i => s.get (KEY_TQUOTAp_QUOTA i)).sum + bits w.toNat 0 10 ∨ bits w.toNat 0 10 < s.ksHeld p)) ∧
    (∃ s : State, ∃ p : Fin 32, ∃ w : Word, (((allParts.filter (· ≠ p.val)).map fun i => s.get (KEY_TQUOTAp_QUOTA i)).sum + bits w.toNat 0 10 ≤ 976) ∧ (s.ksHeld p ≤ bits w.toNat 0 10)) ∧
    (∃ w : Word, (KEY_ULIM_LIMIT.allows (bits w.toNat KEY_ULIM_LIMIT.lo KEY_ULIM_LIMIT.w) = true)) :=
  ⟨⟨0, by decide +kernel⟩,
   ⟨st [], by decide +kernel⟩,
   ⟨{ st [(SEC_STAT_TRNGERR, 1)] with tbs := { (st []).tbs with now := 64000000 } }, by decide +kernel⟩,
   ⟨st [], 0, 977, by decide +kernel⟩,
   ⟨st [(KEY_TQUOTAp_QUOTA 31, 0)], 0, 976, by decide +kernel⟩,
   ⟨0x10000, by decide +kernel⟩⟩

theorem test_meets_CheckValueUnitsAreLentAndFed :
    (∃ s : State, ∃ p : Fin 32, ∃ l : Fin 8, ∃ w : Word, ∃ i : Instr, (i ∈ [Instr.crcHold p l, .crcReturn p l, .crcStart p l, .crcFinish p l, .crcFeed1 p l w, .crcFeed2 p l w, .crcFeed4 p l w, .crcStateRestore p l 0 w, .crcConfigWrite p l w]) ∧ ((s.crcSlot p l).busy = true)) ∧
    (∃ s : State, ∃ p : Fin 32, ∃ l : Fin 8, ((s.crcSlot p l).busy = false) ∧ ((s.crcSlot p l).unit = none) ∧ (((List.range 8).find? fun u => !s.crcLent.contains u) = none ∨ (s.part p).desc.crcQ ≤ l ∨ (s.part p).desc.crcQ ≤ s.crcHeld p)) ∧
    (∃ s : State, ∃ p : Fin 32, ∃ l : Fin 8, ∃ n : Nat, ((s.crcSlot p l).busy = false) ∧ ((s.crcSlot p l).unit = none) ∧ (((List.range 8).find? fun u => !s.crcLent.contains u) = some n) ∧ (l < (s.part p).desc.crcQ) ∧ (s.crcHeld p < (s.part p).desc.crcQ)) ∧
    (∃ s : State, ∃ p : Fin 32, ∃ l : Fin 8, ((s.crcSlot p l).busy = false)) ∧
    (∃ s : State, ∃ p : Fin 32, ∃ l : Fin 8, ((s.crcSlot p l).busy = false) ∧ ((s.crcSlot p l).unit ≠ none)) ∧
    (∃ s : State, ∃ p : Fin 32, ∃ l : Fin 8, ((s.crcSlot p l).busy = false) ∧ ((s.crcSlot p l).unit ≠ none) ∧ ((s.crcSlot p l).isOpen = true) ∧ (crcHolds (s.crcSlot p l).cur.cfg = false)) ∧
    (∃ s : State, ∃ p : Fin 32, ∃ l : Fin 8, ((s.crcSlot p l).busy = false) ∧ ((s.crcSlot p l).unit ≠ none) ∧ ((s.crcSlot p l).isOpen = true)) ∧
    (∃ s : State, ∃ p : Fin 32, ∃ l : Fin 8, ∃ w : Word, ((s.crcSlot p l).busy = false) ∧ ((s.crcSlot p l).unit ≠ none) ∧ (bit w.toNat 10 = true) ∧ (8 < bits w.toNat 16 3 + bits w.toNat 12 3 + 1)) ∧
    (∃ s : State, ∃ p : Fin 32, ∃ l : Fin 8, ∃ w : Word, ((s.crcSlot p l).busy = false) ∧ ((s.crcSlot p l).unit ≠ none) ∧ (bit w.toNat 10 = false)) ∧
    (∃ s : State, ∃ p : Fin 32, ∃ l : Fin 8, ((s.crcSlot p l).busy = false) ∧ ((s.crcSlot p l).unit ≠ none)) :=
  ⟨⟨{ st [] with crcs := [(0, { busy := true })] }, 0, 0, 0, .crcHold 0 0, by decide +kernel⟩,
   ⟨{ st [] with crcs := [] }, 0, 0, by decide +kernel⟩,
   ⟨{ st [] with crcs := [(8, { unit := some 0 }), (9, { unit := some 1 }), (10, { unit := some 2 }), (11, { unit := some 3 }), (12, { unit := some 4 }), (13, { unit := some 5 }), (14, { unit := some 6 })], parts := [(0, { desc := { crcQ := 8 } })] }, 0, 7, 7, by decide +kernel⟩,
   ⟨{ st [] with crcs := [(0, { unit := some 0, isOpen := true })] }, 0, 0, by decide +kernel⟩,
   ⟨{ st [] with crcs := [(0, { unit := some 0, isOpen := true })] }, 0, 0, by decide +kernel⟩,
   ⟨{ st [] with crcs := [(0, { unit := some 0, isOpen := true })] }, 0, 0, by decide +kernel⟩,
   ⟨{ st [] with crcs := [(0, { unit := some 0, isOpen := true })] }, 0, 0, by decide +kernel⟩,
   ⟨{ st [] with crcs := [(0, { unit := some 0, isOpen := true })] }, 0, 0, 0x77400, by decide +kernel⟩,
   ⟨{ st [] with crcs := [(0, { unit := some 0, isOpen := true })] }, 0, 0, 0, by decide +kernel⟩,
   ⟨{ st [] with crcs := [(0, { unit := some 0, isOpen := true })] }, 0, 0, by decide +kernel⟩⟩

theorem test_meets_HostRequestsAreJudgedAndAnswered_1 :
    (∃ s : State, ∃ p : Fin 32, ((s.mb p).inq = [])) ∧
    (∃ s : State, ∃ p : Fin 32, ∃ m : Msg, ∃ typ : Nat, ∃ i : Instr × Nat, (i ∈ [(Instr.regRead p, 0x60), (.regWrite p, 0x61)]) ∧ (Asks s p m typ) ∧ (p ≠ 0) ∧ (i.2 = typ)) ∧
    (∃ s : State, ∃ p : Fin 32, ∃ m : Msg, ((s.mb p).inq.head? = some m) ∧ (m.typ = 0x30) ∧ (m.auth = false) ∧ (s.hostReady p m = true) ∧ (s.pwr.lockdown = true) ∧ (2 ≤ m.body.length)) ∧
    (∃ s : State, ∃ p : Fin 32, ∃ m : Msg, (Asks s p m 0x30) ∧ (m.body.length < 2)) ∧
    (∃ s : State, ∃ p : Fin 32, ∃ m : Msg, ∃ rest : List Byte, ((s.mb p).inq = [m]) ∧ ((s.mb p).wait = []) ∧ ((s.mb p).room (12 + rest.length) = true)) ∧
    (∃ s : State, ∃ p : Fin 32, ∃ m : Msg, ∃ rest : List Byte, ((s.mb p).inq = [m]) ∧ ((s.mb p).wait = []) ∧ ((s.mb p).room (12 + rest.length) = true)) ∧
    (∃ s : State, ∃ p : Fin 32, ∃ m : Msg, ∃ rest : List Byte, ((s.mb p).inq = [m]) ∧ ((s.mb p).wait = []) ∧ ((s.mb p).room (12 + rest.length) = true)) ∧
    (∃ s : State, ∃ p : Fin 32, ∃ m : Msg, ∃ rest : List Byte, ((s.mb p).inq = [m]) ∧ ((s.mb p).wait = []) ∧ ((s.mb p).room (12 + rest.length) = true)) ∧
    (∃ s : State, ∃ p : Fin 32, ∃ m : Msg, (Asks s p m 0x01)) ∧
    (∃ s : State, ∃ p : Fin 32, ∃ m : Msg, (Asks s p m 0x02)) ∧
    (∃ s : State, ∃ p : Fin 32, ∃ m : Msg, (Asks s p m 0x08) ∧ (1 ≤ m.body.length)) ∧
    (∃ s : State, ∃ p : Fin 32, ∃ m : Msg, (Asks s p m 0x10) ∧ (4 ≤ m.body.length) ∧ (viewMay p false (fld m.body 0 4) = true)) ∧
    (∃ s : State, ∃ p : Fin 32, ∃ m : Msg, (Asks s p m 0x10) ∧ (4 ≤ m.body.length) ∧ (viewMay p false (fld m.body 0 4) = false)) ∧
    (∃ s : State, ∃ p : Fin 32, ∃ m : Msg, (Asks s p m 0x11) ∧ (8 ≤ m.body.length) ∧ (viewMay p true (fld m.body 0 4) = true)) :=
  ⟨⟨st [], 0, by decide +kernel⟩,
   ⟨{ st [] with mbox := [(31, { inq := [(({ typ := 0x61, body := [] } : Msg))] })] }, 31, ({ typ := 0x61, body := [] } : Msg), 0x61, (.regWrite 31, 0x61), by unfold Asks; decide +kernel⟩,
   ⟨{ st [] with mbox := [(0, { inq := [({ typ := 0x30, body := [0, 0] })] })], pwr := { (st []).pwr with lockdown := true } }, 0, { typ := 0x30, body := [0, 0] }, by decide +kernel⟩,
   ⟨{ st [] with mbox := [(0, { inq := [(({ typ := 0x30, body := [0] } : Msg))] })] }, 0, ({ typ := 0x30, body := [0] } : Msg), by unfold Asks; decide +kernel⟩,
   ⟨{ st [] with mbox := [(0, { inq := [({})] })] }, 0, {}, [], by decide +kernel⟩,
   ⟨{ st [] with mbox := [(0, { inq := [({})] })] }, 0, {}, [], by decide +kernel⟩,
   ⟨{ st [] with mbox := [(0, { inq := [({})] })] }, 0, {}, [], by decide +kernel⟩,
   ⟨{ st [] with mbox := [(0, { inq := [({})] })] }, 0, {}, [], by decide +kernel⟩,
   ⟨{ st [] with mbox := [(0, { inq := [(({ typ := 0x01, body := [] } : Msg))] })] }, 0, ({ typ := 0x01, body := [] } : Msg), by unfold Asks; decide +kernel⟩,
   ⟨{ st [] with mbox := [(0, { inq := [(({ typ := 0x02, body := [] } : Msg))] })] }, 0, ({ typ := 0x02, body := [] } : Msg), by unfold Asks; decide +kernel⟩,
   ⟨{ st [] with mbox := [(0, { inq := [(({ typ := 0x08, body := [255] } : Msg))] })] }, 0, ({ typ := 0x08, body := [255] } : Msg), by unfold Asks; decide +kernel⟩,
   ⟨{ st [] with mbox := [(0, { inq := [(({ typ := 0x10, body := [0x00, 0x70, 0x00, 0x40] } : Msg))] })] }, 0, ({ typ := 0x10, body := [0x00, 0x70, 0x00, 0x40] } : Msg), by unfold Asks; decide +kernel⟩,
   ⟨{ st [] with mbox := [(0, { inq := [(({ typ := 0x10, body := [0, 0, 0, 0] } : Msg))] })] }, 0, ({ typ := 0x10, body := [0, 0, 0, 0] } : Msg), by unfold Asks; decide +kernel⟩,
   ⟨{ st [] with mbox := [(0, { inq := [(({ typ := 0x11, body := [0x00, 0x02, 0x01, 0x40, 0, 0, 0, 0] } : Msg))] })] }, 0, ({ typ := 0x11, body := [0x00, 0x02, 0x01, 0x40, 0, 0, 0, 0] } : Msg), by unfold Asks; decide +kernel⟩⟩

theorem test_meets_HostRequestsAreJudgedAndAnswered_2 :
    (∃ s : State, ∃ p : Fin 32, ∃ m : Msg, (Asks s p m 0x60) ∧ (p = 0) ∧ (5 ≤ m.body.length) ∧ (fld m.body 4 1 = 1) ∧ (hostMay false (fld m.body 0 4) = true)) ∧
    (∃ s : State, ∃ p : Fin 32, ∃ m : Msg, (Asks s p m 0x60) ∧ (p = 0) ∧ (5 ≤ m.body.length) ∧ (fld m.body 4 1 = 0 ∨ 64 < fld m.body 4 1)) ∧
    (∃ s : State, ∃ p : Fin 32, ∃ m : Msg, (Asks s p m 0x61) ∧ (p = 0) ∧ (8 ≤ m.body.length) ∧ (hostMay true (fld m.body 0 4) = true)) ∧
    (∃ s : State, ∃ p : Fin 32, ∃ m : Msg, ∃ x : Tx, (Asks s p m 0x20) ∧ (24 ≤ m.body.length) ∧ (m.body.length = 24 + fld m.body 6 2) ∧ (s.subJudge p false true m.body = .inr x)) ∧
    (∃ s : State, ∃ p : Fin 32, ∃ m : Msg, ∃ x : Tx, (Asks s p m 0x21) ∧ (2 ≤ m.body.length) ∧ ((s.txs.find? fun t => t.kind = .submit && decide (t.p = p.val ∧ t.tk = fld m.body 0 2) && t.stage ≠ .onAir && t.stage ≠ .acked) = some x) ∧ (s.air.lbtRet = none)) ∧
    (∃ s : State, ∃ p : Fin 32, ∃ m : Msg, (Asks s p m 0x30) ∧ (2 ≤ m.body.length)) ∧
    (∃ s : State, ∃ p : Fin 32, ∃ m : Msg, (Asks s p m 0x31) ∧ (44 ≤ m.body.length)) ∧
    (∃ s : State, ∃ p : Fin 32, ∃ m : Msg, (Asks s p m 0x31) ∧ (44 ≤ m.body.length)) ∧
    (∃ s : State, ∃ p : Fin 32, ∃ m : Msg, (Asks s p m 0x32) ∧ (2 ≤ m.body.length) ∧ (fld m.body 0 2 < (s.part p).desc.assocQ) ∧ (s.entSt (s.entOf p (fld m.body 0 2)) ≠ 0)) ∧
    (∃ s : State, ∃ p : Fin 32, ∃ m : Msg, (Asks s p m 0x33) ∧ (2 ≤ m.body.length) ∧ (fld m.body 0 2 < (s.part p).desc.assocQ) ∧ (s.entSt (s.entOf p (fld m.body 0 2)) ≠ 0)) :=
  ⟨⟨{ st [] with mbox := [(0, { inq := [(({ typ := 0x60, body := [0x00, 0x00, 0x01, 0x40, 1] } : Msg))] })] }, 0, ({ typ := 0x60, body := [0x00, 0x00, 0x01, 0x40, 1] } : Msg), by unfold Asks; decide +kernel⟩,
   ⟨{ st [] with mbox := [(0, { inq := [(({ typ := 0x60, body := [0, 0, 0, 0, 65] } : Msg))] })] }, 0, ({ typ := 0x60, body := [0, 0, 0, 0, 65] } : Msg), by unfold Asks; decide +kernel⟩,
   ⟨{ st [] with mbox := [(0, { inq := [(({ typ := 0x61, body := [0x00, 0x02, 0x01, 0x40, 0, 0, 0, 0] } : Msg))] })] }, 0, ({ typ := 0x61, body := [0x00, 0x02, 0x01, 0x40, 0, 0, 0, 0] } : Msg), by unfold Asks; decide +kernel⟩,
   ⟨{ st [(TXM_PROFnC_PARTMASK 0, 1), (TXM_PROFnA_RATE 0, 3000), (AIR_TXSYNCn_SYNC 0, 0x12345678)] with mbox := [(0, { inq := [(({ typ := 0x20, body := [0, 2, 0, 0, 0, 0, 0, 0, 0, 0, 0, 0, 0, 0, 0, 0, 0, 0, 16, 0, 0, 0, 0, 0] } : Msg))] })], parts := [(0, { desc := { txQ := 1 } })] }, 0, ({ typ := 0x20, body := [0, 2, 0, 0, 0, 0, 0, 0, 0, 0, 0, 0, 0, 0, 0, 0, 0, 0, 16, 0, 0, 0, 0, 0] } : Msg), (({ st [(TXM_PROFnC_PARTMASK 0, 1), (TXM_PROFnA_RATE 0, 3000), (AIR_TXSYNCn_SYNC 0, 0x12345678)] with mbox := [(0, { inq := [(({ typ := 0x20, body := [0, 2, 0, 0, 0, 0, 0, 0, 0, 0, 0, 0, 0, 0, 0, 0, 0, 0, 16, 0, 0, 0, 0, 0] } : Msg))] })], parts := [(0, { desc := { txQ := 1 } })] }).subJudge 0 false true ((({ typ := 0x20, body := [0, 2, 0, 0, 0, 0, 0, 0, 0, 0, 0, 0, 0, 0, 0, 0, 0, 0, 16, 0, 0, 0, 0, 0] } : Msg)) : Msg).body).elim (fun _ => ({ id := 0 } : Tx)) id, by unfold Asks; decide +kernel⟩,
   ⟨{ st [] with mbox := [(0, { inq := [(({ typ := 0x21, body := [9, 0] } : Msg))] })], txs := [({ tk := 9 })] }, 0, ({ typ := 0x21, body := [9, 0] } : Msg), { tk := 9 }, by unfold Asks; decide +kernel⟩,
   ⟨{ st [] with mbox := [(0, { inq := [(({ typ := 0x30, body := [0, 0] } : Msg))] })] }, 0, ({ typ := 0x30, body := [0, 0] } : Msg), by unfold Asks; decide +kernel⟩,
   ⟨{ st [] with mbox := [(0, { inq := [(({ typ := 0x31, body := List.replicate 44 0 } : Msg))] })] }, 0, ({ typ := 0x31, body := List.replicate 44 0 } : Msg), by unfold Asks; decide +kernel⟩,
   ⟨{ st [] with mbox := [(0, { inq := [(({ typ := 0x31, body := List.replicate 44 0 } : Msg))] })] }, 0, ({ typ := 0x31, body := List.replicate 44 0 } : Msg), by unfold Asks; decide +kernel⟩,
   ⟨{ st [] with mbox := [(0, { inq := [(({ typ := 0x32, body := [0, 0] } : Msg))] })], mem := [(ntFirst + 35, 0x80)], parts := [(0, { desc := { assocQ := 1 } })] }, 0, ({ typ := 0x32, body := [0, 0] } : Msg), by unfold Asks; decide +kernel⟩,
   ⟨{ st [] with mbox := [(0, { inq := [(({ typ := 0x33, body := [0, 0] } : Msg))] })], mem := [(ntFirst + 35, 0x80)], parts := [(0, { desc := { assocQ := 1 } })] }, 0, ({ typ := 0x33, body := [0, 0] } : Msg), by unfold Asks; decide +kernel⟩⟩

theorem test_meets_HostRequestsOfKeysImagesAndModes_1 :
    (∃ s : State, ∃ p : Fin 32, ∃ m : Msg, (Asks s p m 0x38) ∧ (svcShort 5 m.body = false)) ∧
    (∃ s : State, ∃ p : Fin 32, ∃ m : Msg, (Asks s p m 0x38) ∧ (svcShort 5 m.body = false)) ∧
    (∃ s : State, ∃ p : Fin 32, ∃ m : Msg, (Asks s p m 0x39) ∧ (svcShort 6 m.body = false)) ∧
    (∃ s : State, ∃ p : Fin 32, ∃ m : Msg, (Asks s p m 0x39) ∧ (svcShort 6 m.body = false)) ∧
    (∃ s : State, ∃ p : Fin 32, ∃ m : Msg, (Asks s p m 0x50) ∧ (svcShort 8 m.body = false)) ∧
    (∃ s : State, ∃ p : Fin 32, ∃ m : Msg, (Asks s p m 0x51) ∧ (svcShort 7 m.body = false)) ∧
    (∃ s : State, ∃ p : Fin 32, ∃ m : Msg, (Asks s p m 0x51) ∧ (svcShort 7 m.body = false)) ∧
    (∃ s : State, ∃ p : Fin 32, ∃ m : Msg, (Asks s p m 0x51) ∧ (svcShort 7 m.body = true)) ∧
    (∃ s : State, ∃ p : Fin 32, ∃ m : Msg, (Asks s p m 0x40) ∧ (chunkOk m.body = true) ∧ (4 < fld m.body 4 1 ∨ 1 < fld m.body 5 1)) ∧
    (∃ s : State, ∃ p : Fin 32, ∃ m : Msg, (Asks s p m 0x40) ∧ (chunkOk m.body = true) ∧ (fld m.body 4 1 = 1) ∧ (fld m.body 5 1 = 0) ∧ (s.imgBusy p 1 (1 - s.actImg p 1) = false) ∧ (fld m.body 0 4 + (m.body.drop 8).length ≤ (s.imgSlot p 1 (1 - s.actImg p 1)).size)) ∧
    (∃ s : State, ∃ p : Fin 32, ∃ m : Msg, (Asks s p m 0x40) ∧ (chunkOk m.body = true) ∧ (fld m.body 4 1 = 1) ∧ (fld m.body 5 1 = 1)) ∧
    (∃ s : State, ∃ p : Fin 32, ∃ m : Msg, (Asks s p m 0x41) ∧ (5 ≤ m.body.length) ∧ (fld m.body 0 1 = 0)) ∧
    (∃ s : State, ∃ p : Fin 32, ∃ m : Msg, (Asks s p m 0x48)) ∧
    (∃ s : State, ∃ p : Fin 32, ∃ m : Msg, (Asks s p m 0x49) ∧ (4 ≤ m.body.length)) :=
  ⟨⟨{ st [] with mbox := [(0, { inq := [(({ typ := 0x38, body := List.replicate 64 0 } : Msg))] })] }, 0, ({ typ := 0x38, body := List.replicate 64 0 } : Msg), by unfold Asks; decide +kernel⟩,
   ⟨{ st [] with mbox := [(0, { inq := [(({ typ := 0x38, body := List.replicate 64 0 } : Msg))] })] }, 0, ({ typ := 0x38, body := List.replicate 64 0 } : Msg), by unfold Asks; decide +kernel⟩,
   ⟨{ st [] with mbox := [(0, { inq := [(({ typ := 0x39, body := List.replicate 64 0 } : Msg))] })] }, 0, ({ typ := 0x39, body := List.replicate 64 0 } : Msg), by unfold Asks; decide +kernel⟩,
   ⟨{ st [] with mbox := [(0, { inq := [(({ typ := 0x39, body := List.replicate 64 0 } : Msg))] })] }, 0, ({ typ := 0x39, body := List.replicate 64 0 } : Msg), by unfold Asks; decide +kernel⟩,
   ⟨{ st [] with mbox := [(0, { inq := [(({ typ := 0x50, body := List.replicate 64 0 } : Msg))] })] }, 0, ({ typ := 0x50, body := List.replicate 64 0 } : Msg), by unfold Asks; decide +kernel⟩,
   ⟨{ st [] with mbox := [(0, { inq := [(({ typ := 0x51, body := List.replicate 64 0 } : Msg))] })] }, 0, ({ typ := 0x51, body := List.replicate 64 0 } : Msg), by unfold Asks; decide +kernel⟩,
   ⟨{ st [] with mbox := [(0, { inq := [(({ typ := 0x51, body := List.replicate 64 0 } : Msg))] })] }, 0, ({ typ := 0x51, body := List.replicate 64 0 } : Msg), by unfold Asks; decide +kernel⟩,
   ⟨{ st [] with mbox := [(0, { inq := [(({ typ := 0x51, body := [] } : Msg))] })] }, 0, ({ typ := 0x51, body := [] } : Msg), by unfold Asks; decide +kernel⟩,
   ⟨{ st [] with mbox := [(0, { inq := [(({ typ := 0x40, body := [0, 0, 0, 0, 5, 0, 16, 0] ++ List.replicate 16 0 } : Msg))] })] }, 0, ({ typ := 0x40, body := [0, 0, 0, 0, 5, 0, 16, 0] ++ List.replicate 16 0 } : Msg), by unfold Asks; decide +kernel⟩,
   ⟨{ st [] with mbox := [(0, { inq := [(({ typ := 0x40, body := [0, 0, 0, 0, 1, 0, 0xF0, 7] ++ List.replicate 2032 0 } : Msg))] })], parts := [(0, { slot0 := { size := 4096 }, slot1 := { size := 4096 } })] }, 0, ({ typ := 0x40, body := [0, 0, 0, 0, 1, 0, 0xF0, 7] ++ List.replicate 2032 0 } : Msg), by unfold Asks; decide +kernel⟩,
   ⟨{ st [] with mbox := [(0, { inq := [(({ typ := 0x40, body := [0, 0, 0, 0, 1, 1, 16, 0] ++ List.replicate 16 0 } : Msg))] })] }, 0, ({ typ := 0x40, body := [0, 0, 0, 0, 1, 1, 16, 0] ++ List.replicate 16 0 } : Msg), by unfold Asks; decide +kernel⟩,
   ⟨{ st [] with mbox := [(0, { inq := [(({ typ := 0x41, body := [0, 0, 0, 0, 0] } : Msg))] })] }, 0, ({ typ := 0x41, body := [0, 0, 0, 0, 0] } : Msg), by unfold Asks; decide +kernel⟩,
   ⟨{ st [] with mbox := [(0, { inq := [(({ typ := 0x48, body := [] } : Msg))] })] }, 0, ({ typ := 0x48, body := [] } : Msg), by unfold Asks; decide +kernel⟩,
   ⟨{ st [] with mbox := [(0, { inq := [(({ typ := 0x49, body := [255, 255, 255, 255] } : Msg))] })] }, 0, ({ typ := 0x49, body := [255, 255, 255, 255] } : Msg), by unfold Asks; decide +kernel⟩⟩

theorem test_meets_HostRequestsOfKeysImagesAndModes_2 :
    (∃ s : State, ∃ p : Fin 32, ∃ m : Msg, (Asks s p m 0x62) ∧ (p = 0) ∧ (8 ≤ m.body.length) ∧ (fld m.body 1 3 ≠ 0)) ∧
    (∃ s : State, ∃ p : Fin 32, ∃ m : Msg, (Asks s p m 0x62) ∧ (p = 0) ∧ (8 ≤ m.body.length) ∧ (fld m.body 1 3 = 0)) ∧
    (∃ s : State, ∃ p : Fin 32, ∃ m : Msg, (Asks s p m 0x63) ∧ (p = 0) ∧ (64 ≤ m.body.length) ∧ (s.creation = none)) ∧
    (∃ s : State, ∃ p : Fin 32, ∃ m : Msg, (Asks s p m 0x64) ∧ (p = 0) ∧ (1 ≤ m.body.length) ∧ (s.creation = none)) ∧
    (∃ s : State, ∃ p : Fin 32, ∃ m : Msg, (Asks s p m 0x65) ∧ (p = 0) ∧ (m.body.length = 4) ∧ (s.air.load = none) ∧ (s.svHalted = false)) ∧
    (∃ s : State, ∃ p : Fin 32, ∃ m : Msg, ∃ typ : Nat, (0x80 ≤ typ) ∧ (Asks s p m typ)) ∧
    (∃ s : State, ∃ p : Fin 32, ((s.mb p).inq = [])) :=
  ⟨⟨{ st [] with mbox := [(0, { inq := [(({ typ := 0x62, body := [0, 0, 0, 1, 0, 0, 0, 0] } : Msg))] })] }, 0, ({ typ := 0x62, body := [0, 0, 0, 1, 0, 0, 0, 0] } : Msg), by unfold Asks; decide +kernel⟩,
   ⟨{ st [] with mbox := [(0, { inq := [(({ typ := 0x62, body := [0, 0, 0, 0, 0, 0, 0, 0] } : Msg))] })] }, 0, ({ typ := 0x62, body := [0, 0, 0, 0, 0, 0, 0, 0] } : Msg), by unfold Asks; decide +kernel⟩,
   ⟨{ st [] with mbox := [(0, { inq := [(({ typ := 0x63, body := List.replicate 64 0 } : Msg))] })] }, 0, ({ typ := 0x63, body := List.replicate 64 0 } : Msg), by unfold Asks; decide +kernel⟩,
   ⟨{ st [] with mbox := [(0, { inq := [(({ typ := 0x64, body := [31] } : Msg))] })] }, 0, ({ typ := 0x64, body := [31] } : Msg), by unfold Asks; decide +kernel⟩,
   ⟨{ st [] with mbox := [(0, { inq := [(({ typ := 0x65, body := [0, 0, 0, 0x10] } : Msg))] })] }, 0, ({ typ := 0x65, body := [0, 0, 0, 0x10] } : Msg), by unfold Asks; decide +kernel⟩,
   ⟨{ st [] with mbox := [(0, { inq := [(({ typ := 0xFF, body := [] } : Msg))] })] }, 0, ({ typ := 0xFF, body := [] } : Msg), 0xFF, by unfold Asks; decide +kernel⟩,
   ⟨st [], 0, by decide +kernel⟩⟩

theorem test_meets_SpiTransactionsCarryMessages_1 :
    (∃ s : State, (s.portUp 0 = false)) ∧
    (∃ s : State, (s.portUp 0 = true)) ∧
    (∃ s : State, ∃ p : Fin 32, ∃ m : Msg, (s.portUp 0 = true) ∧ (s.pexists p = true) ∧ (s.portOf p = 0) ∧ (Takes s p m)) ∧
    (∃ s : State, ∃ p : Fin 32, ∃ m : Msg, (s.portUp 0 = true) ∧ (s.pexists p = true) ∧ (s.portOf p = 0) ∧ (m.Sound) ∧ (m.typ ≠ 8) ∧ (m.alive ≠ s.get (HIF_PALIVE_INLAST.at p)) ∧ (m.alive ≠ (s.get (HIF_PALIVE_INLAST.at p) + 1) % 256)) ∧
    (∃ s : State, ∃ p : Fin 32, ∃ m : Msg, ∃ st : Stored, (s.portUp 0 = true) ∧ (s.pexists p = true) ∧ (s.portOf p = 0) ∧ (m.Sound) ∧ (m.typ ≠ 8) ∧ (m.alive = s.get (HIF_PALIVE_INLAST.at p)) ∧ ((s.mb p).stored = some st) ∧ (st.retired = false)) ∧
    (∃ s : State, ∃ o : List Byte, (s.portUp 0 = true) ∧ (o ≠ []) ∧ (o.head? ≠ some 0xE7)) ∧
    (∃ s : State, ∃ m : Msg, ∃ n : Nat, (s.portUp 0 = true) ∧ (m.Sound) ∧ (4 ≤ n) ∧ (n < 12 + m.body.length)) ∧
    (∃ s : State, ∃ p : Fin 32, ∃ m : Msg, ∃ o : List Byte, (s.portUp 0 = true) ∧ (m.Sound) ∧ (o.length = 4) ∧ (ofOctets o ≠ crc32c ((m.octets p).take (8 + m.body.length)))) ∧
    (∃ s : State, ∃ p : Fin 32, ∃ m : Msg, (s.portUp 0 = true) ∧ (m.Sound) ∧ (s.pexists p = false ∨ s.portOf p ≠ 0)) ∧
    (∃ s : State, ∃ q : Nat, ∃ r : Msg, ∃ rest : List Msg, (s.portUp 0 = true) ∧ ((s.port 0).cur = some q) ∧ ((s.mb q).outq = r :: rest)) ∧
    (∃ s : State, ∃ a : Fin 32, ∃ q : Nat, ∃ r : Msg, ∃ rest : List Msg, (s.portUp 0 = true) ∧ ((s.port 0).cur = some q) ∧ (s.portOf q = 0) ∧ ((s.mb q).outq = r :: rest) ∧ ((s.mb q).wait = []) ∧ ((s.port 0).sent = true) ∧ (r.alive % 32 = a) ∧ (r.alive < 256)) ∧
    (∃ s : State, (s.portUp 0 = true) ∧ ((s.port 0).sent = false)) ∧
    (∃ s : State, ∃ n : Nat, ∃ a : Fin 32, ∃ t : State, (s.portUp 0 = true) ∧ (n ≠ 0) ∧ (exec (.spiAckRead a 0) s = .next t)) ∧
    (∃ s : State, (s.portUp 0 = true)) :=
  ⟨⟨{ st [] with pwr := { (st []).pwr with sleep := some .deep } }, by decide +kernel⟩,
   ⟨st [], by decide +kernel⟩,
   ⟨st [(PRT_PSTATp_STATE 0, 2)], 0, { cls := 0, typ := 1 }, by unfold Takes Machine.Msg.Sound; decide +kernel⟩,
   ⟨st [(PRT_PSTATp_STATE 0, 2)], 0, { cls := 0, typ := 1, alive := 2 }, by unfold Machine.Msg.Sound; decide +kernel⟩,
   ⟨{ st0 [(HIF_PALIVE_INLAST.at 0, 5)] with mbox := [(0, { stored := some { alive := 5 } })] }, 0, { cls := 0, typ := 1, alive := 5 }, { alive := 5 }, by unfold Machine.Msg.Sound; decide +kernel⟩,
   ⟨st [], [0xE8], by decide +kernel⟩,
   ⟨st [], { cls := 0, typ := 1, body := [7] }, 12, by unfold Machine.Msg.Sound; decide +kernel⟩,
   ⟨st [], 0, { cls := 0, typ := 1 }, [0, 0, 0, 0], by unfold Machine.Msg.Sound; decide +kernel⟩,
   ⟨st [], 1, { cls := 0, typ := 1 }, by unfold Machine.Msg.Sound; decide +kernel⟩,
   ⟨{ st [] with mbox := [(0, { outq := [({})] })], ports := [(0, { cur := some 0 })] }, 0, {}, [], by decide +kernel⟩,
   ⟨{ st [] with mbox := [(0, { outq := [({ alive := 255 })] })], ports := [(0, { cur := some 0, sent := true })] }, 31, 0, { alive := 255 }, [], by decide +kernel⟩,
   ⟨st [], by decide +kernel⟩,
   ⟨st [], 5, 0, (nx (exec (.spiAckRead 0 0) (st []))).getD (st []), ⟨by decide +kernel, by decide, rfl⟩⟩,
   ⟨st [], by decide +kernel⟩⟩

theorem test_meets_SpiTransactionsCarryMessages_2 :
    ∃ s : State, (s.portUp 0 = true) :=
  ⟨st [], by decide +kernel⟩

theorem test_meets_UartFramesAndCharactersAct_1 :
    (∃ s : State, (s.uartHears = false ∨ s.uart.mode = true)) ∧
    (∃ s : State, ∃ p : Fin 32, ∃ m : Msg, (s.uartHears = true) ∧ (s.uart.mode = false) ∧ (s.pexists p = true) ∧ (s.portOf p = 1) ∧ (Takes s p m)) ∧
    (∃ s : State, ∃ m : Msg, ∃ fe : Nat, ∃ pe : Nat, (s.uartHears = true) ∧ (s.uart.mode = false) ∧ (m.Sound) ∧ (0 < fe + pe)) ∧
    (∃ s : State, (s.uartHears = true) ∧ (s.uart.mode = false) ∧ (s.uart.send = none) ∧ (s.flag UART_CTL_HDX = false)) ∧
    (∃ s : State, ∃ q : Nat, ∃ r : Msg, ∃ rest : List Msg, (s.uartHears = true) ∧ (s.uart.mode = false) ∧ (s.uart.send = none) ∧ (s.uart.statDue = false) ∧ (s.flag UART_CTL_HDX = false) ∧ ((s.port 1).cur = some q) ∧ ((s.mb q).outq = r :: rest)) ∧
    (∃ s : State, ∃ a : Fin 32, ∃ q : Nat, ∃ r : Msg, ∃ rest : List Msg, (s.uartHears = true) ∧ (s.uart.mode = false) ∧ ((s.port 1).cur = some q) ∧ (s.portOf q = 1) ∧ ((s.mb q).outq = r :: rest) ∧ ((s.mb q).wait = []) ∧ ((s.port 1).sent = true) ∧ (r.alive % 32 = a) ∧ (r.alive < 256)) ∧
    (∃ s : State, (s.uartHears = true) ∧ (s.uart.mode = false)) ∧
    (∃ s : State, (s.uartHears = true) ∧ (s.uart.mode = false)) ∧
    (∃ s : State, (s.uartHears = true) ∧ (s.uart.mode = true)) ∧
    (∃ s : State, (s.uartHears = true) ∧ (s.uart.mode = true) ∧ (s.pexists (s.get UART_CTL_TPART) = true)) ∧
    (∃ s : State, (s.uartHears = false)) ∧
    (∃ s : State, ∃ q : Nat, ∃ r : Msg, ∃ rest : List Msg, (s.portUp 1 = true) ∧ (s.uart.mode = false) ∧ (s.uart.send = none) ∧ (s.uart.statDue = false) ∧ (s.flag UART_CTL_HDX = false) ∧ (s.get UART_MSGCFG_ACKTO ≠ 0) ∧ (s.uart.ackFrom + 1000 * s.get UART_MSGCFG_ACKTO ≤ s.tick) ∧ ((s.port 1).sent = true) ∧ ((s.port 1).cur = some q) ∧ ((s.mb q).outq = r :: rest)) ∧
    (∃ s : State, (s.get UART_MSGCFG_ACKTO = 0)) ∧
    (∃ s : State, ∃ q : Nat, (s.uart.send = some .msg) ∧ (s.uart.statDue = false) ∧ (s.uart.again = false) ∧ (s.uart.mode = false) ∧ ((s.port 1).cur = some q)) :=
  ⟨⟨{ st [] with uart := { (st []).uart with mode := true } }, by decide +kernel⟩,
   ⟨{ st [(PRT_PSTATp_STATE 1, 2)] with uart := { (st []).uart with mode := false }, parts := [(1, { desc := { port := 1 } })] }, 1, { cls := 0, typ := 1 }, by unfold Takes Machine.Msg.Sound; decide +kernel⟩,
   ⟨{ st [] with uart := { (st []).uart with mode := false } }, { cls := 0, typ := 1 }, 1, 0, by unfold Machine.Msg.Sound; decide +kernel⟩,
   ⟨{ st [(UART_CTL_HDX, 0)] with uart := { (st []).uart with mode := false, send := none } }, by decide +kernel⟩,
   ⟨{ st [(UART_CTL_HDX, 0)] with uart := { (st []).uart with mode := false, send := none, statDue := false }, mbox := [(0, { outq := [({})] })], ports := [(1, { cur := some 0 })] }, 0, {}, [], by decide +kernel⟩,
   ⟨{ st [] with uart := { (st []).uart with mode := false }, mbox := [(1, { outq := [({ alive := 255 })] })], ports := [(1, { cur := some 1, sent := true })], parts := [(1, { desc := { port := 1 } })] }, 31, 1, { alive := 255 }, [], by decide +kernel⟩,
   ⟨{ st [] with uart := { (st []).uart with mode := false } }, by decide +kernel⟩,
   ⟨{ st [] with uart := { (st []).uart with mode := false } }, by decide +kernel⟩,
   ⟨{ st [] with uart := { (st []).uart with mode := true } }, by decide +kernel⟩,
   ⟨{ st [] with uart := { (st []).uart with mode := true } }, by decide +kernel⟩,
   ⟨{ st [] with pwr := { (st []).pwr with sleep := some .deep } }, by decide +kernel⟩,
   ⟨{ st [(UART_CTL_HDX, 0), (UART_MSGCFG_ACKTO, 1)] with uart := { (st []).uart with mode := false, send := none, statDue := false }, mbox := [(0, { outq := [({})] })], ports := [(1, { cur := some 0, sent := true })], tbs := { (st []).tbs with now := 64 * 1000 * (st []).get UART_MSGCFG_ACKTO } }, 0, {}, [], by decide +kernel⟩,
   ⟨st [(UART_MSGCFG_ACKTO, 0)], by decide +kernel⟩,
   ⟨{ st [] with uart := { (st []).uart with send := some .msg, statDue := false, again := false, mode := false }, ports := [(1, { cur := some 0 })] }, 0, by decide +kernel⟩⟩

theorem test_meets_UartFramesAndCharactersAct_2 :
    (∃ s : State, (s.uartHears = true) ∧ (s.uart.mode = true) ∧ (s.uart.rxq.length < 32)) ∧
    (∃ s : State, (s.uartHears = true) ∧ (s.uart.mode = true) ∧ (32 ≤ s.uart.rxq.length)) ∧
    (∃ s : State, ∃ p : Fin 32, (s.get UART_CTL_TPART = p) ∧ (s.uart.mode = true) ∧ (s.uart.txq.length < 32)) ∧
    (∃ s : State, ∃ p : Fin 32, (s.get UART_CTL_TPART = p) ∧ (s.uart.mode = true) ∧ (32 ≤ s.uart.txq.length)) ∧
    (∃ s : State, ∃ p : Fin 32, (s.get UART_CTL_TPART ≠ p)) ∧
    (∃ s : State, ∃ p : Fin 32, (s.get UART_CTL_TPART ≠ p)) ∧
    (∃ s : State, ∃ p : Fin 32, (s.get UART_CTL_TPART = p)) ∧
    (∃ s : State, (s.flag UART_CTL_MODE ≠ s.uart.mode) ∧ (s.uart.txq = []) ∧ (s.flag UART_STAT_INFRAME = false)) ∧
    (∃ s : State, (s.flag UART_CTL_MODE = s.uart.mode ∨ s.uart.txq ≠ [] ∨ s.flag UART_STAT_INFRAME = true)) ∧
    (∃ s : State, ∃ w : Word, (bits w.toNat 0 16 < s.uartOs)) ∧
    (∃ s : State, ∃ w : Word, (s.uartOs ≤ bits w.toNat 0 16)) ∧
    (∃ s : State, ∃ w : Word, (s.uartOs ≤ bits w.toNat 0 16)) ∧
    (∃ s : State, ∃ w : Word, (s.get UART_DIV_INT < (if bit w.toNat 0 = true then 8 else 16) ∨ s.get UART_SHDIV_INT < (if bit w.toNat 0 = true then 8 else 16))) ∧
    (∃ s : State, (16 ≤ s.get UART_DIV_INT) ∧ (16 ≤ s.get UART_SHDIV_INT)) :=
  ⟨⟨{ st [] with uart := { (st []).uart with mode := true, rxq := List.replicate 31 { data := 1, fe := false, pe := false } } }, by decide +kernel⟩,
   ⟨{ st [] with uart := { (st []).uart with mode := true, rxq := List.replicate 32 { data := 1, fe := false, pe := false } } }, by decide +kernel⟩,
   ⟨{ st [] with uart := { (st []).uart with mode := true, txq := List.replicate 31 1 } }, 0, by decide +kernel⟩,
   ⟨{ st [] with uart := { (st []).uart with mode := true, txq := List.replicate 32 1 } }, 0, by decide +kernel⟩,
   ⟨st [], 1, by decide +kernel⟩,
   ⟨st [], 1, by decide +kernel⟩,
   ⟨st [], 0, by decide +kernel⟩,
   ⟨{ st [(UART_STAT_INFRAME, 0), (UART_CTL_MODE, 1)] with uart := { (st []).uart with txq := [] } }, by decide +kernel⟩,
   ⟨st [], by decide +kernel⟩,
   ⟨st [], 0, by decide +kernel⟩,
   ⟨st [], 16, by decide +kernel⟩,
   ⟨st [], 16, by decide +kernel⟩,
   ⟨st [(UART_DIV_INT, 15)], 0, by decide +kernel⟩,
   ⟨st [], by decide +kernel⟩⟩

theorem test_meets_UartFramesAndCharactersAct_3 :
    (∃ s : State, (s.uart.send = none)) ∧
    (∃ s : State, (s.uart.send ≠ none)) ∧
    (∃ s : State, (s.uart.send = some .char)) :=
  ⟨⟨{ st [] with uart := { (st []).uart with send := none } }, by decide +kernel⟩,
   ⟨{ st [] with uart := { (st []).uart with send := some .status } }, by decide +kernel⟩,
   ⟨{ st [] with uart := { (st []).uart with send := some .char } }, by decide +kernel⟩⟩

theorem test_meets_ModesAreRequestedEnteredAndLeft_1 :
    (∃ s : State, ∃ w : Word, (s.pwr.lockdown = true ∨ ¬(bits w.toNat 0 4 = 5 ∨ 8 ≤ bits w.toNat 0 4 ∧ bits w.toNat 0 4 ≤ 11))) ∧
    (∃ s : State, ∃ w : Word, ∃ m : Sleep, (Sleep.ofNum (bits w.toNat 0 4) = some m) ∧ (s.pwr.lockdown = false) ∧ (s.pwr.entry = none) ∧ (s.pwr.boot = false) ∧ (s.anyHalted = false) ∧ (s.mode = 1 ∨ s.mode = 2 ∨ s.mode = 4 ∨ s.mode = 6) ∧ (m = .col → s.colReady = true) ∧ (m.cuts = true → s.get PWR_REQPAR_PARAM = 0)) ∧
    (∃ s : State, ∃ w : Word, (bits w.toNat 0 4 = 5) ∧ (s.pwr.lockdown = false) ∧ (s.pwr.entry = none) ∧ (s.pwr.boot = false) ∧ (s.anyHalted = false) ∧ (s.mode = 1 ∨ s.mode = 2) ∧ (s.get PWR_REQPAR_PARAM = 0)) ∧
    (∃ s : State, (s.pwr.entry = none)) ∧
    (∃ s : State, (s.pwr.entry = none)) ∧
    (∃ s : State, ∃ e : Entry, (s.pwr.entry = some e) ∧ (s.entryGo e = false)) ∧
    (∃ s : State, ∃ e : Entry, (s.pwr.entry = some e) ∧ (s.entryGo e = true)) ∧
    (∃ s : State, ∃ e : Entry, (s.pwr.entry = some e) ∧ (e.steps = false)) ∧
    (∃ s : State, ∃ e : Entry, (s.pwr.entry = some e) ∧ (e.steps = true) ∧ (e.target.cuts = false) ∧ (e.held = []) ∧ (s.wakeLevels e.target false = [])) ∧
    (∃ s : State, ∃ e : Entry, (s.pwr.entry = some e) ∧ (e.steps = true) ∧ (e.target.cuts = false) ∧ (e.held = []) ∧ (s.wakeLevels e.target false = [])) ∧
    (∃ s : State, ∃ e : Entry, (s.pwr.entry = some e) ∧ (e.steps = true) ∧ (e.target.cuts = true) ∧ (e.held = []) ∧ (s.wakeLevels e.target false = [])) ∧
    (∃ s : State, ∃ m : Sleep, (s.pwr.sleep = some m) ∧ (m.cuts = false) ∧ (s.pwr.waking = false) ∧ (s.pwr.entry = none)) ∧
    (∃ s : State, ∃ e : Entry, (s.pwr.entry = some e)) ∧
    (∃ src : Fin 8, (src = 0 ∨ src = 3 ∨ src = 4)) :=
  ⟨⟨st [], 0, by decide +kernel⟩,
   ⟨st [], 8, .sleep, by decide +kernel⟩,
   ⟨{ st [(PWR_REQPAR_PARAM, 0)] with pwr := { (st []).pwr with lockdown := false, entry := none, boot := false } }, 5, by decide +kernel⟩,
   ⟨{ st [] with pwr := { (st []).pwr with entry := none } }, by decide +kernel⟩,
   ⟨{ st [] with pwr := { (st []).pwr with entry := none } }, by decide +kernel⟩,
   ⟨{ st [(TXM_STAT_ACTIVE, 1)] with pwr := { (st []).pwr with entry := some ({ target := .sleep }) } }, { target := .sleep }, by decide +kernel⟩,
   ⟨{ st [] with pwr := { (st []).pwr with entry := some ({ target := .sleep }) } }, { target := .sleep }, by decide +kernel⟩,
   ⟨{ st [] with pwr := { (st []).pwr with entry := some ({ target := .sleep }) } }, { target := .sleep }, by decide +kernel⟩,
   ⟨{ st [] with pwr := { (st []).pwr with entry := some ({ target := .sleep, steps := true }) } }, { target := .sleep, steps := true }, by decide +kernel⟩,
   ⟨{ st [] with pwr := { (st []).pwr with entry := some ({ target := .col, steps := true }) } }, { target := .col, steps := true }, by decide +kernel⟩,
   ⟨{ st [] with pwr := { (st []).pwr with entry := some ({ target := .deep, steps := true }) } }, { target := .deep, steps := true }, by decide +kernel⟩,
   ⟨{ st [] with pwr := { (st []).pwr with sleep := some (.col), waking := false, entry := none } }, .col, by decide +kernel⟩,
   ⟨{ st [] with pwr := { (st []).pwr with entry := some ({ target := .off }) } }, { target := .off }, by decide +kernel⟩,
   ⟨0, by decide +kernel⟩⟩

theorem test_meets_ModesAreRequestedEnteredAndLeft_2 :
    (∃ s : State, ∃ m : Sleep, (s.pwr.sleep = some m) ∧ (m.cuts = false) ∧ (s.pwr.waking = false) ∧ (s.pwr.entry = none) ∧ (s.flag UART_CTL_WAKEEN = true) ∧ (s.pwr.vddio = true)) ∧
    (∃ s : State, (s.pwr.sleep = none)) ∧
    (∃ s : State, (s.pwr.waking = false)) ∧
    (∃ s : State, (s.pwr.sleep = some .sleep) ∧ (s.pwr.waking = true) ∧ (s.flag COL_STAT_TXON = false) ∧ (s.pwr.lockdown = false) ∧ (s.pwr.tampers = []) ∧ (s.pwr.boot = false)) ∧
    (∃ s : State, ∃ m : Sleep, (s.pwr.sleep = some m) ∧ (m.cuts = false) ∧ (s.pwr.waking = true) ∧ (s.flag COL_STAT_TXON = false)) ∧
    (∃ s : State, (s.idleOk = true)) ∧
    (∃ s : State, (s.idleOk = false)) ∧
    (∃ s : State, (s.pwr.idle = true)) ∧
    (∃ s : State, (s.pwr.idle = false)) ∧
    (∃ s : State, ∃ out : Bool, (s.get PWR_CMPCFG_MODE ≠ 0) ∧ (s.pwr.sleep ≠ some .off) ∧ (s.flag PWR_CMPSTAT_OUT ≠ out)) ∧
    (∃ s : State, ∃ out : Bool, (s.get PWR_CMPCFG_MODE = 0 ∨ s.flag PWR_CMPSTAT_OUT = out)) ∧
    (∃ s : State, ∃ n : Nat, (s.pwr.lowFrom = some n) ∧ (s.flag PWR_CMPCFG_AUTOCOL = true) ∧ (s.get PWR_CMPCFG_MODE ≠ 0) ∧ (s.flag PWR_CMPSTAT_OUT = false) ∧ (s.pwr.sleep = none) ∧ (s.pwr.boot = false) ∧ (s.pwr.lockdown = false) ∧ (max n s.pwr.lowAsk + 1000000 * s.get PWR_CMPCFG_AUTODLY ≤ s.tick)) ∧
    (∃ s : State, (s.pwr.lowFrom = none ∨ s.flag PWR_CMPCFG_AUTOCOL = false)) ∧
    (∃ s : State, (s.pwr.calib = false)) :=
  ⟨⟨{ st [(UART_CTL_WAKEEN, 1)] with pwr := { (st []).pwr with sleep := some (.sleep), waking := false, entry := none, vddio := true } }, .sleep, by decide +kernel⟩,
   ⟨{ st [] with pwr := { (st []).pwr with sleep := none } }, by decide +kernel⟩,
   ⟨{ st [] with pwr := { (st []).pwr with waking := false } }, by decide +kernel⟩,
   ⟨{ st [(COL_STAT_TXON, 0)] with pwr := { (st []).pwr with sleep := some .sleep, waking := true, lockdown := false, tampers := [], boot := false } }, by decide +kernel⟩,
   ⟨{ st [(COL_STAT_TXON, 0)] with pwr := { (st []).pwr with sleep := some (.sleep), waking := true } }, .sleep, by decide +kernel⟩,
   ⟨st [], by decide +kernel⟩,
   ⟨{ st [] with pwr := { (st []).pwr with idle := true } }, by decide +kernel⟩,
   ⟨{ st [] with pwr := { (st []).pwr with idle := true } }, by decide +kernel⟩,
   ⟨{ st [] with pwr := { (st []).pwr with idle := false } }, by decide +kernel⟩,
   ⟨st [(PWR_CMPCFG_MODE, 1)], true, by decide +kernel⟩,
   ⟨st [], false, by decide +kernel⟩,
   ⟨{ st [(PWR_CMPCFG_AUTOCOL, 1), (PWR_CMPCFG_MODE, 1), (PWR_CMPSTAT_OUT, 0), (PWR_CMPCFG_MODE, 1)] with pwr := { (st []).pwr with lowFrom := some 0 }, tbs := { (st []).tbs with now := 64000000 * (st []).get PWR_CMPCFG_AUTODLY } }, 0, by decide +kernel⟩,
   ⟨st [], by decide +kernel⟩,
   ⟨{ st [] with pwr := { (st []).pwr with calib := false } }, by decide +kernel⟩⟩

theorem test_meets_ModesAreRequestedEnteredAndLeft_3 :
    ∃ s : State, (s.pwr.calib = true) :=
  ⟨{ st [] with pwr := { (st []).pwr with calib := true } }, by decide +kernel⟩

theorem test_meets_TheColLinkSniffsStoresAndSends_1 :
    (∃ s : State, (s.inCol = false)) ∧
    (∃ s : State, (s.inCol = true) ∧ (s.tick % (s.get COL_SNIFF_SPER * 1000) = 0) ∧ (s.flag COL_STAT_TXON = false)) ∧
    (∃ s : State, ∃ e : Int, (s.inCol = true) ∧ (s.flag COL_STAT_RXON = true) ∧ (s.col.search = none) ∧ (s.get COL_SNIFF_SWIN * 100 ≤ s.tick % (s.get COL_SNIFF_SPER * 1000)) ∧ (-4 * (s.get COL_RXCFG_ETHR : Int) ≤ e)) ∧
    (∃ s : State, ∃ e : Int, (s.inCol = true) ∧ (s.flag COL_STAT_RXON = true) ∧ (s.col.search = none) ∧ (s.get COL_SNIFF_SWIN * 100 ≤ s.tick % (s.get COL_SNIFF_SPER * 1000)) ∧ (e < -4 * (s.get COL_RXCFG_ETHR : Int))) ∧
    (∃ s : State, (s.inCol = true) ∧ (s.flag COL_STAT_RXON = true)) ∧
    (∃ s : State, ∃ n : Nat, (s.inCol = true) ∧ (s.col.search = some n) ∧ (n ≤ s.tick)) ∧
    (∃ s : State, ∃ phr : BitVec 24, (s.inCol = true) ∧ (s.flag COL_STAT_RXON = true) ∧ (phrCrc phr.toNat ≠ bits phr.toNat 16 8)) ∧
    (∃ s : State, ∃ f : RxFrame, ∃ rest : List RxFrame, (s.inCol = true) ∧ (s.col.frames = f :: rest) ∧ (s.get COL_WAKECRIT_AGEMAX ≠ 0) ∧ (f.stamp / 64 + s.get COL_WAKECRIT_AGEMAX * 1000000 ≤ s.tick) ∧ (s.pwr.waking = false)) ∧
    (∃ s : State, (s.inCol = true) ∧ (s.get COL_TX_BDIV = 0)) ∧
    (∃ s : State, (s.inCol = true) ∧ (s.get COL_TX_BDIV ≠ 0) ∧ (s.col.due = none)) ∧
    (∃ s : State, ∃ b : Nat, (s.inCol = true) ∧ (s.get COL_TX_BDIV ≠ 0) ∧ (s.col.due = some b) ∧ (∀ p ∈ s.live, s.flag (AIR_BCNP_EN.at p) = false)) ∧
    (∃ s : State, ∃ id : Nat, ∃ x : Tx, (s.inCol = true) ∧ (s.txFind id = some x) ∧ (x.stage = .fixed) ∧ (x.t0 ≤ s.tbs.now + 6400) ∧ (s.fixedLbt x = false) ∧ (s.colGrant x = true)) ∧
    (∃ s : State, ∃ id : Nat, ∃ x : Tx, (s.inCol = true) ∧ (s.txFind id = some x) ∧ (x.stage ≠ .fixed ∨ s.tbs.now + 6400 < x.t0)) ∧
    (∃ s : State, ∃ id : Nat, ∃ x : Tx, (s.inCol = true) ∧ (s.txFind id = some x) ∧ (x.stage = .fixed) ∧ (x.t0 ≤ s.tbs.now + 6400) ∧ (s.colGrant x = false)) :=
  ⟨⟨st [], by decide +kernel⟩,
   ⟨stCe [(COL_STAT_TXON, 0)], by decide +kernel⟩,
   ⟨{ stCe [(COL_STAT_RXON, 1)] with col := { (st []).col with search := none }, tbs := { (st []).tbs with now := 6400 * (st []).get COL_SNIFF_SWIN } }, -4 * ((st []).get COL_RXCFG_ETHR : Int), by decide +kernel⟩,
   ⟨{ stCe [(COL_STAT_RXON, 1)] with col := { (st []).col with search := none }, tbs := { (st []).tbs with now := 6400 * (st []).get COL_SNIFF_SWIN } }, -4 * ((st []).get COL_RXCFG_ETHR : Int) - 1, by decide +kernel⟩,
   ⟨stCe [(COL_STAT_RXON, 1)], by decide +kernel⟩,
   ⟨{ stCe [] with col := { (st []).col with search := some 0 } }, 0, by decide +kernel⟩,
   ⟨stCe [(COL_STAT_RXON, 1)], 1, by decide +kernel⟩,
   ⟨{ stCe [(COL_WAKECRIT_AGEMAX, 1), (COL_WAKECRIT_AGEMAX, 1)] with col := { (st []).col with frames := ({}) :: ([]) }, tbs := { (st []).tbs with now := 64000000 } }, {}, [], by decide +kernel⟩,
   ⟨stCe [(COL_TX_BDIV, 0), (COL_TX_BDIV, 0)], by decide +kernel⟩,
   ⟨{ stCe [(COL_TX_BDIV, 1)] with col := { (st []).col with due := none } }, by decide +kernel⟩,
   ⟨{ stCe [(COL_TX_BDIV, 1)] with col := { (st []).col with due := some 0 } }, 0, by decide +kernel⟩,
   ⟨{ stCe [] with txs := [({ stage := .fixed, t0 := 6400 })], air := { (st []).air with prof := some prof1 } }, 0, { stage := .fixed, t0 := 6400 }, by decide +kernel⟩,
   ⟨{ stCe [] with txs := [({ stage := .fixed, t0 := 6401 })] }, 0, { stage := .fixed, t0 := 6401 }, by decide +kernel⟩,
   ⟨{ stCe [] with txs := [({ stage := .fixed, t0 := 6400, freq := 1 })] }, 0, { stage := .fixed, t0 := 6400, freq := 1 }, by decide +kernel⟩⟩

theorem test_meets_TheColLinkSniffsStoresAndSends_2 :
    (∃ s : State, (s.inCol = true) ∧ (s.tick % 2 ^ 32 = s.get COL_CETMR_TICK) ∧ (s.col.ceAt ≠ some s.tick)) ∧
    (∃ s : State, (s.tick % 2 ^ 32 ≠ s.get COL_CETMR_TICK ∨ s.col.ceAt = some s.tick)) :=
  ⟨⟨stCe [(COL_CETMR_TICK, 0)], by decide +kernel⟩,
   ⟨stCe [(COL_CETMR_TICK, 1)], by decide +kernel⟩⟩

theorem test_meets_DomainsSuppliesAndPinsFollow_1 :
    (∃ s : State, ∃ n : Fin 16, (s.domWakes n = false)) ∧
    (∃ s : State, ∃ n : Fin 16, (s.domWakes n = true) ∧ (s.domOn n = false) ∧ (s.domBusy n = false)) ∧
    (∃ s : State, ∃ n : Fin 16, (s.domWakes n = true) ∧ (s.domOn n = true) ∧ (n.val ∈ s.ret.drain)) ∧
    (∃ s : State, ∃ n : Fin 16, (s.domWakes n = true) ∧ (s.domOn n = true) ∧ (n.val ∉ s.ret.drain)) ∧
    (∃ s : State, ∃ n : Fin 16, (s.domOn n = false) ∧ (s.domBusy n = true)) ∧
    (∃ s : State, ∃ n : Fin 16, (s.domOn n = true ∨ s.domBusy n = false)) ∧
    (∃ s : State, ∃ n : Fin 16, (s.domOn n = true) ∧ (s.domBusy n = false) ∧ (s.domAuto n = true) ∧ (s.domReach n = false) ∧ (s.domWork n = false) ∧ (s.pwr.sleep = none)) ∧
    (∃ s : State, ∃ n : Fin 16, (s.domAuto n = false ∨ s.domReach n = true ∨ s.domWork n = true)) ∧
    (∃ s : State, ∃ n : Fin 16, (n.val ∉ s.ret.drain)) ∧
    (∃ s : State, ∃ n : Fin 16, (n.val ∈ s.ret.drain)) ∧
    (∃ s : State, ∃ n : Fin 16, (n.val ∈ s.ret.drain)) ∧
    (∃ s : State, (s.ret.shed = true ∨ s.pwr.held = true)) ∧
    (∃ s : State, (s.ret.shed = false) ∧ (s.pwr.held = false) ∧ (s.pwr.sleep ≠ some .deep) ∧ (s.pwr.sleep ≠ some .off)) ∧
    (∃ s : State, (s.ret.shed = false)) :=
  ⟨⟨{ st [] with pwr := { (st []).pwr with sleep := some .sleep } }, 0, by decide +kernel⟩,
   ⟨st [], 2, by decide +kernel⟩,
   ⟨{ st [] with ret := { (st []).ret with drain := [0] } }, 0, by decide +kernel⟩,
   ⟨st [], 0, by decide +kernel⟩,
   ⟨st [(RET_DOMSTAT_BUSY, 0x8000)], 15, by decide +kernel⟩,
   ⟨st [], 0, by decide +kernel⟩,
   ⟨{ st [] with pwr := { (st []).pwr with sleep := none } }, 9, by decide +kernel⟩,
   ⟨st [], 0, by decide +kernel⟩,
   ⟨st [], 0, by decide +kernel⟩,
   ⟨{ st [] with ret := { (st []).ret with drain := [0] } }, 0, by decide +kernel⟩,
   ⟨{ st [] with ret := { (st []).ret with drain := [0] } }, 0, by decide +kernel⟩,
   ⟨{ st [] with ret := { (st []).ret with shed := true } }, by decide +kernel⟩,
   ⟨{ st [] with ret := { (st []).ret with shed := false }, pwr := { (st []).pwr with held := false } }, by decide +kernel⟩,
   ⟨{ st [] with ret := { (st []).ret with shed := false } }, by decide +kernel⟩⟩

theorem test_meets_DomainsSuppliesAndPinsFollow_2 :
    (∃ s : State, (s.ret.shed = true)) ∧
    (∃ s : State, (s.flag RET_VCORE_SLEW = true) ∧ (s.vcore = s.get RET_VCORE_TARGET)) ∧
    (∃ s : State, (s.flag RET_VCORE_SLEW = false)) ∧
    (∃ s : State, (s.flag RET_BIAS_CHANGING = false)) ∧
    (∃ s : State, (s.flag RET_BIAS_CHANGING = true) ∧ (s.get RET_VCORE_TARGET = s.get RET_VCORE_PRESENT) ∧ (s.ret.biasOn = true ∨ rbbFor (s.get RET_VCORE_TARGET) = 0)) ∧
    (∃ s : State, (s.flag RET_BIAS_CHANGING = true) ∧ (s.get RET_VCORE_PRESENT < s.get RET_VCORE_TARGET) ∧ (s.ret.biasOn = true)) ∧
    (∃ s : State, (s.flag RET_BIAS_CHANGING = true) ∧ (s.get RET_VCORE_TARGET ≠ s.get RET_VCORE_PRESENT) ∧ (s.ret.biasOn = false)) ∧
    (∃ s : State, ∃ w : Word, (s.gpRefused w.toNat = true)) ∧
    (∃ s : State, ∃ w : Word, (s.gpRefused w.toNat = false)) ∧
    (∃ s : State, ∃ x : Tx, (s.txAir = some x) ∧ (68 < x.power) ∧ (s.get TXM_STAT_SUPPLY ≠ 2)) ∧
    (∃ s : State, (s.get TXM_STAT_SUPPLY ≠ 2)) ∧
    (∃ s : State, (s.get TXM_STAT_SUPPLY = 2)) ∧
    (∃ s : State, (s.paDriven = false)) ∧
    (∃ s : State, ∃ x : Tx, (s.paDriven = true) ∧ (s.txAir = some x)) :=
  ⟨⟨{ st [] with ret := { (st []).ret with shed := true } }, by decide +kernel⟩,
   ⟨st [(RET_VCORE_SLEW, 1)], by decide +kernel⟩,
   ⟨st [(RET_VCORE_SLEW, 0)], by decide +kernel⟩,
   ⟨st [(RET_BIAS_CHANGING, 0)], by decide +kernel⟩,
   ⟨st [(RET_BIAS_CHANGING, 1)], by decide +kernel⟩,
   ⟨{ st [(RET_BIAS_CHANGING, 1), (RET_VCORE_TARGET, 951)] with ret := { (st []).ret with biasOn := true } }, by decide +kernel⟩,
   ⟨{ st [(RET_BIAS_CHANGING, 1), (RET_VCORE_TARGET, 951)] with ret := { (st []).ret with biasOn := false } }, by decide +kernel⟩,
   ⟨st [], 5, by decide +kernel⟩,
   ⟨st [], 0, by decide +kernel⟩,
   ⟨{ st [(TXM_STAT_SUPPLY, 0)] with txs := [({ stage := .onAir, power := 69 })] }, { stage := .onAir, power := 69 }, by decide +kernel⟩,
   ⟨st [], by decide +kernel⟩,
   ⟨st [(TXM_STAT_SUPPLY, 2)], by decide +kernel⟩,
   ⟨st [], by decide +kernel⟩,
   ⟨{ st [(TXM_STAT_PHASE, 2)] with txs := [({ stage := .onAir })] }, { stage := .onAir }, by decide +kernel⟩⟩

theorem test_meets_DomainsSuppliesAndPinsFollow_3 :
    (∃ s : State, (s.get TMP_LCSTAT_LC = 1)) ∧
    (∃ s : State, ∃ w : Word, (s.get TMP_LCSTAT_LC = 0) ∧ (w.toNat % 256 ≠ 0) ∧ (w.toNat % 256 ≤ s.get SYS_ID_MAXGEN) ∧ (∀ m ∈ s.minGens, m ≤ w.toNat % 256)) ∧
    (∃ s : State, ∃ w : Word, (s.get TMP_LCSTAT_LC = 0) ∧ ((∃ m ∈ s.minGens, w.toNat % 256 < m) ∨ w.toNat % 256 = 0)) :=
  ⟨⟨st [(TMP_LCSTAT_LC, 1)], by decide +kernel⟩,
   ⟨st [(TMP_LCSTAT_LC, 0)], 1, by decide +kernel⟩,
   ⟨st [(TMP_LCSTAT_LC, 0)], 0, by decide +kernel⟩⟩

theorem test_meets_CalibrationAndTheNvmKeepTheirRecords_1 :
    (∃ s : State, (s.pwr.boot = true ∨ s.pwr.lockdown = true)) ∧
    (∃ s : State, ∃ raw : BitVec 12, ∃ tj : Int, (tj = s.get16 CAL_TSENS_TSOFS + roundQ ((4 * s.get CAL_TSENS_TSSLOPE * raw.toNat : Nat) / 65536)) ∧ (s.pwr.boot = false) ∧ (s.pwr.lockdown = false) ∧ (s.pwr.held = false) ∧ (s.pwr.sleep ≠ some .deep) ∧ (s.pwr.sleep ≠ some .off) ∧ (s.get TMP_POLICY_TEMP = 0)) ∧
    (∃ s : State, (s.svHalted = true ∨ s.radioOff = true ∨ s.cal.step.isSome = true)) ∧
    (∃ s : State, (s.svHalted = true ∨ s.radioOff = true ∨ s.cal.step.isSome = true)) ∧
    (∃ s : State, (s.calNext = none) ∧ (s.cal.run = none)) ∧
    (∃ s : State, ∃ i : Nat, (s.calNext = some i) ∧ (i < 2) ∧ (s.calMay i = true) ∧ (s.calRoom = true) ∧ (s.svHalted = false) ∧ (s.radioOff = false) ∧ (s.pwr.entry = none) ∧ (s.cal.step = none) ∧ (s.cal.run = none)) ∧
    (∃ s : State, (s.calNext = some 2) ∧ (s.calMay 2 = true) ∧ (s.calRoom = true) ∧ (s.svHalted = false) ∧ (s.radioOff = false) ∧ (s.pwr.entry = none) ∧ (s.cal.step = none) ∧ (s.cal.run = none)) ∧
    (∃ s : State, ∃ i : Nat, (s.calNext = some i) ∧ (i < 2) ∧ (s.calMay i = false) ∧ (s.combined = false) ∧ (s.svHalted = false) ∧ (s.radioOff = false) ∧ (s.pwr.entry = none) ∧ (s.cal.step = none) ∧ (s.cal.run = none)) ∧
    (∃ s : State, (s.cal.run = none ∨ s.cal.step = none)) ∧
    (∃ s : State, ∃ r : CalRun, ∃ st : CalStep, (s.cal.run = some r) ∧ (s.cal.step = some st) ∧ (r.item < 2) ∧ (r.done = 1)) ∧
    (∃ s : State, ∃ r : CalRun, ∃ st : CalStep, (s.cal.run = some r) ∧ (s.cal.step = some st) ∧ (r.item < 2) ∧ (r.done = 8)) ∧
    (∃ s : State, ∃ i : Nat, (s.calNext = some i) ∧ (i < 2) ∧ (s.calRoom = true) ∧ (s.calMay i = false) ∧ (s.combined = false) ∧ (s.svHalted = false) ∧ (s.radioOff = false) ∧ (s.pwr.entry = none) ∧ (s.cal.step = none) ∧ (Tab.get 0 s.cal.dueAt i + s.get CAL_DEFER_MAXDEFER * 60000000 ≤ s.tick)) ∧
    (∃ n : Fin 4, (n.val < 3)) ∧
    (∃ s : State, (s.flag CAL_CTL_EN = true) ∧ (s.cal.run = none) ∧ (∀ i < 3, s.flag (CAL_ITEMn_PEND i) = false)) :=
  ⟨⟨{ st [] with pwr := { (st []).pwr with lockdown := true } }, by decide +kernel⟩,
   ⟨{ st [(TMP_POLICY_TEMP, 0)] with pwr := { (st []).pwr with boot := false, lockdown := false, held := false } }, 0, 0, by decide +kernel⟩,
   ⟨{ st [] with progs := [(32, { halted := true })] }, by decide +kernel⟩,
   ⟨{ st [] with progs := [(32, { halted := true })] }, by decide +kernel⟩,
   ⟨{ st [] with cal := { (st []).cal with run := none } }, by decide +kernel⟩,
   ⟨{ st [(CAL_CTL_EN, 1), (CAL_ITEMn_PEND 1, 1), (CAL_ITEMn_PEND 0, 0)] with pwr := { (st []).pwr with entry := none }, cal := { (st []).cal with step := none, run := none } }, 1, by decide +kernel⟩,
   ⟨{ st [(CAL_CTL_EN, 1), (CAL_ITEMn_PEND 1, 0), (CAL_ITEMn_PEND 0, 0), (CAL_ITEMn_PEND 2, 1), (SYNx_CTL_EN 2, 1)] with pwr := { (st []).pwr with entry := none }, cal := { (st []).cal with step := none, run := none } }, by decide +kernel⟩,
   ⟨{ stRx [(CAL_CTL_EN, 1), (CAL_ITEMn_PEND 0, 1), (CHB_CTL_EN, 1)] with pwr := { (st []).pwr with entry := none }, cal := { (st []).cal with step := none, run := none }, chb := { (st []).chb with active := some plan1 }, rx := [(0, some {})] }, 0, by decide +kernel⟩,
   ⟨st [], by decide +kernel⟩,
   ⟨{ st0 [] with cal := { run := some { item := 0, done := 1 }, step := some { item := 0 } } }, { item := 0, done := 1 }, { item := 0 }, by decide +kernel⟩,
   ⟨{ st0 [] with cal := { run := some { item := 1, done := 8 }, step := some { item := 1 } } }, { item := 1, done := 8 }, { item := 1 }, by decide +kernel⟩,
   ⟨{ stRx [(CAL_CTL_EN, 1), (CAL_ITEMn_PEND 0, 1), (CHB_CTL_EN, 1), (CAL_DEFER_MAXDEFER, 0)] with pwr := { (st []).pwr with entry := none }, cal := { (st []).cal with step := none }, chb := { (st []).chb with active := some plan1 }, rx := [(0, some {})] }, 0, by decide +kernel⟩,
   ⟨0, by decide +kernel⟩,
   ⟨{ st [(CAL_CTL_EN, 1)] with cal := { (st []).cal with run := none } }, by decide +kernel⟩⟩

theorem test_meets_CalibrationAndTheNvmKeepTheirRecords_2 :
    (∃ s : State, (NvReq.calRecord ∈ s.nvq)) ∧
    (∃ s : State, (NvReq.calRecord ∉ s.nvq)) ∧
    (∃ s : State, ∃ k : Nat, (s.cal.fbAt = some k) ∧ (s.tick < k + 60000000)) ∧
    (∃ s : State, (s.cal.fbAt = none)) ∧
    (∃ s : State, (nvNext s.nvq ≠ some .calRecord)) ∧
    (∃ s : State, (nvNext s.nvq = some .calRecord)) ∧
    (∃ s : State, (nvNext s.nvq = some .calRecord)) ∧
    (∃ s : State, (s.cal.failAt = none)) ∧
    (∃ s : State, ∃ k : Nat, (s.svHalted = false) ∧ (s.cal.failAt = some k) ∧ (k + 600000000 ≤ s.tick)) ∧
    (∃ s : State, (nvNext s.nvq = none ∨ nvNext s.nvq = some .calRecord)) ∧
    (∃ s : State, ∃ g : Nat, (nvNext s.nvq = some (.gen g))) ∧
    (∃ s : State, ∃ stamp : Nat, ∃ dis : Bool, ∃ code : Nat, ∃ src : Nat, ∃ part : Nat, ∃ cls : Nat, ∃ data : List Byte, (nvNext s.nvq = some (.scree stamp dis code src part cls data))) ∧
    (∃ s : State, (s.pwr.sleep.isSome = true ∨ s.pwr.boot = true)) ∧
    (∃ s : State, (s.pwr.sleep = none) ∧ (s.pwr.boot = false)) :=
  ⟨⟨{ st [] with nvq := [.save, .calRecord] }, by decide +kernel⟩,
   ⟨st [], by decide +kernel⟩,
   ⟨{ st [] with cal := { (st []).cal with fbAt := some 1 } }, 1, by decide +kernel⟩,
   ⟨{ st [] with cal := { (st []).cal with fbAt := none } }, by decide +kernel⟩,
   ⟨st [], by decide +kernel⟩,
   ⟨{ st [] with nvq := [.calRecord] }, by decide +kernel⟩,
   ⟨{ st [] with nvq := [.calRecord] }, by decide +kernel⟩,
   ⟨{ st [] with cal := { (st []).cal with failAt := none } }, by decide +kernel⟩,
   ⟨{ st [] with cal := { (st []).cal with failAt := some 0 }, tbs := { (st []).tbs with now := 38400000000 } }, 0, by decide +kernel⟩,
   ⟨st [], by decide +kernel⟩,
   ⟨{ st [] with nvq := [.gen 2] }, 2, by decide +kernel⟩,
   ⟨{ st [] with nvq := [.scree 0 false 0 0 0 0 []] }, 0, false, 0, 0, 0, 0, [], by decide +kernel⟩,
   ⟨{ st [] with pwr := { (st []).pwr with sleep := some .sleep } }, by decide +kernel⟩,
   ⟨{ st [] with pwr := { (st []).pwr with sleep := none, boot := false } }, by decide +kernel⟩⟩

theorem test_meets_CalibrationAndTheNvmKeepTheirRecords_3 :
    (∃ s : State, (s.pwr.sleep = none) ∧ (s.pwr.boot = false)) ∧
    (∃ s : State, (s.pwr.sleep = none) ∧ (s.pwr.boot = false)) ∧
    (∃ s : State, (s.pwr.sleep = none) ∧ (s.pwr.boot = false)) ∧
    (∃ s : State, (s.tick < s.nvs.passAt + 60000000 * s.get NVC_CKCFG_CKPER ∨ s.pwr.sleep.isSome = true ∨ s.pwr.boot = true)) ∧
    (∃ s : State, (s.nvs.passAt + 60000000 * s.get NVC_CKCFG_CKPER ≤ s.tick) ∧ (s.pwr.sleep = none) ∧ (s.pwr.boot = false)) :=
  ⟨⟨{ st [] with pwr := { (st []).pwr with sleep := none, boot := false } }, by decide +kernel⟩,
   ⟨{ st [] with pwr := { (st []).pwr with sleep := none, boot := false } }, by decide +kernel⟩,
   ⟨{ st [] with pwr := { (st []).pwr with sleep := none, boot := false } }, by decide +kernel⟩,
   ⟨st [], by decide +kernel⟩,
   ⟨{ st [] with pwr := { (st []).pwr with sleep := none, boot := false }, tbs := { (st []).tbs with now := 3840000000 * (st []).get NVC_CKCFG_CKPER } }, by decide +kernel⟩⟩

theorem test_meets_ResetsAndBootFollowTheirCauses :
    (∃ c : Fin 6, (c.val < 3)) ∧
    (∃ c : Fin 6, (3 ≤ c.val)) ∧
    (∃ s : State, (s.pwr.held = true)) ∧
    (∃ s : State, (s.pwr.held = false)) ∧
    (∃ s : State, (s.clk.xo ≠ .start)) ∧
    (∃ s : State, (s.clk.xo = .start) ∧ (s.pwr.bootFrom ≠ some .off)) ∧
    (∃ s : State, (s.pwr.svDog + 100000 ≤ s.tick) ∧ (s.svHalted = false) ∧ (s.pwr.held = false) ∧ (s.pwr.sleep = none)) ∧
    (∃ s : State, (s.tick < s.pwr.svDog + 100000 ∨ s.svHalted = true)) ∧
    (∃ s : State, (s.pwr.boot = false ∨ s.pwr.held = true ∨ s.clk.xo ≠ .run ∨ s.flag TMP_LCSTAT_RECOVERY = true)) ∧
    (∃ s : State, ∃ imgOk : Bool, (s.pwr.boot = true) ∧ (s.pwr.held = false) ∧ (s.clk.xo = .run) ∧ (s.flag TMP_LCSTAT_RECOVERY = false) ∧ ((s.svChoose (s.bootGen (decide (s.pwr.bootFrom = some .deep) && imgOk))).1 = true)) ∧
    (∃ s : State, ∃ imgOk : Bool, (s.pwr.boot = true) ∧ (s.pwr.held = false) ∧ (s.clk.xo = .run) ∧ (s.flag TMP_LCSTAT_RECOVERY = false) ∧ ((s.svChoose (s.bootGen (decide (s.pwr.bootFrom = some .deep) && imgOk))).1 = false)) ∧
    (∃ s : State, (s.pwr.sleep.isSome = true ∨ s.clk.xo ≠ .run)) ∧
    (∃ s : State, (s.pwr.sleep = none) ∧ (s.clk.xo = .run) ∧ (s.get TMP_POLICY_CLOCK = 0)) ∧
    (∃ s : State, (s.pwr.sleep = none) ∧ (s.clk.xo = .run) ∧ (s.get TMP_POLICY_CLOCK = 1) ∧ (s.pwr.held = false) ∧ (s.pwr.boot = false) ∧ (s.pexists 0 = true)) :=
  ⟨⟨2, by decide +kernel⟩,
   ⟨5, by decide +kernel⟩,
   ⟨{ st [] with pwr := { (st []).pwr with held := true } }, by decide +kernel⟩,
   ⟨{ st [] with pwr := { (st []).pwr with held := false } }, by decide +kernel⟩,
   ⟨st [], by decide +kernel⟩,
   ⟨{ st [] with clk := { (st []).clk with xo := .start } }, by decide +kernel⟩,
   ⟨{ st [] with pwr := { (st []).pwr with svDog := 0, boot := false }, tbs := { (st []).tbs with now := 6400000 } }, by decide +kernel⟩,
   ⟨st [], by decide +kernel⟩,
   ⟨st [], by decide +kernel⟩,
   ⟨{ st [(TMP_LCSTAT_RECOVERY, 0)] with pwr := { (st []).pwr with boot := true, held := false }, clk := { (st []).clk with xo := .run } }, false, by decide +kernel⟩,
   ⟨{ State.reset with clk := { State.reset.clk with xo := .run }, sysImg := [] }, false, by decide +kernel⟩,
   ⟨{ st [] with clk := { (st []).clk with xo := .stopped } }, by decide +kernel⟩,
   ⟨{ st [(TMP_POLICY_CLOCK, 0)] with pwr := { (st []).pwr with sleep := none }, clk := { (st []).clk with xo := .run } }, by decide +kernel⟩,
   ⟨{ st [(TMP_POLICY_CLOCK, 1), (PRT_PSTATp_STATE 0, 2)] with pwr := { (st []).pwr with sleep := none, held := false, boot := false }, clk := { (st []).clk with xo := .run } }, by decide +kernel⟩⟩

theorem test_meets_LifecycleAndTamperAct_1 :
    (∃ s : State, (s.tmp.pkg.kind.isSome = true)) ∧
    (∃ s : State, (s.tmp.pkg.kind = none)) ∧
    (∃ s : State, (s.tmp.pkg.kind ≠ some .commission ∨ s.svHalted = true)) ∧
    (∃ s : State, (s.svHalted = false) ∧ (s.tmp.pkg.kind = some .commission) ∧ ((commVerdict (s.get TMP_LCSTAT_LC) s.tmp.pkg.octs).1 ≠ .done)) ∧
    (∃ s : State, (s.tmp.pkg.kind = none)) ∧
    (∃ s : State, (s.tmp.pkg.kind = none)) ∧
    (∃ s : State, (s.tmp.pkg.kind = none) ∧ (s.get TMP_LCSTAT_LC ≠ 1)) ∧
    (∃ s : State, (s.tmp.pkg.kind ≠ some .exporting ∨ s.flag TMP_PKGSTAT_READY = true ∨ s.tmp.pkg.octs.length ≤ s.tmp.pkg.pos)) ∧
    (∃ s : State, (s.svHalted = false) ∧ (s.tmp.pkg.kind = some .exporting) ∧ (s.flag TMP_PKGSTAT_READY = false) ∧ (s.tmp.pkg.pos < s.tmp.pkg.octs.length)) ∧
    (∃ s : State, (s.tmp.pkg.kind = none)) ∧
    (∃ s : State, (s.tmp.pkg.kind = none ∨ s.tmp.pkg.kind = some .commission)) ∧
    (∃ s : State, (s.tmp.pkg.kind = none ∨ s.tmp.pkg.kind = some .commission)) ∧
    (∃ s : State, (s.tmp.pkg.kind = some .importing)) ∧
    (∃ s : State, (s.tmp.pkg.kind = some .exporting) ∧ (s.flag TMP_PKGSTAT_READY = true) ∧ (s.flag TMP_PKGSTAT_LAST = false)) :=
  ⟨⟨{ st [] with tmp := { pkg := { kind := some .importing } } }, by decide +kernel⟩,
   ⟨st [], by decide +kernel⟩,
   ⟨st [], by decide +kernel⟩,
   ⟨{ st [] with tmp := { pkg := { kind := some .commission } } }, by decide +kernel⟩,
   ⟨st [], by decide +kernel⟩,
   ⟨st [], by decide +kernel⟩,
   ⟨st [], by decide +kernel⟩,
   ⟨st [], by decide +kernel⟩,
   ⟨{ st [(TMP_PKGSTAT_READY, 0)] with tmp := { pkg := { kind := some .exporting, octs := [1] } } }, by decide +kernel⟩,
   ⟨st [], by decide +kernel⟩,
   ⟨st [], by decide +kernel⟩,
   ⟨st [], by decide +kernel⟩,
   ⟨{ st [] with tmp := { pkg := { kind := some .importing } } }, by decide +kernel⟩,
   ⟨{ st [(TMP_PKGSTAT_READY, 1), (TMP_PKGSTAT_LAST, 0)] with tmp := { pkg := { kind := some .exporting } } }, by decide +kernel⟩⟩

theorem test_meets_LifecycleAndTamperAct_2 :
    (∃ s : State, (s.tmp.pkg.kind = some .exporting) ∧ (s.flag TMP_PKGSTAT_READY = true) ∧ (s.flag TMP_PKGSTAT_LAST = true)) ∧
    (∃ s : State, (s.tmp.pkg.kind = some .exporting)) ∧
    (∃ s : State, (s.tmp.pkg.kind = some .exporting)) ∧
    (∃ s : State, (s.tmp.pkg.kind = some .importing)) ∧
    (∃ s : State, (s.svHalted = true ∨ s.tmp.pkg.kind ≠ some .importing ∨ s.tmp.pkg.octs.length < 192 ∨ s.tmp.pkg.octs.length < pkgLength s.tmp.pkg.octs)) ∧
    (∃ s : State, (s.svHalted = false) ∧ (s.tmp.pkg.kind = some .importing) ∧ (192 ≤ s.tmp.pkg.octs.length) ∧ (pkgLength s.tmp.pkg.octs ≤ s.tmp.pkg.octs.length)) ∧
    (∃ s : State, ∃ src : Fin 5, (s.policy src = 0)) ∧
    (∃ s : State, ∃ src : Fin 5, (s.watched src = true) ∧ (s.pwr.sleep = none) ∧ (s.pwr.boot = false) ∧ (s.policy src = 1) ∧ (s.pexists 0 = true)) ∧
    (∃ s : State, ∃ src : Fin 5, (s.watched src = true) ∧ (s.pwr.sleep = none) ∧ (s.pwr.boot = false) ∧ (s.pwr.lockdown = false) ∧ (s.policy src = 2)) ∧
    (∃ s : State, ∃ src : Fin 5, (s.watched src = true) ∧ (s.pwr.sleep = none) ∧ (s.pwr.boot = false) ∧ (s.policy src = 3)) ∧
    (∃ s : State, ∃ src : Fin 5, (s.watched src = true) ∧ (s.pwr.sleep = some .sleep) ∧ (s.pwr.waking = false)) ∧
    (∃ s : State, (s.watched 0 = false ∨ s.pwr.sleep = some .deep)) ∧
    (∃ s : State, (s.watched 0 = true) ∧ (s.pwr.sleep ≠ some .deep) ∧ (s.get TMP_LOOPCFG_LOOPN ≠ 0)) ∧
    (∃ s : State, (s.watched 0 = true) ∧ (s.pwr.sleep ≠ some .deep) ∧ (s.tmp.loopBad + 1 < s.get TMP_LOOPCFG_LOOPN) ∧ (s.tmp.loopBad < 255)) :=
  ⟨⟨{ st [(TMP_PKGSTAT_READY, 1), (TMP_PKGSTAT_LAST, 1)] with tmp := { pkg := { kind := some .exporting } } }, by decide +kernel⟩,
   ⟨{ st [] with tmp := { pkg := { kind := some .exporting } } }, by decide +kernel⟩,
   ⟨{ st [] with tmp := { pkg := { kind := some .exporting } } }, by decide +kernel⟩,
   ⟨{ st [] with tmp := { pkg := { kind := some .importing } } }, by decide +kernel⟩,
   ⟨st [], by decide +kernel⟩,
   ⟨{ st [] with tmp := { pkg := { kind := some .importing, octs := List.replicate 192 0 } } }, by decide +kernel⟩,
   ⟨st [(TMP_POLICY_AUTHF, 0)], 4, by decide +kernel⟩,
   ⟨{ st [(PRT_PSTATp_STATE 0, 2), (TMP_POLICY_TEMP, 1)] with pwr := { (st []).pwr with sleep := none, boot := false } }, 3, by decide +kernel⟩,
   ⟨{ st [(TMP_POLICY_TEMP, 2)] with pwr := { (st []).pwr with sleep := none, boot := false, lockdown := false } }, 3, by decide +kernel⟩,
   ⟨{ st [(TMP_POLICY_GLITCH, 3)] with pwr := { (st []).pwr with sleep := none, boot := false } }, 1, by decide +kernel⟩,
   ⟨{ st [] with pwr := { (st []).pwr with sleep := some .sleep, waking := false } }, 0, by decide +kernel⟩,
   ⟨{ st [] with pwr := { (st []).pwr with sleep := some .deep } }, by decide +kernel⟩,
   ⟨st [(TMP_LOOPCFG_LOOPN, 1)], by decide +kernel⟩,
   ⟨st [], by decide +kernel⟩⟩

theorem test_meets_LifecycleAndTamperAct_3 :
    (∃ s : State, (s.watched 0 = true) ∧ (s.pwr.sleep = none) ∧ (s.pwr.boot = false) ∧ (s.policy 0 = 1) ∧ (s.tmp.loopBad + 1 = s.get TMP_LOOPCFG_LOOPN) ∧ (s.tmp.loopBad < 255)) ∧
    (∃ s : State, ∃ w : Word, (∃ F ∈ policyFlds, bits w.toNat F.lo F.w < s.get F)) ∧
    (∃ s : State, ∃ w : Word, (∀ F ∈ policyFlds, s.get F ≤ bits w.toNat F.lo F.w)) :=
  ⟨⟨{ st [(TMP_LOOPCFG_LOOPN, 1), (TMP_POLICY_LOOP, 1)] with pwr := { (st []).pwr with sleep := none, boot := false } }, by decide +kernel⟩,
   ⟨st [], 0, by decide +kernel⟩,
   ⟨st [], 0xFFFFFFFF, by decide +kernel⟩⟩

theorem test_meets_LifecycleAndTamperAct_c5 (o : List Byte) (h : (commVerdict 0 o).1 = .done) : ∃ s : State, s.svHalted = false ∧
    s.tmp.pkg.kind = some .commission ∧ (commVerdict (s.get TMP_LCSTAT_LC) s.tmp.pkg.octs).1 = .done :=
  ⟨{ st [] with tmp := { pkg := { kind := some .commission, octs := o } } }, rfl, rfl, h⟩
theorem test_meets_LifecycleAndTamperAct_c9 (z : List Byte) (h : Config.ecdh (List.replicate 64 0) = some z) : ∃ s : State, s.tmp.pkg.kind = none ∧
    s.get TMP_LCSTAT_LC = 1 ∧ Config.ecdh (s.pkgBuf 64) = some z :=
  ⟨st [(TMP_LCSTAT_LC, 1)], rfl, by decide +kernel, h⟩

theorem test_meets_DebugSessionsOpenAndClose_1 :
    (∃ s : State, (s.dbgUp = false)) ∧
    (∃ s : State, ∃ o : List Byte, ∃ e : Instr × Nat, (e ∈ [(Instr.dbgIdent o, 0), (.dbgChallenge o, 1), (.dbgClose o, 0), (.dbgHalt o, 1), (.dbgRun o, 1), (.dbgStep o, 1), (.dbgCstat o, 1), (.dbgRead o, 7), (.dbgCread o, 1), (.dbgCwrite o, 6), (.dbgBreak o, 7), (.dbgWatch o, 8), (.dbgReset o, 0)]) ∧ (s.dbgUp = true) ∧ (o.length ≠ e.2)) ∧
    (∃ s : State, ∃ o : List Byte, ∃ e : Instr × Nat, (e ∈ [(Instr.dbgClose o, 0), (.dbgHalt o, 1), (.dbgRun o, 1), (.dbgStep o, 1), (.dbgCstat o, 1), (.dbgRead o, 7), (.dbgCread o, 1), (.dbgCwrite o, 6), (.dbgBreak o, 7), (.dbgWatch o, 8), (.dbgReset o, 0)]) ∧ (s.dbgUp = true) ∧ (s.pwr.boot = false) ∧ (s.pwr.lockdown = false) ∧ (s.dbg.scope = none) ∧ (o.length = e.2)) ∧
    (∃ s : State, (s.dbgUp = true)) ∧
    (∃ s : State, ∃ c : Byte, (s.dbgUp = true) ∧ (s.dbgScope c.toNat = false)) ∧
    (∃ s : State, ∃ c : Byte, (s.dbgUp = true) ∧ (s.dbgScope c.toNat = true) ∧ (s.dbgLocked = true)) ∧
    (∃ s : State, ∃ c : Byte, (s.dbgUp = true) ∧ (s.dbgScope c.toNat = true) ∧ (s.dbgLocked = false)) ∧
    (∃ s : State, ∃ o : List Byte, ∃ c : Byte, (s.dbgUp = true) ∧ (s.dbg.chal = none) ∧ (o.length = (if c = 0x21 then 80 else 16))) ∧
    (∃ s : State, ∃ o : List Byte, ∃ c : Byte, ∃ h : Chal, (s.dbgUp = true) ∧ (s.dbg.chal = some h) ∧ (o.length = (if c = 0x21 then 80 else 16)) ∧ (s.dbgScope c.toNat = false ∨ h.at_ + 10000000 ≤ s.tick ∨ s.tokenOk h c.toNat o = false) ∧ (s.policy 4 = 0)) ∧
    (∃ s : State, ∃ x : Nat, (s.session x)) ∧
    (∃ s : State, ∃ x : Nat, (s.session x) ∧ (x < 32)) ∧
    (∃ s : State, ∃ x : Nat, (s.session x) ∧ (32 ≤ x)) ∧
    (∃ s : State, (s.dbgUp = true)) ∧
    (∃ s : State, ∃ c : Byte, (s.dbgUp = true) ∧ (c.toNat ∉ dbgCmds)) :=
  ⟨⟨{ st [] with pwr := { (st []).pwr with sleep := some .deep } }, by decide +kernel⟩,
   ⟨st [], [1], (.dbgReset [1], 0), by decide +kernel⟩,
   ⟨{ st [] with pwr := { (st []).pwr with boot := false, lockdown := false }, dbg := { (st []).dbg with scope := none } }, List.replicate 8 0, (.dbgWatch (List.replicate 8 0), 8), by decide +kernel⟩,
   ⟨st [], by decide +kernel⟩,
   ⟨st [], 0x22, by decide +kernel⟩,
   ⟨{ st [] with dbg := { failAt := some 1 } }, 0x21, by decide +kernel⟩,
   ⟨st [(PRT_PSTATp_STATE 31, 2)], 31, by decide +kernel⟩,
   ⟨{ st [] with dbg := { (st []).dbg with chal := none } }, List.replicate 16 0, 0x22, by decide +kernel⟩,
   ⟨{ st [(TMP_POLICY_AUTHF, 0)] with dbg := { chal := some ({ scope := 0x20, octs := [], at_ := 0 }) } }, List.replicate 16 0, 0x22, { scope := 0x20, octs := [], at_ := 0 }, by refine ⟨by decide, rfl, by decide, Or.inl (by decide), by decide⟩⟩,
   ⟨stDbg [], 0x21, by unfold Machine.State.session; decide +kernel⟩,
   ⟨{ st [] with dbg := { scope := some 31 } }, 31, by unfold Machine.State.session; decide +kernel⟩,
   ⟨{ st [] with dbg := { scope := some 32 } }, 32, by unfold Machine.State.session; decide +kernel⟩,
   ⟨st [], by decide +kernel⟩,
   ⟨st [], 0, by decide +kernel⟩⟩

theorem test_meets_DebugSessionsOpenAndClose_2 :
    (∃ s : State, (s.dbg.scope = none ∨ s.tick < s.dbg.lastAt + s.get DBG_CTL_IDLETO * 1000000)) ∧
    (∃ s : State, (s.dbg.scope ≠ none) ∧ (s.dbg.lastAt + s.get DBG_CTL_IDLETO * 1000000 ≤ s.tick)) ∧
    (∃ s : State, ∃ h : Chal, (s.dbg.chal = some h) ∧ (h.at_ + 10000000 ≤ s.tick)) ∧
    (∃ s : State, ∃ h : Chal, (s.dbg.chal = some h) ∧ (s.tick < h.at_ + 10000000)) ∧
    (∃ s : State, ∃ n : Nat, (s.dbg.failAt = some n) ∧ (n + 1000000 ≤ s.tick)) ∧
    (∃ s : State, ∃ n : Nat, (s.dbg.failAt = some n) ∧ (s.tick < n + 1000000)) :=
  ⟨⟨{ st [] with progs := [] }, by decide +kernel⟩,
   ⟨{ st [] with dbg := { scope := some 1 }, tbs := { (st []).tbs with now := 64000000 * (st []).get DBG_CTL_IDLETO } }, by decide +kernel⟩,
   ⟨{ st [] with dbg := { (st []).dbg with chal := some ({ scope := 0x20, octs := [], at_ := 0 }) }, tbs := { (st []).tbs with now := 640000000 } }, { scope := 0x20, octs := [], at_ := 0 }, by decide +kernel⟩,
   ⟨{ st [] with dbg := { (st []).dbg with chal := some ({ scope := 0x20, octs := [], at_ := 0 }) }, tbs := { (st []).tbs with now := 639999999 } }, { scope := 0x20, octs := [], at_ := 0 }, by decide +kernel⟩,
   ⟨{ st [] with dbg := { (st []).dbg with failAt := some 0 }, tbs := { (st []).tbs with now := 64000000 } }, 0, by decide +kernel⟩,
   ⟨{ st [] with dbg := { (st []).dbg with failAt := some 0 }, tbs := { (st []).tbs with now := 63999999 } }, 0, by decide +kernel⟩⟩

theorem test_meets_DebugSessionsOpenAndClose_c9 (h : ∀ k m g, Config.ecdsaVerify k m g = true) : ∃ (s : State) (o : List Byte) (c : Byte) (h : Chal),
    s.dbgUp = true ∧ s.dbg.chal = some h ∧ o.length = (if c = 0x21 then 80 else 16) ∧ s.dbgScope c.toNat = true ∧
      s.tick < h.at_ + 10000000 ∧ s.tokenOk h c.toNat o = true :=
  ⟨{ st [] with dbg := { chal := some { scope := 0x21, octs := [], at_ := 0 } } }, List.replicate 80 0, 0x21, { scope := 0x21, octs := [], at_ := 0 },
    by decide +kernel, rfl, by decide, by decide +kernel, by decide +kernel, by unfold State.tokenOk; simp [h]; decide +kernel⟩

theorem test_meets_DebugReachesItsTargets_1 :
    (∃ s : State, ∃ x : Nat, ∃ b : Byte, ∃ c : Code, (s.session x) ∧ (s.dbgTarget b.toNat = some c)) ∧
    (∃ s : State, ∃ x : Nat, ∃ b : Byte, (s.session x) ∧ (s.dbgTarget b.toNat = none) ∧ (dbgCtx b.toNat ≠ 33) ∧ (dbgCtx b.toNat ≠ 34) ∧ (dbgCtx b.toNat ≠ 35) ∧ (∀ n, (s.prog (dbgCtx b.toNat)).run ≠ .trap n)) ∧
    (∃ s : State, ∃ x : Nat, ∃ b : Byte, ∃ n : Nat, (s.session x) ∧ (s.dbgTarget b.toNat = none) ∧ (dbgCtx b.toNat ≠ 35) ∧ ((s.prog (dbgCtx b.toNat)).run = .trap n)) ∧
    (∃ s : State, ∃ x : Nat, ∃ b : Byte, (s.session x) ∧ (s.dbgTarget b.toNat = none) ∧ ((s.prog (dbgCtx b.toNat)).halted = false)) ∧
    (∃ s : State, ∃ x : Nat, ∃ b : Byte, ∃ e : Instr × Bool, (e ∈ [(Instr.dbgRun [b], false), (.dbgStep [b], true)]) ∧ (s.session x) ∧ (s.dbgTarget b.toNat = none) ∧ ((s.prog (dbgCtx b.toNat)).halted = true) ∧ (dbgCtx b.toNat ≠ 35)) ∧
    (∃ s : State, ∃ x : Nat, ∃ b : Byte, (s.session x) ∧ (s.dbgTarget b.toNat = none)) ∧
    (∃ s : State, ∃ x : Nat, ∃ b : Byte, (s.session x) ∧ (s.dbgTarget b.toNat = none)) ∧
    (∃ s : State, ∃ x : Nat, ∃ o : List Byte, (s.session x) ∧ (o.length = 6) ∧ (s.dbgTarget (dbgOct o 0) = none) ∧ ((s.prog (dbgCtx (dbgOct o 0))).halted = true) ∧ (dbgOct o 1 ≤ 18)) ∧
    (∃ s : State, ∃ x : Nat, ∃ o : List Byte, (s.session x) ∧ (o.length = 6) ∧ (s.dbgTarget (dbgOct o 0) = none) ∧ ((s.prog (dbgCtx (dbgOct o 0))).halted = false ∨ 18 < dbgOct o 1)) ∧
    (∃ s : State, ∃ x : Nat, ∃ o : List Byte, ∃ c : Code, (s.session x) ∧ (o.length = 7) ∧ (s.heard.dbgRange o .load = some c)) ∧
    (∃ s : State, ∃ x : Nat, ∃ o : List Byte, ∃ a : Place, (s.session x) ∧ (o.length = 7) ∧ (s.heard.dbgRange o .load = none) ∧ (dbgOct o 6 = 1) ∧ (s.heard.dbgPlace (dbgOct o 0) (dbgOct o 1) .load (dbgFld o 2 4) = .inr a)) ∧
    (∃ s : State, ∃ x : Nat, ∃ o : List Byte, ∃ c : Code, (s.session x) ∧ (7 ≤ o.length) ∧ (o.length = 7 + 4 * dbgOct o 6) ∧ (s.heard.dbgRange o .store = some c)) ∧
    (∃ s : State, ∃ x : Nat, ∃ o : List Byte, ∃ a : Place, ∃ t : State, (s.session x) ∧ (o.length = 11) ∧ (dbgOct o 6 = 1) ∧ (s.heard.dbgRange o .store = none) ∧ (s.heard.dbgPlace (dbgOct o 0) (dbgOct o 1) .store (dbgFld o 2 4) = .inr a) ∧ (s.heard.busWrite (dbgWho (dbgOct o 0)) 4 (dbgFld o 7 4) a = some t)) ∧
    (∃ s : State, ∃ x : Nat, ∃ o : List Byte, (s.session x) ∧ (o.length = 7) ∧ (s.dbgTarget (dbgOct o 1) = none) ∧ (dbgOct o 0 ≤ 3) ∧ (dbgOct o 6 ≤ 1)) :=
  ⟨⟨stDbg [], 0x21, 36, .refusedAccess, by unfold Machine.State.session; decide +kernel⟩,
   ⟨stDbg [], 0x21, 32, ⟨by unfold Machine.State.session; decide +kernel, by decide +kernel, by decide, by decide, by decide, fun n => nofun⟩⟩,
   ⟨{ stDbg [] with progs := [(0, { run := .trap 1 })] }, 0x21, 0, 1, by unfold Machine.State.session; decide +kernel⟩,
   ⟨stDbg [], 0x21, 32, by unfold Machine.State.session; decide +kernel⟩,
   ⟨{ stDbg [] with progs := [(0, { run := .ready, halted := true })] }, 0x21, 0, (.dbgStep [0], true), by unfold Machine.State.session; decide +kernel⟩,
   ⟨stDbg [], 0x21, 34, by unfold Machine.State.session; decide +kernel⟩,
   ⟨stDbg [], 0x21, 34, by unfold Machine.State.session; decide +kernel⟩,
   ⟨{ stDbg [] with progs := [(32, { run := .ready, halted := true })] }, 0x21, [32, 18, 1, 2, 3, 4], by unfold Machine.State.session; decide +kernel⟩,
   ⟨stDbg [], 0x21, [32, 18, 1, 2, 3, 4], by unfold Machine.State.session; decide +kernel⟩,
   ⟨stDbg [], 0x21, [0, 0, 0, 0, 0, 0x10, 65], .refusedLength, by unfold Machine.State.session; decide +kernel⟩,
   ⟨stDbg [], 0x21, [0, 0, 0xFC, 0x0F, 0, 0x10, 1], .mem 0x10000FFC, by unfold Machine.State.session; decide +kernel⟩,
   ⟨stDbg [], 0x21, [0, 0, 0, 0, 0, 0x10, 0], .refusedLength, by unfold Machine.State.session; decide +kernel⟩,
   ⟨stDbg [], 0x21, [0, 0, 0, 0, 0, 0x10, 1, 1, 2, 3, 4], .mem 0x10000000, ((stDbg []).heard.busWrite (dbgWho 0) 4 0x04030201 (.mem 0x10000000)).getD (st []), ⟨by unfold Machine.State.session; decide +kernel, by decide, by decide, by decide +kernel, by decide +kernel, by decide +kernel⟩⟩,
   ⟨stDbg [], 0x21, [3, 32, 0, 0, 0, 0, 1], by unfold Machine.State.session; decide +kernel⟩⟩

theorem test_meets_DebugReachesItsTargets_2 :
    (∃ s : State, ∃ x : Nat, ∃ o : List Byte, (s.session x) ∧ (o.length = 8) ∧ (s.dbgTarget (dbgOct o 1) = none) ∧ (dbgOct o 0 ≤ 1) ∧ (dbgOct o 6 ≤ 12) ∧ (dbgOct o 7 ≤ 3)) ∧
    (∃ s : State, ∃ x : Nat, ∃ c : Ctx, (s.session x) ∧ (s.brkHits (ctxNum c) ≠ 0) ∧ ((s.prog (ctxNum c)).going = true) ∧ (ctxNum c ≠ 33) ∧ (ctxNum c ≠ 34) ∧ ((s.prog (ctxNum c)).halted = false)) ∧
    (∃ s : State, ∃ x : Nat, ∃ c : Ctx, (s.session x) ∧ (s.brkHits (ctxNum c) = 0)) ∧
    (∃ s : State, ∃ x : Nat, ∃ k : Fin 2, (s.session x) ∧ ((s.prog (33 + k)).haltPend = true) ∧ ((s.prog (33 + k)).halted = false) ∧ (s.airOp k = false)) ∧
    (∃ s : State, ∃ x : Nat, ∃ k : Fin 2, (s.session x) ∧ ((s.prog (33 + k)).haltPend = false ∨ s.airOp k = true)) :=
  ⟨⟨stDbg [], 0x21, [1, 32, 0, 0, 0, 0, 12, 3], by unfold Machine.State.session; decide +kernel⟩,
   ⟨{ stDbg [] with dbg := { scope := some 0x21, brk := [(3, { on := true, ctx := 32 })] }, progs := [(32, { run := .ready })] }, 0x21, .sv, by unfold Machine.State.session; decide +kernel⟩,
   ⟨stDbg [], 0x21, .sv, by unfold Machine.State.session; decide +kernel⟩,
   ⟨{ stDbg [] with progs := [(33, { run := .ready, haltPend := true })] }, 0x21, 0, by unfold Machine.State.session; decide +kernel⟩,
   ⟨stDbg [], 0x21, 0, by unfold Machine.State.session; decide +kernel⟩⟩

theorem test_meets_TestsRunOneAtATime :
    (∃ s : State, ∃ x : Fin 2, (s.test = none) ∧ (s.testMay 4 x true = true)) ∧
    (∃ s : State, (s.test = none)) ∧
    (∃ s : State, ∃ y : TestSt, (s.test = some y)) ∧
    (∃ s : State, ∃ y : TestSt, (s.test = some y) ∧ (y.abort = true)) ∧
    (∃ s : State, ∃ y : TestSt, (s.test = some y) ∧ (y.abort = false) ∧ (y.kind = 4 ∨ s.tick < y.start + s.testLen y.kind)) ∧
    (∃ s : State, ∃ y : TestSt, (s.test = some y) ∧ (y.abort = false) ∧ (y.kind < 4) ∧ (y.start + s.testLen y.kind ≤ s.tick)) ∧
    (∃ s : State, ∃ y : TestSt, (s.test = some y) ∧ (y.kind ≠ 4)) ∧
    (∃ s : State, ∃ y : TestSt, (s.test = some y) ∧ (y.kind = 4) ∧ (y.abort = true)) ∧
    (∃ s : State, ∃ y : TestSt, (s.test = some y) ∧ (y.kind = 4) ∧ (y.abort = false) ∧ (s.calRoom = true) ∧ (s.calStepOk 200 = true) ∧ (s.cal.step = none) ∧ (y.step < 3)) ∧
    (∃ s : State, ∃ y : TestSt, (s.test = some y) ∧ (y.kind = 4) ∧ (y.abort = false) ∧ (s.calRoom = true) ∧ (s.calStepOk 200 = true) ∧ (s.cal.step = none) ∧ (y.step = 3) ∧ (y.sv = false)) :=
  ⟨⟨st [(RXx_STAT_SVC 0, 3)], 0, by decide +kernel⟩,
   ⟨st [], by decide +kernel⟩,
   ⟨{ st [] with test := some ({ kind := 0, index := 0 }) }, { kind := 0, index := 0 }, by decide +kernel⟩,
   ⟨{ st [] with test := some ({ kind := 0, index := 0, abort := true }) }, { kind := 0, index := 0, abort := true }, by decide +kernel⟩,
   ⟨{ st [] with test := some ({ kind := 0, index := 0, start := 1 }) }, { kind := 0, index := 0, start := 1 }, by decide +kernel⟩,
   ⟨{ st [] with test := some ({ kind := 3, index := 24 }), tbs := { (st []).tbs with now := 64000000 } }, { kind := 3, index := 24 }, by decide +kernel⟩,
   ⟨{ st [] with test := some ({ kind := 3, index := 0 }) }, { kind := 3, index := 0 }, by decide +kernel⟩,
   ⟨{ st [] with test := some ({ kind := 4, index := 0, abort := true }) }, { kind := 4, index := 0, abort := true }, by decide +kernel⟩,
   ⟨{ st [(SYNx_CTL_EN 2, 1)] with test := some ({ kind := 4, index := 0, step := 2 }) }, { kind := 4, index := 0, step := 2 }, by decide +kernel⟩,
   ⟨{ st [(SYNx_CTL_EN 2, 1)] with test := some ({ kind := 4, index := 0, step := 3 }) }, { kind := 4, index := 0, step := 3 }, by decide +kernel⟩⟩

theorem test_meets_RegisterWritesKeepTheirOwners :
    (∃ tag : Fin 64, ∃ addr : Nat, (inRegs addr = false ∨ addr % 4 ≠ 0 ∨ regMay tag true addr = false ∨ findReg addr = none)) ∧
    (∃ tag : Fin 64, (1 ≤ tag.val) ∧ (tag.val < 32)) ∧
    (∃ tag : Fin 64, (tag = 0 ∨ tag = 32)) ∧
    (∃ tag : Fin 64, (tag = 0 ∨ tag = 32)) ∧
    (∃ tag : Fin 64, (tag.val < 32)) ∧
    (∃ tag : Fin 64, (tag = 32)) :=
  ⟨⟨0, 0, by decide +kernel⟩,
   ⟨31, by decide +kernel⟩,
   ⟨0, by decide +kernel⟩,
   ⟨0, by decide +kernel⟩,
   ⟨0, by decide +kernel⟩,
   ⟨32, by decide +kernel⟩⟩

end Sys2Proof.Tests
end

/-!
PROOFS of the family of the scope: the step of the front command, and the loads and stores of a context.
-/

namespace Sys2Proof.Machine

open Reg

/-! ## The queue -/

/-- A step takes the command at the front of a queue that is not empty. -/
theorem step_cons {s : State} {i : Instr} {rest : List Instr} (h : s.pending = i :: rest) :
    step s = exec i { s with pending := rest } := by
  rw [step, h]

/-! ## What the effect of an issued instruction becomes (R331, R334) -/

/-- A context that is ready issues its instruction's effect with the turn taken: what it does is retired. -/
theorem State.issue_served {s : State} {c : Ctx} {al : Allow} {legal : Bool} {f : State → Prog → Eff} {r : Res}
    (hr : Ready s c) (ha : al.on c = true) (hl : legal = true)
    (hf : f (s.takeTurn c) (s.prog (ctxNum c)) = .inr r) : s.issue c al legal f = State.retireIns c r := by
  obtain ⟨hm, hp, -, -⟩ := hr
  obtain ⟨x, hx⟩ := Sum.isRight_iff.1 hp
  have hpl := (s.place_takeTurn c c .fetch (s.prog (ctxNum c)).pc.toNat 4).trans hx
  simp [State.issue, hm, ha, hl, s.prog_takeTurn c, hpl, hf]

/-- An effect that is a fault is the context's fault. -/
theorem State.issue_faults {s : State} {c : Ctx} {al : Allow} {legal : Bool} {f : State → Prog → Eff} {e : FCause}
    {a : Nat} (hr : Ready s c) (ha : al.on c = true) (hl : legal = true)
    (hf : f (s.takeTurn c) (s.prog (ctxNum c)) = .inl (e, a)) :
    s.issue c al legal f = (s.takeTurn c).ctxFault c e a := by
  obtain ⟨hm, hp, -, -⟩ := hr
  obtain ⟨x, hx⟩ := Sum.isRight_iff.1 hp
  have hpl := (s.place_takeTurn c c .fetch (s.prog (ctxNum c)).pc.toNat 4).trans hx
  simp [State.issue, hm, ha, hl, s.prog_takeTurn c, hpl, hf]

/-- Taking the turn leaves memory, the partitions and the tickets' locks. -/
@[simp] theorem State.takeTurn_mem (s : State) (c : Ctx) : (s.takeTurn c).mem = s.mem := by
  obtain ⟨e, h⟩ := s.takeTurn_eng c
  rw [h]

@[simp] theorem State.part_takeTurn (s : State) (c : Ctx) (p : Nat) : (s.takeTurn c).part p = s.part p := by
  obtain ⟨e, h⟩ := s.takeTurn_eng c
  rw [h]
  rfl

@[simp] theorem State.locked_takeTurn (s : State) (c : Ctx) (p a n : Nat) :
    (s.takeTurn c).locked p a n = s.locked p a n := by
  rw [State.locked, State.locked, State.part_takeTurn]

/-- With no watchpoint set no access matches one (R570). -/
theorem State.watHits_of_nil {s : State} (h : s.dbg.wat = []) (k : Nat) (touch : Option (Nat × Nat × Bool)) :
    s.watHits k touch = 0 := by
  rcases touch with _ | ⟨a, n, st⟩
  · rfl
  · cases st <;> simp [State.watHits, h, List.range_succ]

/-- An instruction that completes with nothing to halt for moves PC on and counts its cycles; of the state its effect
left, its own program alone changes. -/
theorem State.retireIns_completes {c : Ctx} {r : Res} {g : Prog} (hg : r.st.prog (ctxNum c) = g)
    (hrun : g.run = .ready) (hs : g.stepping = false) (hh : g.haltPend = false) (hw : r.st.dbg.wat = [])
    (hb : r.bkpt = false) (hy : r.yields = false) :
    (State.retireIns c r).prog (ctxNum c) = { g with
      pc := r.dest.getD (g.pc + 4), cyc := g.cyc + BitVec.ofNat 32 r.cyc
      wdog := if ctxNum c < 32 ∨ 64 ≤ ctxNum c then g.wdog + r.cyc else g.wdog } ∧
    (∀ j, j ≠ ctxNum c → (State.retireIns c r).prog j = r.st.prog j) ∧
    { State.retireIns c r with progs := r.st.progs } = r.st := by
  have hret : State.retireIns c r = (r.st.updProg (ctxNum c) fun g => { g with
      cyc := g.cyc + BitVec.ofNat 32 r.cyc
      wdog := if ctxNum c < 32 ∨ 64 ≤ ctxNum c then g.wdog + r.cyc else g.wdog }).updProg (ctxNum c)
      fun g => { g with pc := r.dest.getD (g.pc + 4) } := by
    simp [State.retireIns, State.completed, State.watHits_of_nil, RunSt.blocked, hg, hrun, hs, hh, hw, hb, hy]
  rw [hret]
  refine ⟨by simp [hg], fun j hj => ?_, rfl⟩
  rw [State.prog_updProg_ne _ _ hj, State.prog_updProg_ne _ _ hj]

/-- An instruction whose effect changes, beside its own program, memory and the free values drawn at most. -/
theorem State.retireIns_ran {s : State} {c : Ctx} {r : Res} {g : Prog} (hr : Ready s c) (hw : s.dbg.wat = [])
    (hg : r.st.prog (ctxNum c) = g)
    (hk : g.run = (s.prog (ctxNum c)).run ∧ g.stepping = (s.prog (ctxNum c)).stepping ∧
      g.haltPend = (s.prog (ctxNum c)).haltPend ∧ g.cyc = (s.prog (ctxNum c)).cyc ∧ g.wdog = (s.prog (ctxNum c)).wdog)
    (ho : ∀ j, j ≠ ctxNum c → r.st.prog j = s.prog j)
    (hrest : { r.st with progs := s.progs, eng := s.eng, fresh := s.fresh, mem := s.mem } = s)
    (hb : r.bkpt = false) (hy : r.yields = false) :
    (State.retireIns c r).mem = r.st.mem ∧
      Ran s c { State.retireIns c r with fresh := s.fresh, mem := s.mem } g (r.dest.getD (g.pc + 4)) r.cyc := by
  obtain ⟨hm, -, hs, hh⟩ := hr
  obtain ⟨krun, kstep, khalt, kcyc, kwdog⟩ := hk
  have hwat : r.st.dbg.wat = [] := (congrArg (fun t => t.dbg.wat) hrest).trans hw
  obtain ⟨hown, hother, hsame⟩ := State.retireIns_completes hg (krun.trans (State.mayIssue_going hm)) (kstep.trans hs)
    (khalt.trans hh) hwat hb hy
  have hmem := congrArg State.mem hsame
  refine ⟨hmem, ?_, fun j hj => (hother j hj).trans (ho j hj), ?_⟩
  · rw [← kcyc, ← kwdog]
    exact hown
  · rw [← hsame] at hrest
    exact hrest

/-- What ran with memory left as it was. -/
theorem ran_of_mem {s t : State} {c : Ctx} {g : Prog} {x : Word} {n : Nat} (hm : t.mem = s.mem)
    (h : Ran s c { t with fresh := s.fresh, mem := s.mem } g x n) : Ran s c { t with fresh := s.fresh } g x n := by
  rw [← hm] at h
  exact h

/-! ## Numbers in memory -/

theorem State.octs_of_mem {s t : State} (h : t.mem = s.mem) (a n : Nat) : t.octs a n = s.octs a n := by
  induction n generalizing a with
  | zero => rfl
  | succ n ih => rw [State.octs, State.octs, ih, State.byte, State.byte, h]

/-- A number in memory depends on memory alone. -/
theorem State.num_of_mem {s t : State} (h : t.mem = s.mem) (a n : Nat) : t.num a n = s.num a n := by
  rw [State.num, State.num, State.octs_of_mem h]

theorem State.byte_of_mem {s t : State} (h : t.mem = s.mem) (a : Nat) : t.byte a = s.byte a := by
  rw [State.byte, State.byte, h]

/-- A number stored leaves every octet away from it. -/
theorem State.byte_putNum_away (s : State) {a n x : Nat} (v : Nat) (h : x < a ∨ a + n ≤ x) :
    (s.putNum a n v).byte x = s.byte x := by
  rw [State.putNum, State.byte_store, dif_neg (by rw [octets_length]; omega)]

/-! ## Loads and stores of memory (R304, R305, R319) -/

/-- A load that memory serves reads its octets and changes nothing. -/
theorem State.ctxLoad_mem {s : State} {c : Ctx} {x n m : Nat} (hp : s.place c .load x n = .inr (.mem m))
    (ho : memOpen m = false) (hd : memDark m = false) : s.ctxLoad c x n = .inr (s.num m n, s) := by
  simp [State.ctxLoad, State.busRead, hp, ho, hd]

theorem State.ctxLoad_fault {s : State} {c : Ctx} {x n : Nat} {e : FCause} (hp : s.place c .load x n = .inl e) :
    s.ctxLoad c x n = .inl e := by
  simp [State.ctxLoad, hp]

theorem State.ctxStore_fault {s : State} {c : Ctx} {x n : Nat} {e : FCause} (v : Nat) (hp : s.place c .store x n = .inl e) :
    s.ctxStore c x n v = .inl e := by
  simp [State.ctxStore, hp]

/-- A store that memory serves, in no locked buffer, writes its octets. -/
theorem State.ctxStore_mem {s : State} {c : Ctx} {x n m : Nat} (v : Nat) (hp : s.place c .store x n = .inr (.mem m))
    (hd : memDark m = false) (hl : ∀ p b, c = .part p b → s.locked p x n = false) :
    s.ctxStore c x n v = .inr (s.putNum m n v) := by
  cases c with
  | part p b => simp [State.ctxStore, State.busWrite, hp, hd, hl p b rfl]
  | _ => simp [State.ctxStore, State.busWrite, hp, hd]

/-- Counting an access's cycles draws a free value at most. -/
theorem State.loadCyc_fresh (s : State) (c : Ctx) (x : Nat) : ∃ k, (s.loadCyc c x).2 = { s with fresh := k } := by
  unfold State.loadCyc
  split
  case isTrue => exact ⟨s.fresh, rfl⟩
  split
  case isTrue => exact ⟨s.fresh, rfl⟩
  split
  case isTrue => exact ⟨s.fresh + 1, rfl⟩
  split
  case isTrue => exact ⟨s.fresh, rfl⟩
  exact ⟨s.fresh + 1, rfl⟩

theorem State.storeCyc_fresh (s : State) (c : Ctx) (x : Nat) : ∃ k, (s.storeCyc c x).2 = { s with fresh := k } := by
  unfold State.storeCyc
  split
  case isTrue => exact ⟨s.fresh, rfl⟩
  exact ⟨s.fresh + 1, rfl⟩

/-- What a load of `w` octets at `x` does that has read `v` and left `u`: `State.load_served` ties it to the model. -/
def loadRes (c : Ctx) (w : Nat) (d : Fin 16) (x v : Nat) (u : State) : Res :=
  { st := (u.loadCyc c x).2.onProg c fun h => h.setReg d (BitVec.ofNat 32 v), cyc := (u.loadCyc c x).1,
    touch := some (x, w, false) }

/-- What a store of `w` octets at `x` does that has left `u`: `State.stores_served` ties it to the model. -/
def storeRes (c : Ctx) (w x : Nat) (u : State) : Res :=
  { st := (u.storeCyc c x).2, cyc := (u.storeCyc c x).1, touch := some (x, w, true) }

section Access

variable {s : State} {c : Ctx} {w : Nat} {d a : Fin 16} {i : BitVec 18}

/-- A load that is served is retired with the value in d. -/
theorem State.load_served {v : Nat} {u : State} (hr : Ready s c)
    (h : (s.takeTurn c).ctxLoad c ((s.prog (ctxNum c)).ea a i) w = .inr (v, u)) :
    s.load c w d a i = .next (State.retireIns c (loadRes c w d ((s.prog (ctxNum c)).ea a i) v u)) := by
  refine congrArg Host.Outcome.next (State.issue_served hr rfl rfl ?_)
  simp only [h]
  rfl

theorem State.load_faults {e : FCause} (hr : Ready s c)
    (h : (s.takeTurn c).ctxLoad c ((s.prog (ctxNum c)).ea a i) w = .inl e) :
    s.load c w d a i = .next ((s.takeTurn c).ctxFault c e ((s.prog (ctxNum c)).ea a i)) := by
  refine congrArg Host.Outcome.next (State.issue_faults hr rfl rfl ?_)
  simp only [h]

/-- A store that is served is retired. -/
theorem State.stores_served {u : State} (hr : Ready s c)
    (h : (s.takeTurn c).ctxStore c ((s.prog (ctxNum c)).ea a i) w (((s.prog (ctxNum c)).reg d).toNat % 256 ^ w) = .inr u) :
    s.stores c w d a i = .next (State.retireIns c (storeRes c w ((s.prog (ctxNum c)).ea a i) u)) := by
  refine congrArg Host.Outcome.next (State.issue_served hr rfl rfl ?_)
  simp only [h]
  rfl

theorem State.stores_faults {e : FCause} (hr : Ready s c)
    (h : (s.takeTurn c).ctxStore c ((s.prog (ctxNum c)).ea a i) w (((s.prog (ctxNum c)).reg d).toNat % 256 ^ w) = .inl e) :
    s.stores c w d a i = .next ((s.takeTurn c).ctxFault c e ((s.prog (ctxNum c)).ea a i)) := by
  refine congrArg Host.Outcome.next (State.issue_faults hr rfl rfl ?_)
  simp only [h]

/-- A load of `w` octets of memory puts them into d, zero-extended. -/
theorem State.load_ran {m : Nat} (hr : Ready s c) (hw : s.dbg.wat = [])
    (hp : s.place c .load ((s.prog (ctxNum c)).ea a i) w = .inr (.mem m))
    (ho : memOpen m = false) (hd : memDark m = false) :
    ∃ t n, s.load c w d a i = .next t ∧
      Ran s c { t with fresh := s.fresh } ((s.prog (ctxNum c)).setReg d (BitVec.ofNat 32 (s.num m w)))
        ((s.prog (ctxNum c)).pc + 4) n := by
  obtain ⟨e, he⟩ := s.takeTurn_eng c
  obtain ⟨k, hk⟩ := (s.takeTurn c).loadCyc_fresh c ((s.prog (ctxNum c)).ea a i)
  have hload := State.ctxLoad_mem ((s.place_takeTurn c c ..).trans hp) ho hd
  rw [State.num_of_mem (s.takeTurn_mem c)] at hload
  have hst : (loadRes c w d ((s.prog (ctxNum c)).ea a i) (s.num m w) (s.takeTurn c)).st =
      State.onProg { s with eng := e, fresh := k } c fun h => h.setReg d (BitVec.ofNat 32 (s.num m w)) := by
    rw [loadRes, hk, he]
  obtain ⟨hmem, hran⟩ := State.retireIns_ran (g := (s.prog (ctxNum c)).setReg d (BitVec.ofNat 32 (s.num m w))) hr hw
    (by rw [hst]; exact State.prog_updProg_same ..) ⟨rfl, rfl, rfl, rfl, rfl⟩
    (fun j hj => by rw [hst]; exact State.prog_updProg_ne _ _ hj) (by rw [hst]; rfl) rfl rfl
  exact ⟨_, _, State.load_served hr hload, ran_of_mem (hmem.trans (by rw [hst]; rfl)) hran⟩

/-- A store of the low `w` octets of d to memory that no ticket locks reaches those octets and no other. -/
theorem State.stores_ran {m : Nat} (hr : Ready s c) (hw : s.dbg.wat = [])
    (hp : s.place c .store ((s.prog (ctxNum c)).ea a i) w = .inr (.mem m)) (hd : memDark m = false)
    (hl : ∀ p b, c = .part p b → s.locked p ((s.prog (ctxNum c)).ea a i) w = false) :
    ∃ t n, s.stores c w d a i = .next t ∧ t.num m w = ((s.prog (ctxNum c)).reg d).toNat % 256 ^ w ∧
      (∀ x, x < m ∨ m + w ≤ x → t.byte x = s.byte x) ∧
      Ran s c { t with fresh := s.fresh, mem := s.mem } (s.prog (ctxNum c)) ((s.prog (ctxNum c)).pc + 4) n := by
  obtain ⟨e, he⟩ := s.takeTurn_eng c
  let u := (s.takeTurn c).putNum m w (((s.prog (ctxNum c)).reg d).toNat % 256 ^ w)
  obtain ⟨l, hu⟩ : ∃ l, u = { s.takeTurn c with mem := l } := State.store_rest ..
  obtain ⟨k, hk⟩ := u.storeCyc_fresh c ((s.prog (ctxNum c)).ea a i)
  have hstore : (s.takeTurn c).ctxStore c _ w _ = .inr u :=
    State.ctxStore_mem _ ((s.place_takeTurn c c ..).trans hp) hd fun p b h => (s.locked_takeTurn c ..).trans (hl p b h)
  have hst : (storeRes c w ((s.prog (ctxNum c)).ea a i) u).st = { s with eng := e, mem := l, fresh := k } := by
    rw [storeRes, hk, hu, he]
  obtain ⟨hmem, hran⟩ := State.retireIns_ran (g := s.prog (ctxNum c)) hr hw
    (by rw [hst]; rfl) ⟨rfl, rfl, rfl, rfl, rfl⟩ (fun j _ => by rw [hst]; rfl) (by rw [hst]) rfl rfl
  have hmem : (State.retireIns c _).mem = u.mem := hmem.trans (by rw [hst, hu])
  refine ⟨_, _, State.stores_served hr hstore, ?_, fun x hx => ?_, hran⟩
  · rw [State.num_of_mem hmem, State.num_putNum, Nat.mod_mod]
  · rw [State.byte_of_mem hmem, State.byte_putNum_away _ _ hx, State.byte_of_mem (s.takeTurn_mem c)]

end Access

/-! ## A partition's fault (R270, R271) -/

/-- A field below the event registers is none of theirs. -/
theorem key_ne_evFlds {F : Fld} (h : F.addr < 0x40011000 ∧ F.lo < 32) : ∀ G ∈ evFlds, F.key ≠ G.key := by
  intro G hG
  simp only [evFlds, List.mem_flatMap, List.mem_cons, List.not_mem_nil, or_false] at hG
  obtain ⟨b, -, rfl | rfl | rfl⟩ := hG <;>
    simp only [PEC_PEND_PEND, PEC_OVF_OVF, PEC_HPEND_HPEND, Reg.mk, Fld.mk', Fld.at, Fld.key] <;> omega

/-- Raising an event leaves a field below the event registers. -/
theorem State.get_raise (s : State) (p : Nat) (e : Ev) {F : Fld} (h : F.addr < 0x40011000 ∧ F.lo < 32) :
    (s.raise p e).get F = s.get F :=
  (s.raise_only p e).2 F (key_ne_evFlds h)

theorem State.progs_raise (s : State) (p : Nat) (e : Ev) : (s.raise p e).progs = s.progs := by
  have h := congrArg State.progs (s.raise_only p e).1
  exact h

/-- The state with a fault of a partition's image A recorded and its program stopped: `State.partFault_eq` ties it to
the model. -/
def State.faultNoted (s : State) (p : Nat) (e : FCause) (x : Nat) : State :=
  (((s.sets [(PRT_FAULT_FCAUSE.at p, e.num), (PRT_PSTATp_FCAUSE p, e.num), (PRT_FADDR_ADDR.at p, x)]).updProg p
    fun g => g.failed e.num).updProg p Prog.stop).updPart p fun P => { P with faultAt := some s.tick }

section Fault

variable {s : State} {p : Nat} {e : FCause} {x : Nat}

theorem State.partFault_eq (hrst : (s.part p).rst = none) (hdual : (s.part p).dual = none) :
    s.partFault p false e x =
      ((s.faultNoted p e x).set (PRT_PSTATp_STATE p) PState.faulted.num).raise p .fault := by
  have hd : (((s.sets [(PRT_FAULT_FCAUSE.at p, e.num), (PRT_PSTATp_FCAUSE p, e.num), (PRT_FADDR_ADDR.at p, x)]).updProg p
    fun g => g.failed e.num).part p).dual = none := hdual
  simp only [State.partFault, hrst, hd, Option.isSome_none, Bool.false_eq_true, if_false]
  rfl

/-- Of the register fields, noting a fault writes three. -/
theorem State.get_faultNoted (F : Fld) :
    (s.faultNoted p e x).get F =
      (((s.set (PRT_FAULT_FCAUSE.at p) e.num).set (PRT_PSTATp_FCAUSE p) e.num).set (PRT_FADDR_ADDR.at p) x).get F := rfl

/-- The fields a fault writes are different fields, below the event registers. -/
theorem faultFlds_apart (p : Nat) (hp : p < 32) :
    (PRT_FAULT_FCAUSE.at p).key ≠ (PRT_PSTATp_STATE p).key ∧ (PRT_FAULT_FCAUSE.at p).key ≠ (PRT_PSTATp_FCAUSE p).key ∧
      (PRT_FAULT_FCAUSE.at p).key ≠ (PRT_FADDR_ADDR.at p).key ∧ (PRT_FADDR_ADDR.at p).key ≠ (PRT_PSTATp_STATE p).key ∧
      ((PRT_FAULT_FCAUSE.at p).addr < 0x40011000 ∧ (PRT_FAULT_FCAUSE.at p).lo < 32) ∧
      ((PRT_FADDR_ADDR.at p).addr < 0x40011000 ∧ (PRT_FADDR_ADDR.at p).lo < 32) ∧
      (PRT_PSTATp_STATE p).addr < 0x40011000 ∧ (PRT_PSTATp_STATE p).lo < 32 := by
  simp only [PRT_FAULT_FCAUSE, PRT_PSTATp_FCAUSE, PRT_PSTATp_STATE, PRT_FADDR_ADDR, Reg.mk, Fld.mk', Fld.at, Fld.key]
  omega

/-- A fault of image A of a partition that is in no reset and has no second image: its cause and address are recorded,
the partition is FAULTED, its program stopped, and no memory changes. -/
theorem State.partFault_faulted (hp : p < 32) (hrst : (s.part p).rst = none) (hdual : (s.part p).dual = none) :
    (s.partFault p false e x).get (PRT_FAULT_FCAUSE.at p) = e.num ∧
      (s.partFault p false e x).get (PRT_FADDR_ADDR.at p) = x % 2 ^ 32 ∧
      (s.partFault p false e x).pstate p = PState.faulted.num ∧
      ((s.partFault p false e x).prog p).run = .idle ∧ SameMem s (s.partFault p false e x) := by
  obtain ⟨hcause_state, hcause_shown, hcause_addr, haddr_state, hc, ha, hs⟩ := faultFlds_apart p hp
  rw [State.partFault_eq hrst hdual]
  refine ⟨?_, ?_, ?_, ?_, fun y => (State.raise_only ..).sameMem y⟩
  · rw [State.get_raise _ _ _ hc, State.get_set_ne _ _ hcause_state, State.get_faultNoted,
      State.get_set_ne _ _ hcause_addr, State.get_set_ne _ _ hcause_shown, State.get_set_same]
    cases e <;> rfl
  · rw [State.get_raise _ _ _ ha, State.get_set_ne _ _ haddr_state, State.get_faultNoted, State.get_set_same]
    rfl
  · rw [State.pstate, State.get_raise _ _ _ hs, State.get_set_same]
    rfl
  · rw [State.prog, State.progs_raise]
    show ((s.faultNoted p e x).prog p).run = .idle
    exact congrArg Prog.run (State.prog_updProg_same ..)

end Fault

/-! ## A partition's data window (R269, R270) -/

section Window

variable {s : State} {p : Fin 32} {b : Bool} {x n : Nat}

/-- A misaligned load in the data window is a fault of alignment, whatever the window holds there. -/
theorem State.place_data_odd (hlo : 0x10000000 ≤ x) (hhi : x < 0x1003C000) (hn : x % n ≠ 0) :
    s.place (.part p b) .load x n = .inl .align := by
  simp [State.place, State.placeWin, hlo, hhi, hn, show ¬x < 0x40000 by omega]

/-- An aligned load in a partition's own data memory goes to that memory. -/
theorem State.place_data_even (hlo : 0x10000000 ≤ x) (hhi : x < 0x1003C000)
    (hown : x < 0x10000000 + 4096 * (s.part p).desc.dataG) (hn : x % n = 0) :
    s.place (.part p b) .load x n = .inr (.mem ((s.part p).dataBase + (x - 0x10000000))) := by
  have hphys : s.physData p x = some ((s.part p).dataBase + (x - 0x10000000)) := if_pos ⟨hlo, hown⟩
  simp [State.place, State.placeWin, hlo, hhi, hn, hphys, show ¬x < 0x40000 by omega]

end Window

end Sys2Proof.Machine

namespace Sys2Proof

open Machine Machine.Reg

/-- Settles O1: a step takes the front command, and taking it gives the queue back its rest. -/
theorem stepRunsTheFrontCommand : Obligations.StepRunsTheFrontCommand :=
  fun _ _ => step_cons rfl

/-- Settles O35: the loads and stores of the three widths are instances of `State.load_ran` and `State.stores_ran`; a
place that is a fault is the instruction's own, and a partition's fault records it. -/
theorem loadsAndStoresReachTheirPlace : Obligations.LoadsAndStoresReachTheirPlace := by
  intro s c d a i hr hw
  refine ⟨fun m hp ho hd => State.load_ran hr hw hp ho hd, fun m hp ho hd => State.load_ran hr hw hp ho hd,
    fun m hp ho hd => State.load_ran hr hw hp ho hd, fun m hp hd hl => ?_, fun m hp hd hl => ?_, fun m hp hd hl => ?_,
    fun e hp => ?_, fun e hp => ?_, ?_, ?_⟩
  · obtain ⟨t, n, ht, hnum, hbyte, hran⟩ := State.stores_ran (d := d) hr hw hp hd hl
    exact ⟨t, n, ht, hnum, fun x hx => hbyte x (by omega), hran⟩
  · exact State.stores_ran hr hw hp hd hl
  · obtain ⟨t, n, ht, hnum, hrest⟩ := State.stores_ran (d := d) hr hw hp hd hl
    exact ⟨t, n, ht, hnum.trans (Nat.mod_eq_of_lt (BitVec.isLt _)), hrest⟩
  · exact State.load_faults hr (State.ctxLoad_fault ((s.place_takeTurn c c ..).trans hp))
  · exact State.stores_faults hr (State.ctxStore_fault _ ((s.place_takeTurn c c ..).trans hp))
  · rintro p rfl hlo hhi hodd hrst hdual
    have hload := State.ctxLoad_fault ((s.place_takeTurn (.part p false) (.part p false) ..).trans
      (State.place_data_odd hlo hhi hodd))
    obtain ⟨hcause, haddr, hstate, hrun, hmem⟩ := State.partFault_faulted (s := s.takeTurn (.part p false)) (e := .align)
      (x := (s.prog (ctxNum (.part p false))).ea a i) p.isLt (by simpa using hrst) (by simpa using hdual)
    exact ⟨_, State.load_faults hr hload, hcause, haddr.trans (Nat.mod_eq_of_lt (by omega)), hstate, hrun,
      fun y => (hmem y).trans (State.byte_of_mem (s.takeTurn_mem _) y)⟩
  · intro p x n hlo hown hhi hn hx
    exact State.place_data_even hlo (by omega) (by omega) hx

end Sys2Proof

/-!
PROOFS of the native coding: its lengths, the check of its PHR, the whitening and the interleaver.
-/

namespace Sys2Proof.Machine

/-! ## Lengths of the coded streams (R155 to R159) -/

/-- Where every value becomes `n`, a list becomes `n` times as long. -/
theorem flatMap_length_of_const {α β : Type} {f : α → List β} {n : Nat} (h : ∀ a, (f a).length = n) (l : List α) :
    (l.flatMap f).length = n * l.length := by
  induction l with
  | nil => rfl
  | cons a l ih => rw [List.flatMap_cons, List.length_append, h, ih, List.length_cons, Nat.mul_succ, Nat.add_comm]

@[simp] theorem octBits_length (refl : Bool) (b : Byte) : (octBits refl b).length = 8 := by
  cases refl <;> simp [octBits]

theorem flatMap_octBits_length (refl : Bool) (l : List Byte) : (l.flatMap (octBits refl)).length = 8 * l.length :=
  flatMap_length_of_const (octBits_length refl) l

/-- The register of the whitening sequence never runs empty, so the sequence is as long as it is asked for. -/
theorem whiteFrom_length {l : List Bool} (n : Nat) (h : l ≠ []) : (whiteFrom l n).length = n := by
  induction n generalizing l with
  | zero => cases l <;> rfl
  | succ n ih =>
    obtain ⟨b, l, rfl⟩ := List.exists_cons_of_ne_nil h
    simp [whiteFrom, ih]

@[simp] theorem whiteSeq_length (n : Nat) : (whiteSeq n).length = n := whiteFrom_length n (by simp)

@[simp] theorem whiten_length (l : List Bool) : (whiten l).length = l.length := by simp [whiten]

theorem convFrom_length (h l : List Bool) : (convFrom h l).length = l.length := by
  induction l generalizing h with
  | nil => rfl
  | cons u l ih => simp [convFrom, ih]

/-- Six tail bits follow what is coded. -/
@[simp] theorem conv_length (l : List Bool) : (conv l).length = l.length + 6 := by simp [conv, convFrom_length]

@[simp] theorem whole_length (l : List (Bool × Bool)) : (whole l).length = 2 * l.length :=
  flatMap_length_of_const (f := fun c : Bool × Bool => [c.1, c.2]) (fun _ => rfl) l

/-- Two columns leave three bits; a last single column leaves two. -/
theorem punct23_length (l : List (Bool × Bool)) : (punct23 l).length = (3 * l.length + 1) / 2 := by
  induction l using punct23.induct with
  | case1 a b l ih => simp [punct23, ih]; omega
  | case2 a => simp [punct23]
  | case3 => rfl

/-- Three columns leave four bits; a last one or two columns leave two or three. -/
theorem punct34_length (l : List (Bool × Bool)) : (punct34 l).length =
    4 * (l.length / 3) + (if l.length % 3 = 1 then 2 else if l.length % 3 = 2 then 3 else 0) := by
  induction l using punct34.induct with
  | case1 a b c l ih =>
    have hdiv : (l.length + 3) / 3 = l.length / 3 + 1 := by omega
    simp only [punct34, List.length_append, List.length_cons, List.length_nil, ih, Nat.add_assoc, Nat.reduceAdd, hdiv,
      Nat.add_mod_right]
    omega
  | case2 a b => simp [punct34]
  | case3 a => simp [punct34]
  | case4 => rfl

@[simp] theorem interleave_length (c : List Bool) : (interleave c).length = 128 := by simp [interleave]

/-- The interleaved stream is whole blocks of 128. -/
theorem interBlocks_length (c : List Bool) : (interBlocks c).length = 128 * ceilDiv c.length 128 := by
  rw [interBlocks, flatMap_length_of_const (fun _ => interleave_length _), List.length_range]

/-- The bits that go into the code are eight to an octet, whitened or not. -/
theorem whitened_length (wht : Bool) (l : List Byte) :
    (if wht then whiten (l.flatMap (octBits true)) else l.flatMap (octBits true)).length = 8 * l.length := by
  cases wht
  · exact flatMap_octBits_length true l
  · exact (whiten_length _).trans (flatMap_octBits_length true l)

/-! ## The check of the PHR (R149) -/

/-- With one bit more in all, every bit reversed weighs twice as much. -/
theorem foldl_reverse_double {w : Nat} (n : Nat) {l : List Nat} (h : ∀ i ∈ l, i < w) (a : Nat) :
    l.foldl (fun acc i => if n.testBit i then acc + 2 ^ (w + 1 - 1 - i) else acc) (2 * a) =
      2 * l.foldl (fun acc i => if n.testBit i then acc + 2 ^ (w - 1 - i) else acc) a := by
  induction l generalizing a with
  | nil => rfl
  | cons i l ih =>
    have hi : w + 1 - 1 - i = w - 1 - i + 1 := by have := h i List.mem_cons_self; omega
    rw [List.foldl_cons, List.foldl_cons, ← ih (fun j hj => h j (List.mem_cons_of_mem _ hj)), hi, Nat.pow_succ]
    congr 1
    split <;> omega

/-- Reversing one bit more puts it below those reversed already. -/
theorem reverseBits_succ (w n : Nat) : reverseBits (w + 1) n = 2 * reverseBits w n + (n.testBit w).toNat := by
  rw [reverseBits, List.range_succ, List.foldl_append, ← Nat.mul_zero 2,
    foldl_reverse_double n fun i hi => List.mem_range.1 hi]
  cases hb : n.testBit w <;> simp [hb, reverseBits]

theorem testBit_reverseBits {w i : Nat} (n : Nat) (h : i < w) : (reverseBits w n).testBit i = n.testBit (w - 1 - i) := by
  induction w generalizing i with
  | zero => omega
  | succ w ih =>
    rw [reverseBits_succ]
    have hb := Bool.toNat_le (n.testBit w)
    cases i with
    | zero => rw [Nat.testBit_zero, Nat.mul_add_mod, show w + 1 - 1 - 0 = w from rfl]; cases n.testBit w <;> rfl
    | succ i =>
      rw [Nat.testBit_succ, show (2 * reverseBits w n + (n.testBit w).toNat) / 2 = reverseBits w n by omega,
        ih (by omega), show w + 1 - 1 - (i + 1) = w - 1 - i by omega]

/-- A register depends on the bits fed alone. -/
theorem foldl_crcBit_congr {w poly : Nat} {f g : Nat → Bool} {l : List Nat} (h : ∀ i ∈ l, f i = g i) (r : Nat) :
    l.foldl (fun r i => crcBit w poly r (f i)) r = l.foldl (fun r i => crcBit w poly r (g i)) r := by
  induction l generalizing r with
  | nil => rfl
  | cons i l ih =>
    rw [List.foldl_cons, List.foldl_cons, h i List.mem_cons_self]
    exact ih (fun j hj => h j (List.mem_cons_of_mem _ hj)) _

theorem crcBit_lt {w poly : Nat} (r : Nat) (b : Bool) (hp : poly < 2 ^ w) : crcBit w poly r b < 2 ^ w := by
  have hr : r * 2 % 2 ^ w < 2 ^ w := Nat.mod_lt _ (Nat.two_pow_pos w)
  simp only [crcBit]
  split
  · exact Nat.xor_lt_two_pow hr hp
  · exact hr

/-- A CRC register stays within its width. -/
theorem foldl_crcBit_lt {w poly r : Nat} (f : Nat → Bool) (l : List Nat) (hp : poly < 2 ^ w) (hr : r < 2 ^ w) :
    l.foldl (fun r i => crcBit w poly r (f i)) r < 2 ^ w := by
  induction l generalizing r with
  | nil => exact hr
  | cons i l ih => exact ih (crcBit_lt r _ hp)

/-- A register fed its own top bits is shifted: no feedback occurs. -/
theorem foldl_crcBit_own (w poly r : Nat) {k : Nat} (h : k ≤ w) :
    (List.range k).foldl (fun a i => crcBit w poly a (r.testBit (w - 1 - i))) (r % 2 ^ w) = r * 2 ^ k % 2 ^ w := by
  induction k with
  | zero => simp
  | succ k ih =>
    have htop : (r * 2 ^ k % 2 ^ w).testBit (w - 1) = r.testBit (w - 1 - k) := by
      rw [Nat.testBit_mod_two_pow, Nat.testBit_mul_two_pow]
      simp [show w - 1 < w by omega, show k ≤ w - 1 by omega]
    rw [List.range_succ, List.foldl_append, ih (by omega)]
    simp [crcBit, htop, Nat.pow_succ, Nat.mul_assoc]

/-- A register of `w` bits fed what it holds, highest bit first, ends at 0. -/
theorem foldl_crcBit_closes {w r : Nat} (poly : Nat) (h : r < 2 ^ w) :
    (List.range w).foldl (fun a i => crcBit w poly a (r.testBit (w - 1 - i))) r = 0 := by
  have := foldl_crcBit_own w poly r (Nat.le_refl w)
  rwa [Nat.mod_eq_of_lt h, Nat.mul_mod_left] at this

/-- The CRC register of R149 after the bits 15:0 of a PHR. -/
def phrReg (m : Nat) : Nat := (List.range 16).foldl (fun r i => crcBit 8 7 r (m.testBit i)) 0

theorem phrCrc_eq (m : Nat) : phrCrc m = reverseBits 8 (phrReg m) := rfl

/-- A PHR whose bits 23:16 are its check leaves the register at 0 (R149). -/
theorem phr_closes {m : Nat} (h : m < 2 ^ 16) :
    (List.range 24).foldl (fun r i => crcBit 8 7 r ((phrCrc m * 65536 + m).testBit i)) 0 = 0 := by
  have hbit : ∀ i, (phrCrc m * 65536 + m).testBit i = if i < 16 then m.testBit i else (phrCrc m).testBit (i - 16) := by
    intro i
    rw [Nat.mul_comm]
    exact Nat.testBit_two_pow_mul_add _ h i
  have hlow : (List.range 16).foldl (fun r i => crcBit 8 7 r ((phrCrc m * 65536 + m).testBit i)) 0 = phrReg m :=
    foldl_crcBit_congr (fun i hi => by rw [hbit, if_pos (List.mem_range.1 hi)]) 0
  have hreg : phrReg m < 2 ^ 8 := foldl_crcBit_lt _ _ (by decide) (by decide)
  rw [show List.range 24 = List.range 16 ++ (List.range 8).map (16 + ·) from rfl, List.foldl_append, hlow, List.foldl_map,
    ← foldl_crcBit_closes 7 hreg]
  refine foldl_crcBit_congr (fun i hi => ?_) _
  rw [hbit, if_neg (by omega), Nat.add_sub_cancel_left, phrCrc_eq, testBit_reverseBits _ (List.mem_range.1 hi)]

/-- The fields of a native PHR fill its bits 15:0 (R148). -/
theorem phrFields_lt {len code fcst : Nat} (wht : Bool) (hl : len < 2048) (hc : code < 8) (hf : fcst < 2) :
    fcst * 32768 + wht.toNat * 16384 + code * 2048 + len < 2 ^ 16 := by
  have := Bool.toNat_le wht
  omega

/-! ## Whitening and the interleaver (R157, R158) -/

/-- The sequence depends on the length alone, and a bit combined twice with one value is itself. -/
theorem whiten_whiten (l : List Bool) : whiten (whiten l) = l := by
  have hseq : whiten (whiten l) = List.zipWith (fun a b => a != b) (whiten l) (whiteSeq l.length) := by
    rw [whiten, whiten_length]
  rw [hseq, whiten]
  exact List.ext_getElem (by simp) fun i h₁ h₂ => by simp

/-- Code bit `i` of a block goes out at `16 (i mod 8) + i / 8` (R157). -/
theorem interleave_getD (l : List Bool) {i : Nat} (h : i < 128) :
    (interleave l).getD (16 * (i % 8) + i / 8) false = l.getD i false := by
  have hpos : 16 * (i % 8) + i / 8 < 128 := by omega
  have hsrc : 8 * ((16 * (i % 8) + i / 8) % 16) + (16 * (i % 8) + i / 8) / 16 = i := by omega
  simp only [interleave, List.getD_eq_getElem?_getD, List.getElem?_map, List.getElem?_range hpos, Option.map_some, hsrc,
    Option.getD_some]

end Sys2Proof.Machine

namespace Sys2Proof

open Machine

/-- Settles O20: the length of the stream of each CODE; the PHR's check, the whitening and the interleaver each by their
own law. -/
theorem nativeCodingHasItsLengthsAndUndoesItself : Obligations.NativeCodingHasItsLengthsAndUndoesItself := by
  refine ⟨fun code wht body h => ?_, fun _ _ _ wht hl hc hf => phr_closes (phrFields_lt wht hl hc hf), whiten_whiten,
    fun l _ h _ => interleave_getD l h⟩
  have hb := whitened_length wht body
  match code, h with
  | 0, _ => exact hb
  | 1, _ => simp [psduBits, hb]
  | 2, _ => simp [psduBits, punct23_length, hb]; omega
  | 3, _ => simp [psduBits, punct34_length, hb]
  | 4, _ => simp [psduBits, interBlocks_length, hb, ceilDiv]; omega

end Sys2Proof

/-!
PROOFS of the packet handler: the ends of received frames, the checks of a PHR, and the header handed on.
-/

namespace Sys2Proof.Machine

open Reg

/-! ## What the end of received frames leaves (R107, R132, R183) -/

/-- A register field of the packet handler beside the counts of its pool, PKT_RXREG. -/
abbrev PktFld (F : Fld) : Prop := F.bank = 0 ∧ 0x4000C000 ≤ F.addr ∧ F.addr < 0x4000C020 ∧ F.addr ≠ 0x4000C008 ∧ F.lo < 32

/-- The fields that the end of a frame writes in a bank: `State.ends_phrEnd` ties them to the model. -/
def endFlds (k : Nat) : List Fld := [AIR_PACK_GPEND.at k, PKT_RXREG_INUSE, CHB_LOSTA_OVERLAP.at k, CHB_SICSTAT_INUSE]

/-- In no bank are they the packet handler's beside its pool's. -/
theorem pktFld_apart {F G : Fld} {k : Nat} (hF : PktFld F) (hG : G ∈ endFlds k) : F.key ≠ G.key := by
  obtain ⟨hbank, hlo, hhi, hpool, hbit⟩ := hF
  simp only [endFlds, List.mem_cons, List.not_mem_nil, or_false] at hG
  rcases hG with rfl | rfl | rfl | rfl <;>
    simp only [AIR_PACK_GPEND, PKT_RXREG_INUSE, CHB_LOSTA_OVERLAP, CHB_SICSTAT_INUSE, Reg.mk, Fld.mk', Fld.at, Fld.key,
      hbank] <;> omega

/-- `t` is `s` after received frames have ended: memory, the timebase and the packet handler's registers beside its pool's
are the same, and no frame has come. `State.ends_phrEnd` ties it to the model. -/
structure EndsFrames (s t : State) : Prop where
  mem : t.mem = s.mem
  tbs : t.tbs = s.tbs
  gone : ∀ k, s.frame k = none → t.frame k = none
  keeps : ∀ F, PktFld F → t.get F = s.get F

namespace EndsFrames

variable {s t u : State}

theorem rfl : EndsFrames s s := ⟨Eq.refl _, Eq.refl _, fun _ h => h, fun _ _ => Eq.refl _⟩

theorem trans (h : EndsFrames s t) (k : EndsFrames t u) : EndsFrames s u :=
  ⟨k.mem.trans h.mem, k.tbs.trans h.tbs, fun j hj => k.gone j (h.gone j hj), fun F hF => (k.keeps F hF).trans (h.keeps F hF)⟩

theorem sameMem (h : EndsFrames s t) : SameMem s t := fun a => by rw [State.byte, State.byte, h.mem]

theorem of_parts (hm : t.mem = s.mem) (hb : t.tbs = s.tbs) (hx : t.rx = s.rx) (hr : t.regs = s.regs) : EndsFrames s t :=
  ⟨hm, hb, fun k h => by rw [State.frame, hx]; exact h, fun F _ => by rw [State.get, State.get, hr]⟩

theorem set {G : Fld} (k v : Nat) (hG : G ∈ endFlds k) : EndsFrames s (s.set G v) :=
  ⟨Eq.refl _, Eq.refl _, fun _ h => h, fun _ hF => s.get_set_ne v (pktFld_apart hF hG)⟩

theorem setFrame_none (s : State) (fid : Nat) : EndsFrames s (s.setFrame fid none) := by
  refine ⟨Eq.refl _, Eq.refl _, fun k hk => ?_, fun _ _ => Eq.refl _⟩
  by_cases h : k = fid
  · rw [h, State.frame_setFrame_same]
  · rw [State.frame_setFrame_ne _ _ h, hk]

theorem foldl {α : Type} {f : State → α → State} (hf : ∀ t x, EndsFrames t (f t x)) (l : List α) (s : State) :
    EndsFrames s (l.foldl f s) := by
  induction l generalizing s with
  | nil => exact rfl
  | cons x l ih => exact (hf s x).trans (ih _)

end EndsFrames

/-- Withdrawing a frame's acknowledgement returns its airtime. -/
theorem State.ends_dropAck (s : State) (fid : Nat) : EndsFrames s (s.dropAck fid) := by
  have hrefund : ∀ (t : State) p a, EndsFrames t (t.refund p a) := fun _ _ _ => .of_parts rfl rfl rfl rfl
  have hpend : ∀ (t : State) p v, EndsFrames t (t.set (AIR_PACK_GPEND.at p) v) :=
    fun _ p _ => .set p _ (by simp [endFlds])
  refine .trans ?_ (EndsFrames.foldl (fun t g => (hrefund t _ _).trans (hpend _ _ _)) _ _)
  refine .trans ?_ (EndsFrames.foldl (fun t r => hrefund t _ _) _ _)
  exact .of_parts rfl rfl rfl rfl

theorem State.ends_endFrame (s : State) (fid : Nat) : EndsFrames s (s.endFrame fid) := by
  unfold State.endFrame
  split
  case h_1 => exact .rfl
  case h_2 f hf =>
    refine ((s.ends_dropAck fid).trans (EndsFrames.setFrame_none _ fid)).trans ?_
    refine .trans ?_ (.set 0 _ (by simp [endFlds]))
    exact .of_parts rfl rfl rfl rfl

/-- A frame that has ended is no longer there. -/
theorem State.frame_endFrame (s : State) (fid : Nat) : (s.endFrame fid).frame fid = none := by
  unfold State.endFrame
  split
  case h_1 h => exact h
  case h_2 => exact State.frame_setFrame_same _ fid none

theorem State.ends_sicFree (s : State) (k : Nat) : EndsFrames s (s.sicFree k) := by
  unfold State.sicFree
  split
  case isTrue =>
    refine .trans ?_ (.set k _ (by simp [endFlds]))
    exact .of_parts rfl rfl rfl rfl
  case isFalse => exact .rfl

theorem State.ends_sicLost (s : State) (k : Nat) : EndsFrames s (s.sicLost k) := by
  unfold State.sicLost
  split
  case h_1 => exact .rfl
  case h_2 =>
    refine .trans (.trans (s.ends_endFrame (128 + k)) ?_) (State.ends_sicFree _ k)
    exact .set k _ (by simp [endFlds])

/-- The end of a frame at its PHR takes the weaker frame at its canceller with it, and nothing else (R132, R178). -/
theorem State.ends_phrEnd (s : State) (fid : Nat) : EndsFrames s (s.phrEnd fid) := by
  unfold State.phrEnd
  split
  case isTrue => exact (s.ends_endFrame fid).trans (State.ends_sicLost _ fid)
  case isFalse => exact s.ends_endFrame fid

theorem State.frame_phrEnd (s : State) (fid : Nat) : (s.phrEnd fid).frame fid = none := by
  unfold State.phrEnd
  split
  case isTrue => exact (State.ends_sicLost _ fid).gone fid (s.frame_endFrame fid)
  case isFalse => exact s.frame_endFrame fid

/-- A frame ended and counted in a counter of the packet handler. -/
theorem State.phrEnd_counted (s : State) (fid : Nat) {F : Fld} (hF : PktFld F) :
    ((s.phrEnd fid).count F 1).frame fid = none ∧ ((s.phrEnd fid).count F 1).get F = min (s.get F + 1) (2 ^ F.w - 1) ∧
      SameMem s ((s.phrEnd fid).count F 1) ∧ ((s.phrEnd fid).count F 1).tbs = s.tbs := by
  have h := s.ends_phrEnd fid
  refine ⟨s.frame_phrEnd fid, ?_, fun a => h.sameMem a, h.tbs⟩
  rw [State.get_count_same, h.keeps F hF]

/-! ## The checks of a PHR (R178, R179) -/

section Phr

variable {s : State} {fid : Nat} {f : RxFrame} {phr : Nat}

/-- A PHR for a frame that waits for it is judged. -/
theorem exec_phrDecoded {fid : Fin 256} {phr : BitVec 24} (hf : s.frame fid = some f) (hst : f.stage = .phr) :
    exec (.phrDecoded fid phr) s = .next (s.phrDecoded fid f phr.toNat) := by
  show execPhrDecoded fid phr s = _
  simp [execPhrDecoded, hf, hst]

/-- With a wrong CRC a format 2 frame ends, whatever else its PHR holds. -/
theorem State.phrDecoded_badCrc (hen : s.get PKT_CTL_EN = 1) (hfmt : f.fmt = 2) (hcrc : phrCrc phr ≠ bits phr 16 8) :
    s.phrDecoded fid f phr = (s.phrEnd fid).count PKT_PHRERR_CRCERR 1 := by
  simp [State.phrDecoded, State.flag, hen, hfmt, hcrc]

/-- With a reserved CODE or a LEN that holds no header a format 2 frame ends. -/
theorem State.phrDecoded_badLen (hen : s.get PKT_CTL_EN = 1) (hfmt : f.fmt = 2) (hcrc : phrCrc phr = bits phr 16 8)
    (hlen : 5 ≤ bits phr 11 3 ∨ bits phr 0 11 < 5 + fcsLen 2 (bits phr 15 1)) :
    s.phrDecoded fid f phr = (s.phrEnd fid).count PKT_PHRERR_LENERR 1 := by
  simp [State.phrDecoded, State.flag, hen, hfmt, hcrc, phrLen, phrFcst, hlen]

/-- A frame with what its PHR says: `State.phrDecoded_passes` ties it to the model. -/
def RxFrame.withPhr (f : RxFrame) (phr : Nat) : RxFrame := { f with
  stage := (if f.fmt = 3 then .body else .header), phr := phr, len := phrLen f.fmt phr, fcst := phrFcst f.fmt phr
  blocks := ceilDiv (phrLen f.fmt phr) 128
  code := (if f.fmt = 2 then bits phr 11 3 else if f.fmt = 3 then f.sfdc.toNat else 1), wht := phrWht f.fmt phr }

/-- The state with `n` blocks of the receive region reserved beside those in use (R179): `State.phrDecoded_passes` ties it
to the model. -/
def State.reserved (s : State) (n : Nat) : State :=
  (s.set PKT_RXREG_INUSE (s.get PKT_RXREG_INUSE + n)).set PKT_RXREG_PEAK
    (max (s.get PKT_RXREG_PEAK) (s.get PKT_RXREG_INUSE + n))

theorem State.reserved_only (s : State) (n : Nat) : OnlyRegs [PKT_RXREG_INUSE, PKT_RXREG_PEAK] s (s.reserved n) :=
  (OnlyRegs.rfl.set _ _ (by simp)).set _ _ (by simp)

theorem State.get_inuse_reserved {n : Nat} (h : s.get PKT_RXREG_INUSE + n ≤ 1024) :
    (s.reserved n).get PKT_RXREG_INUSE = s.get PKT_RXREG_INUSE + n := by
  have hw : PKT_RXREG_INUSE.w = 11 := rfl
  rw [State.reserved, State.get_set_ne _ _ (by decide), State.get_set_same, hw, Nat.mod_eq_of_lt (by omega)]

/-- In combined operation no frame has a twin on another chain (R119). -/
theorem State.phrTwin_combined (h : s.combined = true) : s.phrTwin fid f phr = false := by
  simp [State.phrTwin, h]

theorem State.combined_reserved (s : State) (n : Nat) : (s.reserved n).combined = s.combined := by
  have hget : (s.reserved n).get (RXx_STAT_COMBACT 0) = s.get (RXx_STAT_COMBACT 0) :=
    (s.reserved_only n).2 _ (by decide)
  rw [State.combined, State.combined, State.flag, State.flag, hget]

/-- A PHR that passes the checks of its format, with room in the receive region: its blocks are reserved and the frame
goes on. -/
theorem State.phrDecoded_passes (hen : s.get PKT_CTL_EN = 1)
    (h2 : f.fmt = 2 → phrCrc phr = bits phr 16 8 ∧ bits phr 11 3 ≤ 4 ∧ 5 + fcsLen 2 (bits phr 15 1) ≤ bits phr 0 11)
    (h1 : f.fmt = 1 → 8 ≤ bits phr 0 8) (h3 : f.fmt = 3 → bit phr 15 = false ∧ bits phr 0 11 ≠ 0)
    (hroom : s.get PKT_RXREG_INUSE + ceilDiv (phrLen f.fmt phr) 128 ≤ 1024) (hcomb : s.combined = true) :
    s.phrDecoded fid f phr =
      (s.reserved (ceilDiv (phrLen f.fmt phr) 128)).setFrame fid (some (f.withPhr phr)) := by
  have hen' : s.flag PKT_CTL_EN = true := by simp [State.flag, hen]
  have hcrc : ¬(f.fmt = 2 ∧ phrCrc phr ≠ bits phr 16 8) := fun h => h.2 (h2 h.1).1
  have hlen2 : ¬(f.fmt = 2 ∧ (5 ≤ bits phr 11 3 ∨ phrLen f.fmt phr < 5 + fcsLen 2 (phrFcst f.fmt phr))) := by
    rintro ⟨hfmt, h⟩
    obtain ⟨-, hcode, hlen⟩ := h2 hfmt
    rw [hfmt, show phrLen 2 phr = bits phr 0 11 from rfl, show phrFcst 2 phr = bits phr 15 1 from rfl] at h
    omega
  have hlen1 : ¬(f.fmt = 1 ∧ phrLen f.fmt phr < 8) := by
    rintro ⟨hfmt, h⟩
    have := h1 hfmt
    rw [hfmt, show phrLen 1 phr = bits phr 0 8 from rfl] at h
    omega
  have hms : ¬(f.fmt = 3 ∧ bit phr 15 = true) := fun h => by simp [(h3 h.1).1] at h
  have hlen3 : ¬(f.fmt = 3 ∧ phrLen f.fmt phr = 0) := by
    rintro ⟨hfmt, h⟩
    rw [hfmt] at h
    exact (h3 hfmt).2 h
  have htwin : (s.reserved (ceilDiv (phrLen f.fmt phr) 128)).phrTwin fid (f.withPhr phr) phr = false :=
    State.phrTwin_combined ((s.combined_reserved _).trans hcomb)
  simp only [State.reserved, RxFrame.withPhr] at htwin
  simp only [State.phrDecoded, hen', Bool.not_true, Bool.false_eq_true, Bool.and_eq_true, Bool.or_eq_true, decide_eq_true_eq,
    ne_eq, hcrc, hlen2, hlen1, hms, hlen3, Nat.not_lt.2 hroom, if_false, htwin]
  rfl

end Phr

/-! ## The header handed on (R181, R225, R380) -/

/-- `t` is `s` with frame `fid`, which was `f`, handed on to its body, and no octet of memory changed:
`State.handsOn_mhrDecoded` ties it to the model. -/
structure HandsOn (s : State) (fid : Nat) (f : RxFrame) (t : State) : Prop where
  frame : ∃ g, t.frame fid = some g ∧ g.stage = .body ∧ g.stamp = f.stamp
  mem : t.mem = s.mem

namespace HandsOn

variable {s t u : State} {fid : Nat} {f : RxFrame}

theorem setFrame (hm : t.mem = s.mem) {g : RxFrame} (hs : g.stage = .body) (ht : g.stamp = f.stamp) :
    HandsOn s fid f (t.setFrame fid (some g)) :=
  ⟨⟨g, State.frame_setFrame_same _ _ _, hs, ht⟩, hm⟩

theorem of_rx (h : HandsOn s fid f t) (hr : u.rx = t.rx) (hm : u.mem = t.mem) : HandsOn s fid f u := by
  obtain ⟨⟨g, hg, hs, ht⟩, hmem⟩ := h
  exact ⟨⟨g, by rw [State.frame, hr]; exact hg, hs, ht⟩, hm.trans hmem⟩

/-- An acknowledgement that cannot be sent marks the frame alone. -/
theorem missAck (h : HandsOn s fid f t) : HandsOn s fid f (t.missAck fid) := by
  obtain ⟨⟨g, hg, hs, ht⟩, hmem⟩ := h
  simp only [State.missAck, hg]
  exact setFrame hmem hs ht

end HandsOn

/-- A reservation touches no received frame and no memory. -/
theorem State.reserve_rx {s t : State} {x : Tx} {n : Nat} (h : s.reserve x n = some t) : t.rx = s.rx ∧ t.mem = s.mem := by
  simp only [State.reserve] at h
  split at h
  case isTrue => rw [← Option.some.inj h]; exact ⟨rfl, rfl⟩
  case isFalse => cases h

/-- Reserving the acknowledgement leaves the frame handed on. -/
theorem HandsOn.ackReserve {s t : State} {fid : Nat} {f : RxFrame} (h : HandsOn s fid f t) (g : RxFrame) (p li : Nat) :
    HandsOn s fid f (t.ackReserve fid g p li) := by
  unfold State.ackReserve
  extract_lets
  split
  case h_1 => exact h
  split
  case isTrue => exact h
  split
  case isTrue => exact h.missAck
  split
  case isTrue =>
    split
    case isTrue => exact h.missAck
    case isFalse => exact h.of_rx rfl rfl
  extract_lets
  split
  case isTrue => exact h.missAck
  split
  case h_1 u hu =>
    obtain ⟨hrx, hmem⟩ := State.reserve_rx hu
    exact h.of_rx hrx hmem
  case h_2 => exact h.missAck

/-- The checks of R380 leave a frame's stage and stamp. -/
theorem State.rxChecks_stage (s : State) (p li : Nat) (f : RxFrame) :
    (s.rxChecks p li f).1.stage = f.stage ∧ (s.rxChecks p li f).1.stamp = f.stamp := by
  unfold State.rxChecks
  extract_lets
  split
  case isTrue => exact ⟨rfl, rfl⟩
  split
  case isTrue => exact ⟨rfl, rfl⟩
  split
  case isTrue => exact ⟨rfl, rfl⟩
  split
  case isTrue => exact ⟨rfl, rfl⟩
  split <;> exact ⟨rfl, rfl⟩

section Header

variable {s : State} {fid : Nat} {f : RxFrame} {o : List Byte}

/-- A header for a frame that waits for it is handed over. -/
theorem exec_mhrDecoded {fid : Fin 256} (hf : s.frame fid = some f) (hst : f.stage = .header) :
    exec (.mhrDecoded fid o) s = .next (s.mhrDecoded fid f o) := by
  show execMhrDecoded fid o s = _
  simp [execMhrDecoded, hf, hst]

/-- Whatever a header holds, its frame goes on to its body. -/
theorem State.handsOn_mhrDecoded (s : State) (fid : Nat) (f : RxFrame) (o : List Byte) :
    HandsOn s fid f (s.mhrDecoded fid f o) := by
  unfold State.mhrDecoded
  extract_lets hb g
  split
  case isTrue => exact .setFrame rfl rfl rfl
  split
  case h_1 => exact .setFrame rfl rfl rfl
  case h_2 _ p i _ =>
    split
    case isTrue => exact .setFrame rfl rfl rfl
    extract_lets g total full
    split
    case h_1 => split <;> exact .setFrame rfl rfl rfl
    case h_2 _ li _ =>
      extract_lets g r u v
      split
      case isTrue => exact .setFrame rfl rfl rfl
      split
      case isTrue => exact .setFrame rfl rfl rfl
      have hr : r.1.stage = .body ∧ r.1.stamp = f.stamp := by
        unfold r
        split
        case isTrue => exact s.rxChecks_stage p li g
        case isFalse => exact ⟨rfl, rfl⟩
      have hmem : u.mem = s.mem := by unfold u; split <;> rfl
      have hv : HandsOn s fid f v := .setFrame hmem hr.1 hr.2
      split
      case isTrue => exact hv
      case isFalse => exact hv.ackReserve r.1 p li

/-- A native header with a reserved value marks its frame, and nothing else. -/
theorem State.mhrDecoded_badHdr (hfmt : f.fmt = 2) (hbad : (mhrNative o f.len f.fcst).2 = true) :
    s.mhrDecoded fid f o =
      s.setFrame fid (some { f with stage := .body, hdr := (mhrNative o f.len f.fcst).1, badHdr := true }) := by
  unfold State.mhrDecoded
  extract_lets hb g
  have hhb : hb = mhrNative o f.len f.fcst := if_neg (by simp [hfmt])
  have hg : g.badHdr = true := by rw [← hbad, ← hhb]
  rw [if_pos hg, ← hg, ← hhb]

/-- A native header with a network ID that no partition serves keeps that as its frame's ending, and nothing else. -/
theorem State.mhrDecoded_nonid (hfmt : f.fmt = 2) (hok : (mhrNative o f.len f.fcst).2 = false)
    (hnid : s.nidOwner (mhrNative o f.len f.fcst).1.nid = none) :
    s.mhrDecoded fid f o = s.setFrame fid (some { f with
      stage := .body, hdr := (mhrNative o f.len f.fcst).1, badHdr := false, stop := some .nonid }) := by
  unfold State.mhrDecoded
  extract_lets hb g
  have hhb : hb = mhrNative o f.len f.fcst := if_neg (by simp [hfmt])
  have hg : g.badHdr = false := by rw [← hok, ← hhb]
  rw [← hhb] at hnid
  rw [hg, if_neg Bool.false_ne_true, show s.nidOwner g.hdr.nid = none from hnid, ← hg, ← hhb]

end Header

/-! ## Enabling and clearing (R178, R619) -/

/-- The end of a frame of the pool, if it is there: `State.writePktEn_false` ties it to the model. -/
def State.endPooled (s : State) (fid : Nat) : State := if (s.frame fid).isSome then s.phrEnd fid else s

theorem State.writePktEn_false (s : State) :
    s.writePktEn false = (s.setB PKT_CTL_EN false).each (List.range 256) State.endPooled := rfl

theorem State.ends_endPooled (s : State) (fid : Nat) : EndsFrames s (s.endPooled fid) := by
  unfold State.endPooled
  split
  case isTrue => exact s.ends_phrEnd fid
  case isFalse => exact .rfl

theorem State.frame_endPooled (s : State) (fid : Nat) : (s.endPooled fid).frame fid = none := by
  unfold State.endPooled
  split
  case isTrue => exact s.frame_phrEnd fid
  case isFalse h => exact Option.not_isSome_iff_eq_none.1 h

/-- Ending the frames of a list ends every one of them. -/
theorem State.frame_each_endPooled {k : Nat} {l : List Nat} (s : State) (hk : k ∈ l) :
    (s.each l State.endPooled).frame k = none := by
  induction l generalizing s with
  | nil => simp at hk
  | cons fid l ih =>
    rcases List.mem_cons.1 hk with rfl | hk
    · exact (EndsFrames.foldl State.ends_endPooled l _).gone k (s.frame_endPooled k)
    · exact ih _ hk

/-- A field that a list of writes names once reads what they wrote. -/
theorem State.get_sets_of_mem {l : List (Fld × Nat)} {F : Fld} {v : Nat} (s : State)
    (hl : ∀ e ∈ l, e.1.key = F.key → e = (F, v)) (hF : s.get F = v % 2 ^ F.w ∨ (F, v) ∈ l) :
    (s.sets l).get F = v % 2 ^ F.w := by
  induction l generalizing s with
  | nil => exact hF.resolve_right List.not_mem_nil
  | cons e l ih =>
    refine ih (s.set e.1 e.2) (fun x hx => hl x (List.mem_cons_of_mem _ hx)) ?_
    by_cases hk : e.1.key = F.key
    · obtain rfl := hl e List.mem_cons_self hk
      exact .inl (State.get_set_same ..)
    · rw [State.get_set_ne _ _ (Ne.symm hk)]
      exact hF.imp id fun h => (List.mem_cons.1 h).resolve_left fun he => hk (by rw [← he])

/-- The writes of PKT_CLEAR_COUNTERS: `State.pktClear_eq` ties them to the model. -/
def pktCleared : List (Fld × Nat) :=
  [(PKT_RXREG_PEAK, 0), (PKT_PHRERR_LENERR, 0), (PKT_PHRERR_CRCERR, 0), (PKT_FCSERR_HDRERR, 0), (PKT_FCSERR_FCS, 0),
    (PKT_DROP_MS, 0), (PKT_DROP_RXBUF, 0), (PKT_RXOK_COUNT, 0)]

theorem State.pktClear_eq (s : State) : s.pktClear = s.sets pktCleared := rfl

/-- Every counter cleared reads 0. -/
theorem State.get_pktClear {F : Fld} (s : State) (h : F ∈ pktCleared.map Prod.fst) : s.pktClear.get F = 0 := by
  have hall : ∀ G ∈ pktCleared.map Prod.fst, (G, 0) ∈ pktCleared ∧ ∀ e ∈ pktCleared, e.1.key = G.key → e = (G, 0) := by
    decide
  obtain ⟨hmem, honce⟩ := hall F h
  rw [State.pktClear_eq, State.get_sets_of_mem s honce (.inr hmem), Nat.zero_mod]

end Sys2Proof.Machine

namespace Sys2Proof

open Machine Machine.Reg

/-- Settles O18: a frame ended at its PHR is counted (`State.phrEnd_counted`), one that passes reserves its blocks
(`State.phrDecoded_passes`), a header hands its frame on (`State.handsOn_mhrDecoded`); disabling PKT ends each frame of the
pool in turn. -/
theorem phrAndHeaderChecks : Obligations.PhrAndHeaderChecks := by
  intro s
  refine ⟨?_, ?_, ?_, ?_, ?_, ?_, ?_, ?_, ?_⟩
  · intro fid phr f hf hst hen hfmt hcrc
    exact ⟨_, (exec_phrDecoded hf hst).trans (congrArg _ (State.phrDecoded_badCrc hen hfmt hcrc)), s.phrEnd_counted fid (by decide)⟩
  · intro fid phr f hf hst hen hfmt hcrc hlen
    exact ⟨_, (exec_phrDecoded hf hst).trans (congrArg _ (State.phrDecoded_badLen hen hfmt hcrc hlen)),
      s.phrEnd_counted fid (by decide)⟩
  · intro fid phr f hf hst hen h2 h1 h3 hroom hcomb
    exact ⟨_, f.withPhr phr.toNat, (exec_phrDecoded hf hst).trans (congrArg _ (State.phrDecoded_passes hen h2 h1 h3 hroom hcomb)),
      State.frame_setFrame_same _ _ _, rfl, rfl, rfl, rfl, State.get_inuse_reserved hroom, s.reserved_only _⟩
  · intro fid o f hf hst
    obtain ⟨⟨g, hg, hbody, hstamp⟩, hmem⟩ := s.handsOn_mhrDecoded fid f o
    exact ⟨_, g, exec_mhrDecoded hf hst, hg, hbody, hstamp, fun a => by rw [State.byte, State.byte, hmem]⟩
  · intro fid o f hf hst hfmt hbad
    exact ⟨_, _, (exec_mhrDecoded hf hst).trans (congrArg _ (State.mhrDecoded_badHdr hfmt hbad)), State.frame_setFrame_same _ _ _,
      rfl, rfl⟩
  · intro fid o f hf hst hfmt hok hnid
    exact ⟨_, _, (exec_mhrDecoded hf hst).trans (congrArg _ (State.mhrDecoded_nonid hfmt hok hnid)),
      State.frame_setFrame_same _ _ _, rfl, rfl⟩
  · exact ⟨_, rfl, s.get_setB_same PKT_CTL_EN true (by decide), OnlyRegs.rfl.set _ _ (by simp)⟩
  · have hends := EndsFrames.foldl State.ends_endPooled (List.range 256) (s.setB PKT_CTL_EN false)
    exact ⟨_, rfl, (hends.keeps PKT_CTL_EN (by decide)).trans (s.get_setB_same PKT_CTL_EN false (by decide)),
      fun k hk => State.frame_each_endPooled _ (List.mem_range.2 hk), fun a => hends.sameMem a⟩
  · exact ⟨_, rfl, s.get_pktClear (by decide), s.get_pktClear (by decide), s.get_pktClear (by decide),
      s.get_pktClear (by decide), s.get_pktClear (by decide), s.get_pktClear (by decide), s.get_pktClear (by decide),
      s.get_pktClear (by decide), OnlyRegs.rfl.sets _ (by decide)⟩

end Sys2Proof

/-!
PROOFS of the family of the transmitter: the writes of its profiles, taps and front-end patterns.
-/

namespace Sys2Proof.Machine

open Reg

/-! ## Fields written together -/

/-- Of writes to distinct fields no two share a key. -/
theorem eq_of_key_eq {l : List (Fld × Nat)} (h : ((l.map Prod.fst).map Fld.key).Nodup) {x y : Fld × Nat} (hx : x ∈ l)
    (hy : y ∈ l) (hk : x.1.key = y.1.key) : x = y := by
  induction l with
  | nil => exact absurd hx List.not_mem_nil
  | cons e l ih =>
    obtain ⟨hhead, htail⟩ := List.nodup_cons.1 h
    have hother : ∀ z ∈ l, z.1.key ≠ e.1.key := fun z hz heq =>
      hhead (heq ▸ List.mem_map_of_mem (List.mem_map_of_mem hz))
    rcases List.mem_cons.1 hx with rfl | hxl <;> rcases List.mem_cons.1 hy with rfl | hyl
    · rfl
    · exact absurd hk.symm (hother y hyl)
    · exact absurd hk (hother x hxl)
    · exact ih htail hxl hyl

/-- Of writes to distinct fields each is read back. -/
theorem State.get_sets_of_nodup {l : List (Fld × Nat)} {F : Fld} {v : Nat} (s : State)
    (h : ((l.map Prod.fst).map Fld.key).Nodup) (hF : (F, v) ∈ l) : (s.sets l).get F = v % 2 ^ F.w :=
  s.get_sets_of_mem (fun _ he hk => eq_of_key_eq h he hF hk) (.inr hF)

/-- A field that takes its own bits of a word reads them. -/
theorem State.get_sets_bits {l : List (Fld × Nat)} {F : Fld} {n lo k : Nat} (s : State)
    (h : ((l.map Prod.fst).map Fld.key).Nodup) (hF : (F, bits n lo k) ∈ l) (hk : F.w = k) :
    (s.sets l).get F = bits n lo k := by
  rw [s.get_sets_of_nodup h hF, hk, bits, Nat.mod_mod]

/-! ## Profiles (R185) -/

/-- The words A and B that a write of word `k` leaves, and whether it leaves the profile enabled, decide its refusal. -/
theorem State.writeProf_refused {s : State} {n w : Nat} {k : Fin 3}
    (hen : if k = 2 then w ≠ 0 else s.get (TXM_PROFnC_PARTMASK n) ≠ 0)
    (hr : s.profReason (if k = 0 then w else s.profA n) (if k = 1 then w else s.profB n) ≠ 0) :
    s.writeProf n k w = s.sets [(TXM_STAT_PROFREJ, 1),
      (TXM_STAT_REASON, s.profReason (if k = 0 then w else s.profA n) (if k = 1 then w else s.profB n))] := by
  match k with
  | 0 | 1 | 2 =>
    simp only [Fin.reduceEq, if_true, if_false] at hen hr ⊢
    simp [State.writeProf, hen, hr]

theorem State.writeProf_mask {s : State} {n w : Nat} (h : w = 0 ∨ s.profReason (s.profA n) (s.profB n) = 0) :
    s.writeProf n 2 w = s.sets [(TXM_STAT_PROFREJ, 0), (TXM_PROFnC_PARTMASK n, w)] := by
  have hr : (if w ≠ 0 then s.profReason (s.profA n) (s.profB n) else 0) = 0 :=
    ite_eq_right_iff.2 h.resolve_left
  exact if_neg fun h => h hr

/-- What a write of word A of a profile sets: `State.writeProf_wordA` ties it to the model. -/
def wordASets (n w : Nat) : List (Fld × Nat) :=
  [(TXM_STAT_PROFREJ, 0), (TXM_PROFnA_MOD n, bits w 29 3), (TXM_PROFnA_SHAPE n, bits w 26 3), (TXM_PROFnA_FEMSEL n, bits w 25 1),
    (TXM_PROFnA_MASKSEL n, bits w 24 1), (TXM_PROFnA_RATE n, bits w 0 20)]

/-- A profile that is not enabled takes a word A without reserved encodings. -/
theorem State.writeProf_wordA {s : State} {n w : Nat} (hoff : s.get (TXM_PROFnC_PARTMASK n) = 0)
    (hmod : (TXM_PROFnA_MOD n).allows (bits w 29 3) = true) (hshape : (TXM_PROFnA_SHAPE n).allows (bits w 26 3) = true) :
    s.writeProf n 0 w = s.sets (wordASets n w) := by
  have hfem : (TXM_PROFnA_FEMSEL n).allows (bits w 25 1) = true := rfl
  have hmask : (TXM_PROFnA_MASKSEL n).allows (bits w 24 1) = true := rfl
  have hrate : (TXM_PROFnA_RATE n).allows (bits w 0 20) = true := rfl
  simp [State.writeProf, hoff, hmod, hshape, hfem, hmask, hrate, State.sets, wordASets]

/-- Its fields are distinct, whatever the word. -/
theorem wordASets_nodup (n : Fin 16) (w : Nat) : (((wordASets n w).map Prod.fst).map Fld.key).Nodup := by
  have hall : ∀ n : Fin 16, (((wordASets n 0).map Prod.fst).map Fld.key).Nodup := by decide
  exact hall n

/-! ## Custom taps (R192) -/

/-- The state with the input modes of a TXM_TAPCTL word: `State.writeTapctl_first` ties it to the model. -/
def State.withInmodes (s : State) (w : Nat) : State :=
  s.sets [(TXM_TAPCTL_INMODE1, bits w 9 1), (TXM_TAPCTL_INMODE0, bits w 8 1)]

theorem State.writeTapctl_first (s : State) {w : Nat} (h : w % 4 = 1) : s.writeTapctl w = (s.withInmodes w).tapCommit 0 := by
  have h0 : bit w 0 = true := Nat.testBit_eq_decide_div_mod_eq.trans (decide_eq_true (by omega))
  have h1 : bit w 1 = false := Nat.testBit_eq_decide_div_mod_eq.trans (decide_eq_false (by omega))
  simp [State.writeTapctl, State.withInmodes, h0, h1]

theorem State.withInmodes_only (s : State) (w : Nat) : OnlyRegs [TXM_TAPCTL_INMODE0, TXM_TAPCTL_INMODE1] s (s.withInmodes w) :=
  OnlyRegs.rfl.sets _ (by simp)

theorem State.flag_inmode0_withInmodes (s : State) (w : Nat) : (s.withInmodes w).flag TXM_TAPCTL_INMODE0 = bit w 8 := by
  have hdistinct : ([TXM_TAPCTL_INMODE1, TXM_TAPCTL_INMODE0].map Fld.key).Nodup := by decide
  have hget : (s.withInmodes w).get TXM_TAPCTL_INMODE0 = bits w 8 1 := s.get_sets_bits hdistinct (by simp) rfl
  rw [State.flag, hget, bits, bit, Nat.testBit_eq_decide_div_mod_eq]
  exact decide_eq_decide.2 (by omega)

/-- The input modes leave the registers of the profiles and the taps. -/
theorem State.get_withInmodes (s : State) (w : Nat) {F : Fld} (hbank : F.bank = 0) (haddr : 0x4000B100 ≤ F.addr) :
    (s.withInmodes w).get F = s.get F := by
  refine (s.withInmodes_only w).2 F ?_
  simp only [List.mem_cons, List.not_mem_nil, or_false, forall_eq_or_imp, forall_eq, Fld.key, hbank, TXM_TAPCTL_INMODE0,
    TXM_TAPCTL_INMODE1, Reg.mk, Fld.mk']
  omega

theorem State.tapsWritten_withInmodes (s : State) (w x : Nat) : (s.withInmodes w).tapsWritten x = s.tapsWritten x := by
  have hodd (k : Nat) : (s.withInmodes w).get (TXM_TAPsw_CODD x k) = s.get (TXM_TAPsw_CODD x k) :=
    s.get_withInmodes w rfl (by simp only [TXM_TAPsw_CODD, Reg.mk, Fld.mk']; omega)
  have heven (k : Nat) : (s.withInmodes w).get (TXM_TAPsw_CEVEN x k) = s.get (TXM_TAPsw_CEVEN x k) :=
    s.get_withInmodes w rfl (by simp only [TXM_TAPsw_CEVEN, Reg.mk, Fld.mk']; omega)
  simp only [State.tapsWritten, hodd, heven]

theorem State.tapsFit_withInmodes (s : State) (w x g : Nat) : (s.withInmodes w).tapsFit x g = s.tapsFit x g := by
  have hmask (n : Nat) : (s.withInmodes w).get (TXM_PROFnC_PARTMASK n) = s.get (TXM_PROFnC_PARTMASK n) :=
    s.get_withInmodes w rfl (by simp only [TXM_PROFnC_PARTMASK, Reg.mk, Fld.mk']; omega)
  have hshape (n : Nat) : (s.withInmodes w).get (TXM_PROFnA_SHAPE n) = s.get (TXM_PROFnA_SHAPE n) :=
    s.get_withInmodes w rfl (by simp only [TXM_PROFnA_SHAPE, Reg.mk, Fld.mk']; omega)
  have hdev (n : Nat) : (s.withInmodes w).get (TXM_PROFnB_DEV n) = s.get (TXM_PROFnB_DEV n) :=
    s.get_withInmodes w rfl (by simp only [TXM_PROFnB_DEV, Reg.mk, Fld.mk']; omega)
  simp only [State.tapsFit, hmask, hshape, hdev]

section Commit

variable {s : State} {w : Nat} (hw : w % 4 = 1)
include hw

/-- A commit of set 0 alone whose gain every enabled profile bears makes the written taps and mode current. -/
theorem State.writeTapctl_fits (hfit : s.tapsFit 0 (peakGain (bit w 8) (s.tapsWritten 0)) = true) :
    s.writeTapctl w = State.sets { s.withInmodes w with txm := { s.txm with taps0 := s.tapsWritten 0, imp0 := bit w 8 } }
      [(TXM_STAT_TAPREJ, 0), (TXM_TAPG_G0, peakGain (bit w 8) (s.tapsWritten 0))] := by
  simp only [s.writeTapctl_first hw, State.tapCommit, if_true, s.flag_inmode0_withInmodes, s.tapsWritten_withInmodes,
    s.tapsFit_withInmodes, hfit]
  rfl

/-- One that some enabled profile does not bear is refused, and the input modes alone are written. -/
theorem State.writeTapctl_refused (hfit : s.tapsFit 0 (peakGain (bit w 8) (s.tapsWritten 0)) = false) :
    s.writeTapctl w = (s.withInmodes w).sets [(TXM_STAT_TAPREJ, 1), (TXM_STAT_REASON, 4)] := by
  simp only [s.writeTapctl_first hw, State.tapCommit, if_true, s.flag_inmode0_withInmodes, s.tapsWritten_withInmodes,
    s.tapsFit_withInmodes, hfit, Bool.false_eq_true, if_false]

end Commit

end Sys2Proof.Machine

namespace Sys2Proof

open Machine Machine.Reg

/-- Settles O21: a refused profile write sets its refusal alone (`State.writeProf_refused`), one that is taken writes its
fields; a commit of tap set 0 reads the taps and profiles as they stood before its input modes (`State.writeTapctl_fits`,
`State.writeTapctl_refused`). -/
theorem transmitSettingsAreCheckedWhole : Obligations.TransmitSettingsAreCheckedWhole := by
  intro s w
  refine ⟨?_, ?_, ?_, ?_, ?_, ?_⟩
  · intro n k hen hr
    have hdistinct : ([TXM_STAT_PROFREJ, TXM_STAT_REASON].map Fld.key).Nodup := by decide
    exact ⟨_, congrArg Host.Outcome.next (State.writeProf_refused hen hr), s.get_sets_of_nodup (v := 1) hdistinct (by simp),
      s.get_sets_of_nodup hdistinct (by simp), OnlyRegs.rfl.sets _ (by simp)⟩
  · intro n h
    have hdistinct : ∀ n : Fin 16, ([TXM_STAT_PROFREJ, TXM_PROFnC_PARTMASK n].map Fld.key).Nodup := by decide
    exact ⟨_, congrArg Host.Outcome.next (State.writeProf_mask h), s.get_sets_of_nodup (v := 0) (hdistinct n) (by simp),
      (State.get_set_same ..).trans (Nat.mod_eq_of_lt w.isLt), OnlyRegs.rfl.sets _ (by simp)⟩
  · intro n hoff hmod hshape
    have hdistinct := wordASets_nodup n w.toNat
    have hm : (TXM_PROFnA_MOD n).allows (bits w.toNat 29 3) = true := by
      simpa [Fld.allows, TXM_PROFnA_MOD, Reg.mk, Fld.mk'] using hmod
    have hs : (TXM_PROFnA_SHAPE n).allows (bits w.toNat 26 3) = true := by
      simpa [Fld.allows, TXM_PROFnA_SHAPE, Reg.mk, Fld.mk'] using hshape
    exact ⟨_, congrArg Host.Outcome.next (State.writeProf_wordA hoff hm hs),
      s.get_sets_bits hdistinct (by simp [wordASets]) rfl, s.get_sets_bits hdistinct (by simp [wordASets]) rfl,
      s.get_sets_bits hdistinct (by simp [wordASets]) rfl, s.get_sets_bits hdistinct (by simp [wordASets]) rfl, s.sets_rest _⟩
  · intro hw hfit
    have hdistinct : ([TXM_STAT_TAPREJ, TXM_TAPG_G0].map Fld.key).Nodup := by decide
    exact ⟨_, congrArg Host.Outcome.next (State.writeTapctl_fits hw hfit), rfl,
      State.get_sets_of_nodup (v := 0) _ hdistinct (by simp), State.get_sets_of_nodup _ hdistinct (by simp), rfl⟩
  · intro hw hfit
    have hdistinct : ([TXM_STAT_TAPREJ, TXM_STAT_REASON].map Fld.key).Nodup := by decide
    exact ⟨_, congrArg Host.Outcome.next (State.writeTapctl_refused hw hfit),
      State.get_sets_of_nodup (v := 1) _ hdistinct (by simp), State.get_sets_of_nodup (v := 4) _ hdistinct (by simp),
      ((s.withInmodes_only _).mono (by simp)).sets _ (by simp)⟩
  · have hdistinct : ([TXM_FEMPAT_OFFPAT, TXM_FEMPAT_TXPATB, TXM_FEMPAT_TXPATA, TXM_FEMPAT_RXPAT].map Fld.key).Nodup := by decide
    exact ⟨_, rfl, s.get_sets_bits hdistinct (by simp) rfl, s.get_sets_bits hdistinct (by simp) rfl,
      s.get_sets_bits hdistinct (by simp) rfl, s.get_sets_bits hdistinct (by simp) rfl, OnlyRegs.rfl.sets _ (by simp)⟩

end Sys2Proof
